-- ==== Sys2Proof/Word.lean ====
section
/-! DEFINITION. The plain types every file uses: bytes of the request port and the field line, and
sparse tables keyed by a record number. -/

namespace Sys2Proof

/-- One byte of a request, a response or a field line frame (R192, R119). -/
abbrev Byte := BitVec 8

/-- A sparse table: (record number, record) pairs, record numbers strictly rising. A record that is
not listed stands at its power-on value. -/
abbrev Table (α : Type) := List (Nat × α)

end Sys2Proof
end

