-- ==== Sys2Proof/Config.lean ====
section
/-! DEFINITION. The figures that hold throughout the AH316 (00_scope.md) and the choices the manual
leaves open, which no proof can evaluate. -/

namespace Sys2Proof.Config

/-- Slots within horizon: the current slot and the 671 after it (00_scope.md). -/
abbrev horizon : Nat := 672
/-- Slots in a week (00_scope.md). -/
abbrev week : Nat := 672
/-- Minutes in a slot (00_scope.md). -/
abbrev slotMinutes : Nat := 15
/-- Litres of one slot at 1 L/s (00_scope.md). -/
abbrev slotLitres : Nat := 900
/-- Reaches 0 to 31 (00_scope.md). -/
abbrev reaches : Nat := 32
/-- Greatest depth of the reach tree (00_scope.md). -/
abbrev maxDepth : Nat := 8
/-- Points 0 to 1,023 (00_scope.md). -/
abbrev points : Nat := 1024
/-- Channels of a station (00_scope.md). -/
abbrev channels : Nat := 8
/-- Field stations 0 to 127 (00_scope.md). -/
abbrev stations : Nat := 128
/-- Accounts 0 to 767 (00_scope.md). -/
abbrev accounts : Nat := 768
/-- Tariff classes 0 to 7 (00_scope.md). -/
abbrev classes : Nat := 8
/-- Entries of the order table (R38). -/
abbrev orders : Nat := 2048
/-- Live orders of an account, at most (R42). -/
abbrev liveOrders : Nat := 24
/-- Entries of the waiting list, at most (R72). -/
abbrev waiting : Nat := 96
/-- Standing orders 0 to 191 (R80). -/
abbrev templates : Nat := 192
/-- Top of a 32-bit counter: minutes, litres, cents, placement sequence (00_scope.md, R40). -/
abbrev counterMax : Nat := 4294967295
/-- Top of a 16-bit counter (R186, section 9.1). -/
abbrev countMax : Nat := 65535
/-- Pulses after which a totalizer returns to 0 (R126). -/
abbrev totalizerSpan : Nat := 16777216
/-- 100% in bp (00_scope.md). -/
abbrev fullShare : Nat := 10000
/-- The NEAR threshold in bp (R148). -/
abbrev nearShare : Nat := 9000
/-- Units of the charge residual in one cent (R152). -/
abbrev centUnits : Nat := 100000

/-- R117 does not say whether a transaction whose final attempt fails by a bad reply ends at once or
at that attempt's deadline. Log entry 9. -/
opaque finalFailureEndsAtOnce : Bool

end Sys2Proof.Config
end

