-- ==== Sys2Proof/Syntax.lean ====
section
/-! DEFINITION. The commands and events of the AH316: one constructor per row of
spec/opcode_table.json, with the operands the rule that owns the row gives it. -/

namespace Sys2Proof

/-- The thirteen error kinds, in code order (section 10.1). -/
inductive ErrorKind
  | stationSilent | frameError | setpointUnconfirmed | gateFault | localHoldFault
  | meterImplausible | meterFailed | reachOverload | headShortfall | counterSaturated
  | standingSuspended | sweepAborted | commandOverrun
  deriving DecidableEq, Repr

/-- The kinds of sweep, in the order of section 9.1. -/
inductive SweepKind
  | curtail | supplyBump | periodClose | seasonOpen
  deriving DecidableEq, Repr

/-- The reference an error report carries (section 10.1, R197): a number, a sweep with its cursor, or
none. -/
inductive ErrorRef
  | absent
  | number (n : Nat)
  | sweep (kind : SweepKind) (cursor : Nat)
  deriving DecidableEq, Repr

/-- The local/remote switch of a station channel (section 5.4). -/
inductive Switch
  | remote | manual
  deriving DecidableEq, Repr

/-- What the host sends in a transaction, or after its first byte: whole bytes, and how many bits of one more
byte are clocked before CS rises. -/
structure Clocked where
  bytes : List Byte
  bits : Nat
  deriving DecidableEq, Repr

/-- A piece of a STATUS: how many whole bytes are clocked after the first, or, when CS has stayed low since
a piece before it, how many more; whether CS then rises, and how many bits of one more byte are clocked before
it does. -/
structure Piece where
  bytes : Nat
  bits : Nat
  ends : Bool
  deriving DecidableEq, Repr

/-- A command or event of the part. A number that a request carries in a byte field is the number
sent; a field that may be absent, none, UNCHANGED or UNLIMITED is an Option, none for that value
(R197). -/
inductive Instr
  /- Transactions on the request port (R192). -/
  /-- COMMAND: what follows 0xC1. -/
  | command (sent : Clocked)
  /-- FETCH: how many bits are clocked after the first byte. -/
  | fetch (bits : Nat)
  /-- STATUS, whole or a piece of one: other events may be taken between two pieces (R193). -/
  | status (piece : Piece)
  /-- Any other transaction: what is clocked, no whole byte when CS rose before eight bits. -/
  | ignoredTransaction (sent : Clocked)
  /- Requests, taken at their owning block (section 11.4). -/
  | reachSet (action reach : Nat) (parent : Option Nat) (capacity lag : Nat)
  | reachQuery (reach : Nat)
  | pointSet (point kind reach account rated frostRate mantissa shift : Nat)
  | pointQuery (point : Nat)
  | accountSet (account cls base : Nat)
  | accountQuery (account part : Nat)
  | accountSuspend (account : Nat)
  | accountResume (account : Nat)
  | accountClose (account : Nat)
  | tariffSet (cls b1 b2 b3 r0 r1 r2 r3 unordered frost : Nat)
  | tariffQuery (cls : Nat)
  | districtSet (lead supply bitRate timeout pollInterval : Nat)
  | districtQuery
  | clockSet (minute : Nat)
  | clockQuery
  | capacityQuery (reach first count : Nat)
  | supplySet (first count flow : Nat)
  /-- PLACE; `tries` is how many tries of a slide are made before another event is taken (R48: each
  try is one event). -/
  | place (point start duration flow conflict limit tries : Nat)
  | amend (handle : Nat) (flow endSlot : Option Nat)
  | cancel (scope reference running : Nat)
  | orderQuery (handle : Nat)
  | retire (handle : Nat)
  | nextChanged
  | waitlistQuery (position : Nat)
  | standingSet (index point offset duration flow conflict : Nat) (count : Option Nat)
  | standingResume (index : Nat)
  | standingClear (index : Nat)
  | standingQuery (index : Nat)
  | pointEnable (point : Nat)
  | pointDisable (point action : Nat)
  | localAck (point : Nat)
  | frostCall (scope reach : Nat)
  | frostEnd (scope reach : Nat)
  | fieldStart
  | fieldStop
  | resume
  | stationQuery (station : Nat)
  | meterRebase (point : Nat)
  | meterQuery (point : Nat)
  | transfer (giver taker amount : Nat)
  | periodClose (scope reference : Nat)
  | seasonOpen
  | statementQuery (account : Nat)
  | nextAccountChanged
  | curtail (scope cls base size share drain : Nat)
  | sweepQuery
  | errorQuery
  | errorClear (severity : Nat)
  | severitySet (kind severity : Nat)
  | countSelect (kind : Option Nat)
  | attentionQuery
  | attentionMask (error sweepDone orderMarks accountMarks : Nat)
  | softReset
  /- Reset and power (R198, R199). -/
  | resetAsserted
  | orphanCompletion
  | powerOn
  | powerOnInitComplete
  /- The minute and the boundary (R21, R22). -/
  | minuteEdge
  | orderBookBoundary
  | scheduledOrderNotice (point : Nat)
  | releaseControlBoundary
  | meterBoundary
  | sweepBoundary
  /- The field line (R108, R117) and the deliveries it makes. -/
  | pollIntervalElapsed (station : Nat)
  | attemptDeadline
  | fieldReply (frame : List Byte)
  | appliedSetpointReport (point applied : Nat)
  | gateReport (point : Nat) (switch : Switch) (position : Nat) (fault : Bool)
  | meterReading (point totalizer : Nat) (fault : Bool)
  | errorReport (kind : ErrorKind) (ref : ErrorRef)
  | holdRequest
  /- Sweep steps (R166). -/
  | curtailStep
  | supplyBumpStep
  | periodCloseStep
  | seasonOpenStep
  | sweepEnd
  | resetReleased
  | powerOff
  /-- The leading bytes of a reply: its address byte and its kind byte. -/
  | replyKindByte (address kind : Byte)
  | outFrameSent
  deriving DecidableEq, Repr

end Sys2Proof
end

