-- ==== Sys2Proof/WellFormed.lean ====
section
/-! DEFINITION. Which terms of Instr are commands: every operand fits the field that carries it, and a
field that may be absent does not hold the value that codes its absence (R197). A number out of the
owning rule's range is still a command: its block refuses or clamps it. -/

namespace Sys2Proof

/-- The value fits a field of one byte. -/
def fits8 (n : Nat) : Bool := decide (n < 256)
/-- The value fits a field of two bytes. -/
def fits16 (n : Nat) : Bool := decide (n < 65536)
/-- The value fits a field of four bytes. -/
def fits32 (n : Nat) : Bool := decide (n < 4294967296)

/-- An optional field of one byte: present values are below 255, which codes absence. -/
def optional8 : Option Nat → Bool
  | none => true
  | some n => decide (n < 255)
/-- An optional field of two bytes: present values are below 65,535. -/
def optional16 : Option Nat → Bool
  | none => true
  | some n => decide (n < 65535)
/-- An optional field of four bytes: present values are below 4,294,967,295. -/
def optional32 : Option Nat → Bool
  | none => true
  | some n => decide (n < 4294967295)

/-- The first byte of a transaction selects COMMAND, FETCH or STATUS (R192). -/
def selectsTransaction (b : Byte) : Bool := b == 0xC1#8 || b == 0xF0#8 || b == 0x5A#8

/-- An error report carries the reference its kind is given in section 10.1. -/
def referenceFits : ErrorKind → ErrorRef → Bool
  | .sweepAborted, .sweep _ _ => true
  | .sweepAborted, _ => false
  | .commandOverrun, .absent => true
  | .commandOverrun, _ => false
  | _, .number n => fits32 n
  | _, _ => false

/-- The command is one the interfaces of the part can carry. -/
def WellFormed : Instr → Bool
  | .command m => decide (m.bits < 8)
  | .fetch _ => true
  | .status p => decide (p.bits < 8) && (p.ends || decide (p.bits = 0))
  | .ignoredTransaction m => decide (m.bits < 8) && !m.bytes.head?.any selectsTransaction
  | .reachSet a r p c l => fits8 a && fits8 r && optional8 p && fits16 c && fits8 l
  | .reachQuery r => fits8 r
  | .pointSet p k r a f q m h =>
      fits16 p && fits8 k && fits8 r && fits16 a && fits16 f && fits16 q && fits16 m && fits8 h
  | .pointQuery p => fits16 p
  | .accountSet a c b => fits16 a && fits8 c && fits32 b
  | .accountQuery a p => fits16 a && fits8 p
  | .accountSuspend a => fits16 a
  | .accountResume a => fits16 a
  | .accountClose a => fits16 a
  | .tariffSet c b1 b2 b3 r0 r1 r2 r3 u f =>
      fits8 c && fits16 b1 && fits16 b2 && fits16 b3 && fits16 r0 && fits16 r1 && fits16 r2 &&
        fits16 r3 && fits16 u && fits16 f
  | .tariffQuery c => fits8 c
  | .districtSet l d b t p => fits8 l && fits16 d && fits16 b && fits16 t && fits16 p
  | .districtQuery => true
  | .clockSet m => fits32 m
  | .clockQuery => true
  | .capacityQuery r f c => fits8 r && fits32 f && fits8 c
  | .supplySet f c w => fits32 f && fits16 c && fits16 w
  | .place p t d f o l _ => fits16 p && fits32 t && fits8 d && fits16 f && fits8 o && fits8 l
  | .amend h f e => fits16 h && optional16 f && optional32 e
  | .cancel c r o => fits8 c && fits16 r && fits8 o
  | .orderQuery h => fits16 h
  | .retire h => fits16 h
  | .nextChanged => true
  | .waitlistQuery p => fits8 p
  | .standingSet x p o d f c n =>
      fits8 x && fits16 p && fits16 o && fits8 d && fits16 f && fits8 c && optional8 n
  | .standingResume x => fits8 x
  | .standingClear x => fits8 x
  | .standingQuery x => fits8 x
  | .pointEnable p => fits16 p
  | .pointDisable p a => fits16 p && fits8 a
  | .localAck p => fits16 p
  | .frostCall c r => fits8 c && fits8 r
  | .frostEnd c r => fits8 c && fits8 r
  | .fieldStart => true
  | .fieldStop => true
  | .resume => true
  | .stationQuery a => fits8 a
  | .meterRebase p => fits16 p
  | .meterQuery p => fits16 p
  | .transfer g t v => fits16 g && fits16 t && fits32 v
  | .periodClose c r => fits8 c && fits16 r
  | .seasonOpen => true
  | .statementQuery a => fits16 a
  | .nextAccountChanged => true
  | .curtail c k b z q d => fits8 c && fits8 k && fits16 b && fits16 z && fits16 q && fits8 d
  | .sweepQuery => true
  | .errorQuery => true
  | .errorClear v => fits8 v
  | .severitySet k v => fits8 k && fits8 v
  | .countSelect k => optional8 k
  | .attentionQuery => true
  | .attentionMask a b c d => fits8 a && fits8 b && fits8 c && fits8 d
  | .softReset => true
  | .resetAsserted => true
  | .orphanCompletion => true
  | .powerOn => true
  | .powerOnInitComplete => true
  | .minuteEdge => true
  | .orderBookBoundary => true
  | .scheduledOrderNotice p => decide (p < Config.points)
  | .releaseControlBoundary => true
  | .meterBoundary => true
  | .sweepBoundary => true
  | .pollIntervalElapsed a => decide (a < Config.stations)
  | .attemptDeadline => true
  | .fieldReply _ => true
  | .appliedSetpointReport p v => decide (p < Config.points) && fits16 v
  | .gateReport p _ g _ => decide (p < Config.points) && fits8 g
  | .meterReading p n _ => decide (p < Config.points) && decide (n < Config.totalizerSpan)
  | .errorReport k r => referenceFits k r
  | .holdRequest => true
  | .curtailStep => true
  | .supplyBumpStep => true
  | .periodCloseStep => true
  | .seasonOpenStep => true
  | .sweepEnd => true
  | .resetReleased => true
  | .powerOff => true
  | .replyKindByte _ _ => true
  | .outFrameSent => true

end Sys2Proof
end

