-- ==== Sys2Proof/Decode.lean ====
section
/-! DEFINITION. The words of the opcode table. No row of spec/opcode_table.json gives bits: the part
takes its commands as transactions, frames and events, not as instruction words. The bytes of a
request are parsed in Machine/Operands.lean. -/

namespace Sys2Proof

/-- The command an opcode table word spells: none, since no row of the table gives bits. -/
def decodeTableWord (_nbits _w : Nat) : Option Instr := none

end Sys2Proof
end

