-- ==== Sys2Proof/Machine/State.lean ====
section
/-! DEFINITION. Everything the manual gives the AH316, as plain data: the records of the nine blocks,
the pins that are levels, the events one block has handed to another and that have not been taken,
and the queue of commands. -/

namespace Sys2Proof.Machine

/-- Result codes of a response (section 11.2). -/
inductive Result
  | done | accepted | slid | queued | nothing
  | badFrame | badParam | busySweep | noSuchOrder | noSuchPoint | noSuchAccount | noSuchReach
  | accountNotOpen | allocationShort | capacityShort | tooSoon | beyondHorizon | overlap | tableFull
  | accountOrderLimit | waitlistFull | wrongState | inUse
  deriving DecidableEq, Repr

/-- What an owning block answers: result, data bytes, and the order the answer names (R71), if any. -/
structure Reply where
  result : Result
  data : List Byte
  names : Option Nat
  deriving DecidableEq, Repr

/-- The response buffer's contents (chapter 11). -/
structure Response where
  tag : Byte
  code : Byte
  reply : Reply
  deriving DecidableEq, Repr

/-- A command frame in the command buffer (R194). -/
structure Frame where
  code : Byte
  tag : Byte
  params : List Byte
  deriving DecidableEq, Repr

/-- The state of the request port (section 11.2). -/
inductive PortState
  | idle | executing | responseWaiting
  deriving DecidableEq, Repr

/-- The attention enable mask (R190). -/
structure Mask where
  error : Bool
  sweepDone : Bool
  orderMarks : Bool
  accountMarks : Bool
  deriving DecidableEq, Repr

/-- The transaction that CS still frames after a piece of a STATUS (R192, R193): none; a STATUS, whose further
bytes are the status byte; one begun during initialisation, whose further bytes are 0x00 (R199); one begun
while the part drives nothing (R198). -/
inductive Shift
  | idle | status | zeros | silent
  deriving DecidableEq, Repr

/-- The request port's records (chapter 11), the bits it has driven on MISO in the last transaction, and whether
that one goes on. -/
structure Port where
  state : PortState
  command : Option Frame
  response : Option Response
  overrun : Bool
  orphan : Bool
  mask : Mask
  miso : List Bool
  shift : Shift
  deriving DecidableEq, Repr

/-- Whether the part is supplied and initialised (R199). -/
inductive Power
  | off | initialising | on
  deriving DecidableEq, Repr

/-- A configured reach (section 1.2). -/
structure Reach where
  parent : Option Nat
  capacity : Nat
  lag : Nat
  check : Option Nat
  deriving DecidableEq, Repr

/-- The head mark of a slot (R25). -/
inductive HeadMark
  | unmarked | bumpPending | shortfall
  deriving DecidableEq, Repr

/-- The Slot Calendar's records (chapter 2). `committed` is keyed by slot × 32 + reach. -/
structure Calendar where
  clock : Nat
  reaches : Table Reach
  committed : Table Nat
  supply : Table Nat
  heads : Table HeadMark
  defaultSupply : Nat
  deriving DecidableEq, Repr

/-- The district settings other than the default supply (R20). -/
structure Settings where
  lead : Nat
  bitRate : Nat
  timeout : Nat
  pollInterval : Nat
  deriving DecidableEq, Repr

/-- What an order does when it meets an overlap or a shortage (section 3.1). -/
inductive OnConflict
  | refuse | slide | queue
  deriving DecidableEq, Repr

/-- Who made an order (section 3.1). -/
inductive Origin
  | host | standing (index : Nat)
  deriving DecidableEq, Repr

/-- States of an order (R41). -/
inductive OrderState
  | pendingWait | confirmed | running | suspended | closing | closed | cancelled | expired
  deriving DecidableEq, Repr

/-- Why a due order is not running (section 3.1). -/
inductive SuspendReason
  | manual | disabled
  deriving DecidableEq, Repr

/-- Why an order ended (R41). -/
inductive CloseReason
  | delivered | endedEarly | cancelledHost | curtailed | bumped | accountSuspended | expiredWait
  deriving DecidableEq, Repr

/-- An order record (section 3.1); its handle is its entry's generation and index. -/
structure Order where
  account : Nat
  point : Nat
  start : Nat
  duration : Nat
  flow : Nat
  conflict : OnConflict
  origin : Origin
  sequence : Nat
  state : OrderState
  suspendReason : Option SuspendReason
  cut : Option Nat
  ordered : Nat
  delivered : Nat
  estimated : Nat
  tail : Nat
  slidBy : Nat
  closeReason : Option CloseReason
  deriving DecidableEq, Repr

/-- States of a standing order record that is not VACANT (R80). -/
inductive TemplateState
  | active | suspended | exhausted
  deriving DecidableEq, Repr

/-- A standing order record that is not VACANT (section 4.4). `remaining` is none for UNLIMITED. -/
structure Template where
  state : TemplateState
  point : Nat
  offset : Nat
  duration : Nat
  flow : Nat
  conflict : OnConflict
  remaining : Option Nat
  next : Nat
  refusals : Nat
  lastResult : Option Result
  lastOrder : Option Nat
  deriving DecidableEq, Repr

/-- A slide search between two of its tries (R48): the next distance to try and the refusal to give
when no try passes. -/
structure Search where
  next : Nat
  failure : Reply
  deriving DecidableEq, Repr

/-- The Order Book's records (chapters 3 and 4). A table index that `orders` does not list is free. -/
structure OrderBook where
  orders : Table Order
  generations : Table Nat
  marks : List Nat
  waiting : List Nat
  owed : Bool
  sequence : Nat
  slot : Nat
  templates : Table Template
  search : Option Search
  deriving DecidableEq, Repr

/-- The kind of a point that is not UNUSED (section 1.3). -/
inductive PointKind
  | turnout | check
  deriving DecidableEq, Repr

/-- The mode of a point (section 5.2). -/
inductive Mode
  | disabled | auto | localHold
  deriving DecidableEq, Repr

/-- A meter calibration (section 1.3). -/
structure Calibration where
  mantissa : Nat
  shift : Nat
  deriving DecidableEq, Repr

/-- A RUNNING or SUSPENDED order as Release Control was told of it: handle and flow (R89). -/
structure Scheduled where
  handle : Nat
  flow : Nat
  deriving DecidableEq, Repr

/-- A frost backup: the scheduled order saved, or none, and its flow S (section 5.1). -/
structure Backup where
  order : Option Nat
  flow : Nat
  deriving DecidableEq, Repr

/-- The field side of a point (section 6.3). -/
structure FieldSide where
  acknowledged : Nat
  inFlight : Option Nat
  declined : Option Nat
  sendPending : Bool
  resendOwed : Bool
  unconfirmed : Bool
  deriving DecidableEq, Repr

/-- States of a meter (section 7.1). -/
inductive MeterState
  | meterless | rebase | normal | suspect | failed
  deriving DecidableEq, Repr

/-- A meter record (section 7.1). -/
structure Meter where
  state : MeterState
  baseline : Nat
  residual : Nat
  lastMinute : Nat
  suspects : Nat
  seasonMetered : Nat
  seasonEstimated : Nat
  deriving DecidableEq, Repr

/-- A point that is not UNUSED: configuration (section 1.3), control record (section 5.1), field side
and meter record. The frost flag is set exactly when `backup` is held (R101). -/
structure Point where
  kind : PointKind
  reach : Nat
  account : Option Nat
  rated : Nat
  frostRate : Nat
  mode : Mode
  switch : Switch
  latch : Bool
  target : Nat
  scheduled : Option Scheduled
  backup : Option Backup
  closeOwed : Bool
  overload : Bool
  position : Nat
  gateFault : Bool
  active : Calibration
  staged : Option Calibration
  field : FieldSide
  meter : Meter
  deriving DecidableEq, Repr

/-- Whether a station is answered as alive (R106). -/
inductive StationState
  | responding | silent
  deriving DecidableEq, Repr

/-- A station record (R106). -/
structure Station where
  polled : Bool
  state : StationState
  failures : Nat
  lastReply : Option Nat
  silentSince : Option Nat
  interval : Nat
  due : Bool
  deriving DecidableEq, Repr

/-- Field modes (section 6.2). -/
inductive FieldMode
  | stopped | run | hold
  deriving DecidableEq, Repr

/-- What a transaction does: a SET carries a value to a point, and remembers whether the point became
UNUSED meanwhile (R115); a POLL asks a station (chapter 6). -/
inductive Job
  | set (point value : Nat) (removed : Bool)
  | poll (station : Nat)
  deriving DecidableEq, Repr

/-- Where an attempt stands (R117): sending its frame, awaiting a reply, receiving a reply whose kind
byte fixed its length, or failed and discarding bytes up to its deadline, which a reply of that length had
moved (0 for a reply whose kind byte fixes none). -/
inductive Phase
  | sending | waiting | receiving (length : Nat) | failed (length : Nat)
  deriving DecidableEq, Repr

/-- The transaction in flight (chapter 6, R117, R118), with the bit rate and the response timeout its
present attempt began with. -/
structure Transaction where
  job : Job
  attempt : Nat
  lastAttempt : Bool
  phase : Phase
  bitRate : Nat
  timeout : Nat
  deriving DecidableEq, Repr

/-- The Field Line Controller's records (chapter 6). -/
structure Line where
  mode : FieldMode
  transaction : Option Transaction
  rotation : Nat
  stations : Table Station
  deriving DecidableEq, Repr

/-- States of an account that is not VACANT (section 1.4). -/
inductive AccountState
  | opened | suspended | closed
  deriving DecidableEq, Repr

/-- Reported standings (R148), in the order R18 lists them. -/
inductive Standing
  | good | near | over | suspended | closed
  deriving DecidableEq, Repr

/-- The statement of a closed period (R160). -/
structure Statement where
  period : Nat
  ordered : Nat
  unordered : Nat
  frost : Nat
  estimated : Nat
  centsOrdered : Nat
  centsUnordered : Nat
  centsFrost : Nat
  total : Nat
  standing : Standing
  minute : Nat
  deriving DecidableEq, Repr

/-- An account that is not VACANT (section 1.4, section 8.1). -/
structure Account where
  state : AccountState
  cls : Nat
  base : Nat
  curtailment : Nat
  transferNet : Int
  seasonOrdered : Nat
  seasonUnordered : Nat
  seasonFrost : Nat
  seasonEstimated : Nat
  reserved : Nat
  periodOrdered : Nat
  periodUnordered : Nat
  periodFrost : Nat
  periodEstimated : Nat
  centsOrdered : Nat
  centsUnordered : Nat
  centsFrost : Nat
  residual : Nat
  period : Nat
  statement : Option Statement
  live : Nat
  mark : Bool
  deriving DecidableEq, Repr

/-- A tariff class (section 1.5). -/
structure Tariff where
  b1 : Nat
  b2 : Nat
  b3 : Nat
  r0 : Nat
  r1 : Nat
  r2 : Nat
  r3 : Nat
  unordered : Nat
  frost : Nat
  deriving DecidableEq, Repr

/-- The scope of a sweep (section 9.1); `nowhere` is the actual scope NONE (R169). -/
inductive Scope
  | district | cls (c : Nat) | block (base size : Nat) | run (first count : Nat) | nowhere
  deriving DecidableEq, Repr

/-- The drain option of a curtailment (R169). -/
inductive Drain
  | letRun | stopRunning
  deriving DecidableEq, Repr

/-- The state of a sweep (section 9.1). -/
inductive SweepState
  | inProgress | done | aborted
  deriving DecidableEq, Repr

/-- The counts of a sweep (section 9.1). -/
structure Counts where
  changed : Nat
  cancelled : Nat
  shortened : Nat
  ended : Nat
  bumped : Nat
  requeued : Nat
  deriving DecidableEq, Repr

/-- The sweep status record, once a sweep has started (section 9.1). The curtailment and the drain
option are present for a CURTAIL. -/
structure Sweep where
  kind : SweepKind
  requested : Scope
  actual : Scope
  share : Option Nat
  drain : Option Drain
  cursor : Nat
  counts : Counts
  state : SweepState
  deriving DecidableEq, Repr

/-- The Sweep Engine's records (R164): the status record, empty before the first sweep, and the done
indication. -/
structure SweepEngine where
  status : Option Sweep
  done : Bool
  deriving DecidableEq, Repr

/-- A first-error record (R184). -/
structure ErrorRecord where
  kind : ErrorKind
  ref : ErrorRef
  minute : Nat
  deriving DecidableEq, Repr

/-- One severity's first-error record and next-kinds set, by kind code, rising (R184). -/
structure Episode where
  first : Option ErrorRecord
  next : List Nat
  deriving DecidableEq, Repr

/-- The Fault Unit's records (chapter 10). -/
structure Faults where
  severities : List Nat
  note : Episode
  attend : Episode
  stop : Episode
  selected : Option Nat
  counter : Nat
  deriving DecidableEq, Repr

/-- A notice of a turnout's scheduled order, on its way to Release Control (R89). -/
structure Notice where
  point : Nat
  order : Option Scheduled
  deriving DecidableEq, Repr

/-- What a poll reply delivers to Release Control for a point (R100). -/
structure GateNews where
  point : Nat
  switch : Switch
  position : Nat
  fault : Bool
  deriving DecidableEq, Repr

/-- What a poll reply delivers to the Meter Accounting Unit for a point (R125). -/
structure Reading where
  point : Nat
  totalizer : Nat
  fault : Bool
  deriving DecidableEq, Repr

/-- The applied setpoint of a SET_ACK, handed to Release Control (R114). -/
structure Applied where
  point : Nat
  flow : Nat
  deriving DecidableEq, Repr

/-- An error report on its way to the Fault Unit (R183). -/
structure Report where
  kind : ErrorKind
  ref : ErrorRef
  deriving DecidableEq, Repr

/-- Events that one block has handed to another and that have not been taken (R22, R89, R114, R120,
R183, R188). Log entry 2. -/
structure Mail where
  orderBook : List Nat
  release : List Nat
  meter : List Nat
  sweep : List Nat
  notices : List Notice
  gates : List GateNews
  readings : List Reading
  applied : List Applied
  reports : List Report
  holds : Nat
  deriving DecidableEq, Repr

/-- The AH316. -/
structure State where
  power : Power
  resetAsserted : Bool
  port : Port
  cal : Calendar
  settings : Settings
  obk : OrderBook
  points : Table Point
  frostLoad : Table Nat
  line : Line
  accounts : Table Account
  tariffs : Table Tariff
  sweep : SweepEngine
  faults : Faults
  mail : Mail
  pending : List Instr
  deriving DecidableEq, Repr

/-- Reasons the part stops. There is none: the manual names no condition in which the part stops
taking its commands, so no meaning raises a fault (log entry 30). -/
inductive Fault
  deriving DecidableEq, Repr

/-- Reasons the model does not answer. -/
inductive Refusal
  /-- Raised by exec for a row of the opcode table that has no meaning yet. Safe: the model stops where
  the part goes on. No row is left so. -/
  | notModelled (mnemonic : String)
  deriving DecidableEq, Repr

/-- The attention enable mask at power-on (R190). -/
def Mask.powerOn : Mask :=
  { error := true, sweepDone := true, orderMarks := false, accountMarks := false }

/-- The request port at power-on (R199). -/
def Port.powerOn : Port :=
  { state := .idle, command := none, response := none, overrun := false, orphan := false,
    mask := .powerOn, miso := [], shift := .idle }

/-- The Slot Calendar at power-on (R2, R21, R24, R25). -/
def Calendar.powerOn : Calendar :=
  { clock := 0, reaches := [], committed := [], supply := [], heads := [], defaultSupply := 0 }

/-- The district settings at power-on (R20). -/
def Settings.powerOn : Settings :=
  { lead := 8, bitRate := 19200, timeout := 40, pollInterval := 60 }

/-- The Order Book at power-on (R38, R39, R40, R69, R72, R74, R80). -/
def OrderBook.powerOn : OrderBook :=
  { orders := [], generations := [], marks := [], waiting := [], owed := false, sequence := 0,
    slot := 0, templates := [], search := none }

/-- The Field Line Controller at power-on (R122). -/
def Line.powerOn : Line :=
  { mode := .stopped, transaction := none, rotation := 127, stations := [] }

/-- The Sweep Engine at power-on (R164). -/
def SweepEngine.powerOn : SweepEngine := { status := none, done := false }

/-- An empty first-error record with its empty set (R184). -/
def Episode.empty : Episode := { first := none, next := [] }

/-- The default severities, by kind code (section 10.1). -/
def defaultSeverities : List Nat := [1, 0, 1, 1, 1, 0, 1, 1, 1, 1, 0, 1, 0]

/-- The Fault Unit at power-on (R181, R184, R186). -/
def Faults.powerOn : Faults :=
  { severities := defaultSeverities, note := .empty, attend := .empty, stop := .empty,
    selected := none, counter := 0 }

/-- No event outstanding between the blocks. -/
def Mail.empty : Mail :=
  { orderBook := [], release := [], meter := [], sweep := [], notices := [], gates := [],
    readings := [], applied := [], reports := [], holds := 0 }

/-- The part right after a power-on reset, its initialisation completed (R199; log entry 4). -/
def State.reset : State :=
  { power := .on, resetAsserted := false, port := .powerOn, cal := .powerOn, settings := .powerOn,
    obk := .powerOn, points := [], frostLoad := [], line := .powerOn, accounts := [], tariffs := [],
    sweep := .powerOn, faults := .powerOn, mail := .empty, pending := [] }

end Sys2Proof.Machine
end

