-- ==== Sys2Proof/Machine/Ops.lean ====
section
/-! DEFINITION. The named operations over sparse tables and over the records of State that every
chapter shares: reading and writing a record, setting a mark, counting to a top, handing an event to
another block. -/

namespace Sys2Proof.Machine

/-! ### Sparse tables -/

/-- The record listed at k, if any. -/
def cell? {α : Type} : Table α → Nat → Option α
  | [], _ => none
  | (j, v) :: t, k => if j = k then some v else cell? t k

/-- Write the record at k, keeping the record numbers rising. -/
def setCell {α : Type} : Table α → Nat → α → Table α
  | [], k, v => [(k, v)]
  | (j, w) :: t, k, v =>
    if k < j then (k, v) :: (j, w) :: t else if k = j then (k, v) :: t else (j, w) :: setCell t k v

/-- Remove the record at k. -/
def delCell {α : Type} (t : Table α) (k : Nat) : Table α := t.filter (fun c => c.1 != k)

/-- The value at k of a table whose unlisted entries read d. -/
def valueAt {α : Type} (d : α) (t : Table α) (k : Nat) : α := (cell? t k).getD d

/-- Write the value at k of a table whose unlisted entries read d: writing d removes the entry. -/
def setValue {α : Type} [DecidableEq α] (d : α) (t : Table α) (k : Nat) (v : α) : Table α :=
  if v = d then delCell t k else setCell t k v

/-- Record numbers strictly rising. -/
def risingKeys {α : Type} : Table α → Bool
  | [] => true
  | [_] => true
  | (j, _) :: (k, v) :: t => decide (j < k) && risingKeys ((k, v) :: t)

/-- The canonical form of a table whose unlisted entries read d. -/
def canonical {α : Type} [DecidableEq α] (d : α) (t : Table α) : Bool :=
  risingKeys t && t.all (fun c => decide (c.2 ≠ d))

/-! ### Sets of numbers, rising -/

/-- Add a number to a rising list, once. -/
def addTo : List Nat → Nat → List Nat
  | [], n => [n]
  | m :: t, n => if n < m then n :: m :: t else if n = m then m :: t else m :: addTo t n

/-- Take a number out of a list. -/
def dropFrom (l : List Nat) (n : Nat) : List Nat := l.filter (fun m => m != n)

/-! ### Counters that hold at their top -/

/-- A volume or cents counter after an addition (R142, R156). -/
def saturate (x v : Nat) : Nat := min Config.counterMax (x + v)
/-- The addition would take the counter past its top. -/
def overflows (x v : Nat) : Bool := decide (Config.counterMax < x + v)
/-- A sweep count after an addition (section 9.1). -/
def countUp (x v : Nat) : Nat := min Config.countMax (x + v)

/-! ### Sorted walks -/

/-- Insert into a list that `before` orders. -/
def insertBy {α : Type} (before : α → α → Bool) (x : α) : List α → List α
  | [] => [x]
  | y :: t => if before x y then x :: y :: t else y :: insertBy before x t

/-- The list in the order of `before`. -/
def sortBy {α : Type} (before : α → α → Bool) (l : List α) : List α := l.foldr (insertBy before) []

/-! ### Time -/

/-- The calendar's current slot (R21). -/
def Calendar.slot (c : Calendar) : Nat := c.clock / Config.slotMinutes
/-- The last slot within the calendar's horizon, plus one. -/
def Calendar.horizonEnd (c : Calendar) : Nat := c.slot + Config.horizon
/-- Minutes elapsed since a recorded minute (R23). -/
def elapsedSince (now recorded : Nat) : Nat := now - recorded

/-! ### Points -/

def State.point? (s : State) (p : Nat) : Option Point := cell? s.points p
def State.setPoint (p : Nat) (v : Point) (s : State) : State :=
  { s with points := setCell s.points p v }
/-- Change a point that is not UNUSED. -/
def State.changePoint (p : Nat) (f : Point → Point) (s : State) : State :=
  match s.point? p with
  | none => s
  | some v => s.setPoint p (f v)
/-- The point is a TURNOUT. -/
def State.turnout? (s : State) (p : Nat) : Option Point :=
  match s.point? p with
  | some v => if v.kind = .turnout then some v else none
  | none => none

/-! ### Reaches -/

def State.reach? (s : State) (r : Nat) : Option Reach := cell? s.cal.reaches r
/-- A reach's frost extra load (section 5.1). -/
def State.extraLoad (s : State) (r : Nat) : Nat := valueAt 0 s.frostLoad r

/-! ### Accounts -/

def State.account? (s : State) (a : Nat) : Option Account := cell? s.accounts a
def State.setAccount (a : Nat) (v : Account) (s : State) : State :=
  { s with accounts := setCell s.accounts a v }

/-- A tariff class at its power-on values (R19). -/
def Tariff.powerOn : Tariff :=
  { b1 := 0, b2 := 0, b3 := 0, r0 := 0, r1 := 0, r2 := 0, r3 := 0, unordered := 0, frost := 0 }
def State.tariff (s : State) (c : Nat) : Tariff := valueAt .powerOn s.tariffs c

/-- The effective allocation (R145): base × curtailment ÷ 10,000 plus transfer net, clamped. -/
def Account.effective (a : Account) : Nat :=
  min Config.counterMax
    (Int.toNat (((a.base * a.curtailment / Config.fullShare : Nat) : Int) + a.transferNet))
/-- The used volume (R146). -/
def Account.used (a : Account) : Nat := a.seasonOrdered + a.seasonUnordered
/-- The available volume, signed (R146). -/
def Account.available (a : Account) : Int := (a.effective : Int) - a.used - a.reserved
/-- The standing against the allocation (R148). -/
def Account.standing (a : Account) : Standing :=
  if a.used > a.effective then .over
  else if a.used * Config.fullShare ≥ a.effective * Config.nearShare then .near
  else .good
/-- The reported standing (R148). -/
def Account.reported (a : Account) : Standing :=
  match a.state with
  | .opened => a.standing
  | .suspended => .suspended
  | .closed => .closed

/-- Change an account's figures; its mark is set when the reported standing changes (R148, R162). -/
def Account.revise (f : Account → Account) (a : Account) : Account :=
  { f a with mark := (f a).mark || decide (a.reported ≠ (f a).reported) }
/-- Change an account that is not VACANT, by `Account.revise`. -/
def State.reviseAccount (n : Nat) (f : Account → Account) (s : State) : State :=
  match s.account? n with
  | none => s
  | some a => s.setAccount n (a.revise f)

/-! ### Orders -/

/-- The live states (R41). -/
def Order.live (o : Order) : Bool :=
  match o.state with
  | .pendingWait | .confirmed | .running | .suspended | .closing => true
  | .closed | .cancelled | .expired => false
/-- RUNNING or SUSPENDED. -/
def Order.due (o : Order) : Bool := o.state = .running || o.state = .suspended
/-- The end slot (R38). -/
def Order.endSlot (o : Order) : Nat := o.start + o.duration
/-- The last delivery slot, plus one (R38): after the cut slot, or the end slot. -/
def Order.deliveryEnd (o : Order) : Nat :=
  match o.cut with
  | some c => c + 1
  | none => o.endSlot
/-- The order's share of reserved outstanding (R68). -/
def Order.share (o : Order) : Nat :=
  match o.state with
  | .confirmed | .running | .suspended | .closing => o.ordered - o.delivered
  | .pendingWait | .closed | .cancelled | .expired => 0
/-- What the order adds to its account's live order count (R42). -/
def Order.liveCount (o : Order) : Nat := if o.live then 1 else 0

/-- The volume of a flow over a number of slots. -/
def volume (flow slots : Nat) : Nat := flow * Config.slotLitres * slots

def OrderBook.generation (b : OrderBook) (i : Nat) : Nat := valueAt 0 b.generations i
/-- The handle of the entry with table index i (R38). -/
def OrderBook.handle (b : OrderBook) (i : Nat) : Nat := b.generation i * Config.orders + i
/-- The entry a handle names (R38): its index and its order. -/
def OrderBook.named? (b : OrderBook) (h : Nat) : Option (Nat × Order) :=
  match cell? b.orders (h % Config.orders) with
  | none => none
  | some o =>
    if b.generation (h % Config.orders) = h / Config.orders then some (h % Config.orders, o) else none

/-- Write the order of entry i and hand the Account Unit the change in its share of reserved
outstanding and in the live order count (R42, R68). -/
def State.putOrder (i : Nat) (o : Order) (s : State) : State :=
  let old := cell? s.obk.orders i
  let share := (old.map Order.share).getD 0
  let count := (old.map Order.liveCount).getD 0
  let s1 : State := { s with obk.orders := setCell s.obk.orders i o }
  match s1.account? o.account with
  | none => s1
  | some a =>
    s1.setAccount o.account
      { a with reserved := a.reserved + o.share - share, live := a.live + o.liveCount - count }

/-- Set an order's change mark (R69). -/
def State.markOrder (i : Nat) (s : State) : State := { s with obk.marks := addTo s.obk.marks i }

/-- The generation after a retirement (R38): 31 returns to 0, and entry 2,047 skips 31. -/
def nextGeneration (i g : Nat) : Nat :=
  if g + 1 ≥ (if i = 2047 then 31 else 32) then 0 else g + 1

/-- Retire the order of entry i (R60): the entry is free, its generation advances, its mark clears. -/
def State.retireEntry (i : Nat) (s : State) : State :=
  { s with
    obk.orders := delCell s.obk.orders i
    obk.generations := setValue 0 s.obk.generations i (nextGeneration i (s.obk.generation i))
    obk.marks := dropFrom s.obk.marks i }

/-- Chain order: by start slot, then by placement sequence (R43). -/
def chainBefore (x y : Nat × Order) : Bool :=
  decide (x.2.start < y.2.start) ||
    (decide (x.2.start = y.2.start) && decide (x.2.sequence < y.2.sequence))
/-- The account chain (R43): live and finished orders of the account. -/
def OrderBook.accountChain (b : OrderBook) (a : Nat) : List (Nat × Order) :=
  sortBy chainBefore (b.orders.filter (fun e => e.2.account = a))
/-- The point chain (R44): live orders of the point. -/
def OrderBook.pointChain (b : OrderBook) (p : Nat) : List (Nat × Order) :=
  sortBy chainBefore (b.orders.filter (fun e => decide (e.2.point = p) && e.2.live))
/-- The point's RUNNING or SUSPENDED order (R44). -/
def OrderBook.dueOrder (b : OrderBook) (p : Nat) : Option (Nat × Order) :=
  (b.pointChain p).find? (fun e => e.2.due)
/-- The point's closing order (R44): the CLOSING order latest in the point chain. -/
def OrderBook.closingOrder (b : OrderBook) (p : Nat) : Option (Nat × Order) :=
  (b.pointChain p).reverse.find? (fun e => e.2.state = .closing)

/-- Some order of the district is live. -/
def OrderBook.anyLive (b : OrderBook) : Bool := b.orders.any (fun e => e.2.live)

/-! ### Events handed to another block -/

/-- Report an error to the Fault Unit (R183). -/
def State.report (k : ErrorKind) (r : ErrorRef) (s : State) : State :=
  { s with mail.reports := s.mail.reports ++ [{ kind := k, ref := r }] }
/-- Tell Release Control a turnout's scheduled order (R89). -/
def State.notify (p : Nat) (o : Option Scheduled) (s : State) : State :=
  { s with mail.notices := s.mail.notices ++ [{ point := p, order := o }] }

/-- Take the first element equal to x out of a list. -/
def takeOne {α : Type} [DecidableEq α] (x : α) : List α → Option (List α)
  | [] => none
  | y :: t => if x = y then some t else (takeOne x t).map (y :: ·)

/-- Take the first element that satisfies p out of a list. -/
def takeFirst {α : Type} (p : α → Bool) : List α → Option (α × List α)
  | [] => none
  | y :: t => if p y then some (y, t) else (takeFirst p t).map (fun r => (r.1, y :: r.2))

/-! ### Sweeps -/

/-- A sweep is in progress (R164). -/
def State.sweeping (s : State) : Bool :=
  match s.sweep.status with
  | some w => w.state = .inProgress
  | none => false

/-- The part is supplied (in a meaning that is no transaction). -/
def State.alive (s : State) : Bool := s.power != .off

end Sys2Proof.Machine
end

