-- ==== Sys2Proof/Machine/Flags.lean ====
section
/-! DEFINITION. The indications the part derives from its records: the attention causes, the ATTN
line and the status byte (R189, R190, R193). -/

namespace Sys2Proof.Machine

/-- The ERROR cause is pending (R189). -/
def State.errorPending (s : State) : Bool := s.faults.attend.first.isSome || s.faults.stop.first.isSome
/-- The SWEEP_DONE cause is pending (R189). -/
def State.sweepDonePending (s : State) : Bool := s.sweep.done
/-- The ORDER_MARKS cause is pending (R189). -/
def State.orderMarksPending (s : State) : Bool := !s.obk.marks.isEmpty
/-- The ACCOUNT_MARKS cause is pending (R189). -/
def State.accountMarksPending (s : State) : Bool := s.accounts.any (fun e => e.2.mark)

/-- The ATTN output is asserted (R190): some cause is both pending and enabled. -/
def State.attnAsserted (s : State) : Bool :=
  (s.errorPending && s.port.mask.error) || (s.sweepDonePending && s.port.mask.sweepDone) ||
    (s.orderMarksPending && s.port.mask.orderMarks) ||
    (s.accountMarksPending && s.port.mask.accountMarks)

/-- A bit of the status byte. -/
def statusBit (b : Bool) (place : Nat) : Nat := if b then 2 ^ place else 0

/-- The status byte (R193); 0x03 until power-on initialisation has completed (R199). -/
def State.statusByte (s : State) : Byte :=
  match s.power with
  | .on =>
    BitVec.ofNat 8
      (statusBit (s.port.state = .idle) 7 + statusBit (s.port.state = .responseWaiting) 6 +
        statusBit s.attnAsserted 5 + statusBit s.port.overrun 4 + statusBit s.sweeping 3 +
        (match s.line.mode with
          | .stopped => 0
          | .run => 1
          | .hold => 2))
  | .initialising => 3#8
  | .off => 0#8

/-- A point is sendable (R91): its mode is AUTO, or a closing setpoint is owed. -/
def Point.sendable (p : Point) : Bool := p.mode = .auto || p.closeOwed

/-- A SET for the point is on the line (R113); one whose point became UNUSED is no longer for the
point (R115). -/
def Line.settingPoint (l : Line) (p : Nat) : Bool :=
  match l.transaction with
  | some { job := .set q _ removed, .. } => decide (q = p) && !removed
  | _ => false

end Sys2Proof.Machine
end

