-- ==== Sys2Proof/Machine/Operands.lean ====
section
/-! DEFINITION. The fields of a request and of a response as bytes (R197): widths, codes of named
values, the parsing of each request of the catalogue and the writing of it, and how a request taken at
its owning block is answered (R194). -/

namespace Sys2Proof.Machine

/-! ### Fields, big-endian -/

/-- One byte. -/
def be8 (n : Nat) : List Byte := [BitVec.ofNat 8 n]
/-- Two bytes, high byte first. -/
def be16 (n : Nat) : List Byte := [BitVec.ofNat 8 (n / 256), BitVec.ofNat 8 n]
/-- Four bytes, high byte first. -/
def be32 (n : Nat) : List Byte := be16 (n / 65536) ++ be16 n
/-- Five bytes, high byte first. -/
def be40 (n : Nat) : List Byte := be8 (n / 4294967296) ++ be32 n
/-- An optional field: absence is the largest value of the width. -/
def opt8 (n : Option Nat) : List Byte := be8 (n.getD 255)
def opt16 (n : Option Nat) : List Byte := be16 (n.getD 65535)
def opt32 (n : Option Nat) : List Byte := be32 (n.getD 4294967295)
/-- A district minute that may be absent: a presence byte, then the minute or 0. -/
def optMinute (n : Option Nat) : List Byte :=
  match n with
  | none => be8 0 ++ be32 0
  | some m => be8 1 ++ be32 m
/-- A transfer net: sign byte, magnitude in 4 bytes. -/
def signed32 (n : Int) : List Byte := be8 (if n < 0 then 1 else 0) ++ be32 n.natAbs
/-- An available volume: sign byte, magnitude in 5 bytes. -/
def signed40 (n : Int) : List Byte := be8 (if n < 0 then 1 else 0) ++ be40 n.natAbs

/-- The number that bytes sent high byte first hold. -/
def number (bs : List Byte) : Nat := bs.foldl (fun n b => n * 256 + b.toNat) 0
/-- The field of a given width that begins at byte `off`. -/
def fieldAt (bs : List Byte) (off width : Nat) : Nat := number ((bs.drop off).take width)
/-- The field, or none when it holds the value that codes absence. -/
def optionAt (bs : List Byte) (off width : Nat) : Option Nat :=
  if fieldAt bs off width = 256 ^ width - 1 then none else some (fieldAt bs off width)

/-! ### Codes of named values: their place in the order the owning chapter first lists them -/

/-- yes/no and set/clear: yes and set stand first in chapter 1 and in section 5.1 (log entry 12). -/
def yesNo (b : Bool) : List Byte := be8 (if b then 0 else 1)
/-- An attention enable as stored: 0 disabled, 1 enabled. -/
def enabled (b : Bool) : List Byte := be8 (if b then 1 else 0)
/-- The code of NONE in a field of one byte, also where NONE is one of the field's named values (R197; log
entry 11). -/
def noneCode : Nat := 255

def Result.code : Result → Nat
  | .done => 0 | .accepted => 1 | .slid => 2 | .queued => 3 | .nothing => 4
  | .badFrame => 16 | .badParam => 17 | .busySweep => 18 | .noSuchOrder => 19
  | .noSuchPoint => 20 | .noSuchAccount => 21 | .noSuchReach => 22 | .accountNotOpen => 23
  | .allocationShort => 24 | .capacityShort => 25 | .tooSoon => 26 | .beyondHorizon => 27
  | .overlap => 28 | .tableFull => 29 | .accountOrderLimit => 30 | .waitlistFull => 31
  | .wrongState => 32 | .inUse => 33

def errorCode : ErrorKind → Nat
  | .stationSilent => 0 | .frameError => 1 | .setpointUnconfirmed => 2 | .gateFault => 3
  | .localHoldFault => 4 | .meterImplausible => 5 | .meterFailed => 6 | .reachOverload => 7
  | .headShortfall => 8 | .counterSaturated => 9 | .standingSuspended => 10
  | .sweepAborted => 11 | .commandOverrun => 12

def PointKind.code : Option PointKind → Nat
  | none => 0 | some .turnout => 1 | some .check => 2
def Mode.code : Mode → Nat
  | .disabled => 0 | .auto => 1 | .localHold => 2
def switchCode : Switch → Nat
  | .remote => 0 | .manual => 1
def MeterState.code : MeterState → Nat
  | .meterless => noneCode | .rebase => 1 | .normal => 2 | .suspect => 3 | .failed => 4
def AccountState.code : Option AccountState → Nat
  | none => 0 | some .opened => 1 | some .suspended => 2 | some .closed => 3
def Standing.code : Standing → Nat
  | .good => 0 | .near => 1 | .over => 2 | .suspended => 3 | .closed => 4
def HeadMark.code : HeadMark → Nat
  | .unmarked => noneCode | .bumpPending => 1 | .shortfall => 2
def OnConflict.code : OnConflict → Nat
  | .refuse => 0 | .slide => 1 | .queue => 2
def OnConflict.ofCode? : Nat → Option OnConflict
  | 0 => some .refuse | 1 => some .slide | 2 => some .queue | _ => none
def OrderState.code : OrderState → Nat
  | .pendingWait => 0 | .confirmed => 1 | .running => 2 | .suspended => 3 | .closing => 4
  | .closed => 5 | .cancelled => 6 | .expired => 7
def SuspendReason.code : SuspendReason → Nat
  | .manual => 0 | .disabled => 1
def CloseReason.code : CloseReason → Nat
  | .delivered => 0 | .endedEarly => 1 | .cancelledHost => 2 | .curtailed => 3 | .bumped => 4
  | .accountSuspended => 5 | .expiredWait => 6
def TemplateState.code : Option TemplateState → Nat
  | none => 0 | some .active => 1 | some .suspended => 2 | some .exhausted => 3
def StationState.code : StationState → Nat
  | .responding => 0 | .silent => 1
/-- The FIELD bits of the status byte (R193). -/
def FieldMode.code : FieldMode → Nat
  | .stopped => 0 | .run => 1 | .hold => 2
def sweepKindCode : SweepKind → Nat
  | .curtail => 0 | .supplyBump => 1 | .periodClose => 2 | .seasonOpen => 3
def SweepState.code : SweepState → Nat
  | .inProgress => 0 | .done => 1 | .aborted => 2
def Drain.code : Drain → Nat
  | .letRun => 0 | .stopRunning => 1
def Drain.ofCode? : Nat → Option Drain
  | 0 => some .letRun | 1 => some .stopRunning | _ => none

/-- An order's origin (R59), in two bytes: the choice, then the standing index, 255 for HOST, which has none
(log entry 46). -/
def Origin.bytes : Origin → List Byte
  | .host => be8 0 ++ be8 255
  | .standing i => be8 1 ++ be8 i

/-- An error reference, 5 bytes. -/
def referenceBytes : ErrorRef → List Byte
  | .absent => be8 255 ++ be32 4294967295
  | .number n => be8 0 ++ be32 n
  | .sweep k c => be8 (sweepKindCode k) ++ be32 c

/-- A sweep scope: kind, class, block base, block size, first slot, count, the unused ones absent. -/
def Scope.bytes : Scope → List Byte
  | .district => be8 0 ++ opt8 none ++ opt16 none ++ opt16 none ++ opt32 none ++ opt16 none
  | .cls c => be8 1 ++ be8 c ++ opt16 none ++ opt16 none ++ opt32 none ++ opt16 none
  | .block b z => be8 2 ++ opt8 none ++ be16 b ++ be16 z ++ opt32 none ++ opt16 none
  | .run f n => be8 3 ++ opt8 none ++ opt16 none ++ opt16 none ++ be32 f ++ be16 n
  | .nowhere => be8 255 ++ opt8 none ++ opt16 none ++ opt16 none ++ opt32 none ++ opt16 none

def Calibration.bytes (c : Calibration) : List Byte := be16 c.mantissa ++ be8 c.shift
def Calibration.optBytes : Option Calibration → List Byte
  | none => be16 65535 ++ be8 255
  | some c => c.bytes

/-- A next-kinds set: bit k for kind k. -/
def kindBits (ks : List Nat) : Nat := ks.foldl (fun n k => n ||| 2 ^ k) 0

/-- A first-error record, or its absence. -/
def ErrorRecord.bytes : Option ErrorRecord → List Byte
  | none => be8 255 ++ referenceBytes .absent ++ optMinute none
  | some r => be8 (errorCode r.kind) ++ referenceBytes r.ref ++ optMinute (some r.minute)

/-- Bytes padded with 255 to a width (a path, R197). -/
def padded (w : Nat) (ns : List Nat) : List Byte :=
  ((ns.map (BitVec.ofNat 8)) ++ List.replicate w 255#8).take w

/-! ### The request catalogue (section 11.4) -/

/-- The parameter length of each request code; none for a code the catalogue does not list. -/
def paramLength : Nat → Option Nat
  | 1 => some 6 | 2 => some 1 | 3 => some 13 | 4 => some 2 | 5 => some 7 | 6 => some 3
  | 7 => some 2 | 8 => some 2 | 9 => some 2 | 10 => some 19 | 11 => some 1 | 12 => some 9
  | 13 => some 0 | 16 => some 4 | 17 => some 0 | 18 => some 6 | 19 => some 8
  | 32 => some 11 | 33 => some 8 | 34 => some 4 | 35 => some 2 | 36 => some 2 | 37 => some 0
  | 40 => some 1 | 41 => some 10 | 42 => some 1 | 43 => some 1 | 44 => some 1
  | 48 => some 2 | 49 => some 3 | 50 => some 2 | 51 => some 2 | 52 => some 2
  | 56 => some 0 | 57 => some 0 | 58 => some 0 | 59 => some 1 | 64 => some 2 | 65 => some 2
  | 72 => some 8 | 73 => some 3 | 74 => some 0 | 75 => some 2 | 76 => some 0
  | 80 => some 9 | 81 => some 0 | 88 => some 0 | 89 => some 1 | 90 => some 2 | 91 => some 1
  | 92 => some 0 | 93 => some 4 | 120 => some 0
  | _ => none

/-- The request that a code and its parameter bytes spell. PLACE is spelt with as many tries as any
slide limit asks (R48). -/
def parseRequest (code : Nat) (p : List Byte) : Option Instr :=
  match code with
  | 1 => some (.reachSet (fieldAt p 0 1) (fieldAt p 1 1) (optionAt p 2 1) (fieldAt p 3 2) (fieldAt p 5 1))
  | 2 => some (.reachQuery (fieldAt p 0 1))
  | 3 => some (.pointSet (fieldAt p 0 2) (fieldAt p 2 1) (fieldAt p 3 1) (fieldAt p 4 2) (fieldAt p 6 2)
      (fieldAt p 8 2) (fieldAt p 10 2) (fieldAt p 12 1))
  | 4 => some (.pointQuery (fieldAt p 0 2))
  | 5 => some (.accountSet (fieldAt p 0 2) (fieldAt p 2 1) (fieldAt p 3 4))
  | 6 => some (.accountQuery (fieldAt p 0 2) (fieldAt p 2 1))
  | 7 => some (.accountSuspend (fieldAt p 0 2))
  | 8 => some (.accountResume (fieldAt p 0 2))
  | 9 => some (.accountClose (fieldAt p 0 2))
  | 10 => some (.tariffSet (fieldAt p 0 1) (fieldAt p 1 2) (fieldAt p 3 2) (fieldAt p 5 2) (fieldAt p 7 2)
      (fieldAt p 9 2) (fieldAt p 11 2) (fieldAt p 13 2) (fieldAt p 15 2) (fieldAt p 17 2))
  | 11 => some (.tariffQuery (fieldAt p 0 1))
  | 12 => some (.districtSet (fieldAt p 0 1) (fieldAt p 1 2) (fieldAt p 3 2) (fieldAt p 5 2) (fieldAt p 7 2))
  | 13 => some .districtQuery
  | 16 => some (.clockSet (fieldAt p 0 4))
  | 17 => some .clockQuery
  | 18 => some (.capacityQuery (fieldAt p 0 1) (fieldAt p 1 4) (fieldAt p 5 1))
  | 19 => some (.supplySet (fieldAt p 0 4) (fieldAt p 4 2) (fieldAt p 6 2))
  | 32 => some (.place (fieldAt p 0 2) (fieldAt p 2 4) (fieldAt p 6 1) (fieldAt p 7 2) (fieldAt p 9 1)
      (fieldAt p 10 1) 96)
  | 33 => some (.amend (fieldAt p 0 2) (optionAt p 2 2) (optionAt p 4 4))
  | 34 => some (.cancel (fieldAt p 0 1) (fieldAt p 1 2) (fieldAt p 3 1))
  | 35 => some (.orderQuery (fieldAt p 0 2))
  | 36 => some (.retire (fieldAt p 0 2))
  | 37 => some .nextChanged
  | 40 => some (.waitlistQuery (fieldAt p 0 1))
  | 41 => some (.standingSet (fieldAt p 0 1) (fieldAt p 1 2) (fieldAt p 3 2) (fieldAt p 5 1) (fieldAt p 6 2)
      (fieldAt p 8 1) (optionAt p 9 1))
  | 42 => some (.standingResume (fieldAt p 0 1))
  | 43 => some (.standingClear (fieldAt p 0 1))
  | 44 => some (.standingQuery (fieldAt p 0 1))
  | 48 => some (.pointEnable (fieldAt p 0 2))
  | 49 => some (.pointDisable (fieldAt p 0 2) (fieldAt p 2 1))
  | 50 => some (.localAck (fieldAt p 0 2))
  | 51 => some (.frostCall (fieldAt p 0 1) (fieldAt p 1 1))
  | 52 => some (.frostEnd (fieldAt p 0 1) (fieldAt p 1 1))
  | 56 => some .fieldStart
  | 57 => some .fieldStop
  | 58 => some .resume
  | 59 => some (.stationQuery (fieldAt p 0 1))
  | 64 => some (.meterRebase (fieldAt p 0 2))
  | 65 => some (.meterQuery (fieldAt p 0 2))
  | 72 => some (.transfer (fieldAt p 0 2) (fieldAt p 2 2) (fieldAt p 4 4))
  | 73 => some (.periodClose (fieldAt p 0 1) (fieldAt p 1 2))
  | 74 => some .seasonOpen
  | 75 => some (.statementQuery (fieldAt p 0 2))
  | 76 => some .nextAccountChanged
  | 80 => some (.curtail (fieldAt p 0 1) (fieldAt p 1 1) (fieldAt p 2 2) (fieldAt p 4 2) (fieldAt p 6 2)
      (fieldAt p 8 1))
  | 81 => some .sweepQuery
  | 88 => some .errorQuery
  | 89 => some (.errorClear (fieldAt p 0 1))
  | 90 => some (.severitySet (fieldAt p 0 1) (fieldAt p 1 1))
  | 91 => some (.countSelect (optionAt p 0 1))
  | 92 => some .attentionQuery
  | 93 => some (.attentionMask (fieldAt p 0 1) (fieldAt p 1 1) (fieldAt p 2 1) (fieldAt p 3 1))
  | 120 => some .softReset
  | _ => none

/-- The request code and the parameter bytes by which the host sends a request; none for an event that
is no request. -/
def requestBytes : Instr → Option (Nat × List Byte)
  | .reachSet a r p c l => some (1, be8 a ++ be8 r ++ opt8 p ++ be16 c ++ be8 l)
  | .reachQuery r => some (2, be8 r)
  | .pointSet p k r a f q m h =>
      some (3, be16 p ++ be8 k ++ be8 r ++ be16 a ++ be16 f ++ be16 q ++ be16 m ++ be8 h)
  | .pointQuery p => some (4, be16 p)
  | .accountSet a c b => some (5, be16 a ++ be8 c ++ be32 b)
  | .accountQuery a p => some (6, be16 a ++ be8 p)
  | .accountSuspend a => some (7, be16 a)
  | .accountResume a => some (8, be16 a)
  | .accountClose a => some (9, be16 a)
  | .tariffSet c b1 b2 b3 r0 r1 r2 r3 u f =>
      some (10, be8 c ++ be16 b1 ++ be16 b2 ++ be16 b3 ++ be16 r0 ++ be16 r1 ++ be16 r2 ++ be16 r3 ++
        be16 u ++ be16 f)
  | .tariffQuery c => some (11, be8 c)
  | .districtSet l d b t p => some (12, be8 l ++ be16 d ++ be16 b ++ be16 t ++ be16 p)
  | .districtQuery => some (13, [])
  | .clockSet m => some (16, be32 m)
  | .clockQuery => some (17, [])
  | .capacityQuery r f c => some (18, be8 r ++ be32 f ++ be8 c)
  | .supplySet f c w => some (19, be32 f ++ be16 c ++ be16 w)
  | .place p t d f o l _ => some (32, be16 p ++ be32 t ++ be8 d ++ be16 f ++ be8 o ++ be8 l)
  | .amend h f e => some (33, be16 h ++ opt16 f ++ opt32 e)
  | .cancel c r o => some (34, be8 c ++ be16 r ++ be8 o)
  | .orderQuery h => some (35, be16 h)
  | .retire h => some (36, be16 h)
  | .nextChanged => some (37, [])
  | .waitlistQuery p => some (40, be8 p)
  | .standingSet x p o d f c n =>
      some (41, be8 x ++ be16 p ++ be16 o ++ be8 d ++ be16 f ++ be8 c ++ opt8 n)
  | .standingResume x => some (42, be8 x)
  | .standingClear x => some (43, be8 x)
  | .standingQuery x => some (44, be8 x)
  | .pointEnable p => some (48, be16 p)
  | .pointDisable p a => some (49, be16 p ++ be8 a)
  | .localAck p => some (50, be16 p)
  | .frostCall c r => some (51, be8 c ++ be8 r)
  | .frostEnd c r => some (52, be8 c ++ be8 r)
  | .fieldStart => some (56, [])
  | .fieldStop => some (57, [])
  | .resume => some (58, [])
  | .stationQuery a => some (59, be8 a)
  | .meterRebase p => some (64, be16 p)
  | .meterQuery p => some (65, be16 p)
  | .transfer g t v => some (72, be16 g ++ be16 t ++ be32 v)
  | .periodClose c r => some (73, be8 c ++ be16 r)
  | .seasonOpen => some (74, [])
  | .statementQuery a => some (75, be16 a)
  | .nextAccountChanged => some (76, [])
  | .curtail c k b z q d => some (80, be8 c ++ be8 k ++ be16 b ++ be16 z ++ be16 q ++ be8 d)
  | .sweepQuery => some (81, [])
  | .errorQuery => some (88, [])
  | .errorClear v => some (89, be8 v)
  | .severitySet k v => some (90, be8 k ++ be8 v)
  | .countSelect k => some (91, opt8 k)
  | .attentionQuery => some (92, [])
  | .attentionMask a b c d => some (93, be8 a ++ be8 b ++ be8 c ++ be8 d)
  | .softReset => some (120, [])
  | .command _ | .fetch _ | .status _ | .ignoredTransaction _ | .resetAsserted | .orphanCompletion
  | .powerOn | .powerOnInitComplete | .minuteEdge | .orderBookBoundary | .scheduledOrderNotice _
  | .releaseControlBoundary | .meterBoundary | .sweepBoundary | .pollIntervalElapsed _
  | .attemptDeadline | .fieldReply _ | .appliedSetpointReport _ _ | .gateReport _ _ _ _
  | .meterReading _ _ _ | .errorReport _ _ | .holdRequest | .curtailStep | .supplyBumpStep
  | .periodCloseStep | .seasonOpenStep | .sweepEnd | .resetReleased | .powerOff
  | .replyKindByte _ _ | .outFrameSent => none

/-! ### Answers (R194) -/

/-- The refusals: the result codes from BAD_FRAME on (section 11.2). -/
def Result.refuses (r : Result) : Bool := decide (16 ≤ r.code)

/-- A refusal that carries no data. -/
def refusal (r : Result) : Reply := { result := r, data := [], names := none }
/-- An answer with data that names no order. -/
def answer (r : Result) (d : List Byte) : Reply := { result := r, data := d, names := none }
/-- A DONE answer without data. -/
def doneReply : Reply := answer .done []

/-- The request in the command buffer, while its owning block has it (R194). -/
def Port.executing? (p : Port) : Option Instr :=
  match p.state, p.command with
  | .executing, some f => parseRequest f.code.toNat f.params
  | _, _ => none

/-- The request has been handed to its owning block, which has not completed it, and no warm reset has
orphaned it (R194, R198). -/
def State.handed (s : State) (c : Instr) : Bool :=
  s.power == .on && !s.port.orphan && decide (s.port.executing? = some c)

/-- The port after its owning block has completed the command (R194): the response waits. -/
def Port.complete (r : Reply) (p : Port) : Port :=
  match p.command with
  | none => p
  | some f =>
    { p with
      state := .responseWaiting
      command := none
      response := some { tag := f.tag, code := f.code, reply := r } }

/-- A request taken at its owning block: when it has been handed over, its effects are made and its
answer is stored in the response buffer; otherwise there is no such request to take (log entry 3). -/
def State.takeRequest (c : Instr) (act : State → State × Reply) (s : State) :
    Host.Outcome State Fault Refusal :=
  if s.handed c then
    .next { (act s).1 with port := (act s).1.port.complete (act s).2 }
  else .next s

end Sys2Proof.Machine
end

