-- ==== Sys2Proof/Machine/Faults.lean ====
section
/-! DEFINITION. The Fault Unit and the attention requests: taking an error report, clearing, severities,
the error counter, the attention mask (chapter 10). -/

namespace Sys2Proof.Machine

/-! ### Taking a report (R183) -/

/-- The severity the map gives a kind code (R181). -/
def Faults.severityOf (f : Faults) (k : Nat) : Nat := f.severities.getD k 0
/-- A severity's first-error record and next-kinds set (R184). -/
def Faults.episode (f : Faults) : Nat → Episode
  | 0 => f.note
  | 1 => f.attend
  | _ => f.stop
def Faults.setEpisode (v : Nat) (e : Episode) (f : Faults) : Faults :=
  match v with
  | 0 => { f with note := e }
  | 1 => { f with attend := e }
  | _ => { f with stop := e }

/-- An episode takes a report: it fills an empty record, or the kind joins the set (R183, R184). -/
def Episode.take (r : ErrorRecord) (e : Episode) : Episode :=
  match e.first with
  | none => { e with first := some r }
  | some _ => { e with next := addTo e.next (errorCode r.kind) }

/-- The Fault Unit takes a report (R183). -/
def Faults.take (r : ErrorRecord) (f : Faults) : Faults :=
  let v := f.severityOf (errorCode r.kind)
  let f1 := f.setEpisode v ((f.episode v).take r)
  if f.selected = some (errorCode r.kind) then
    { f1 with counter := countUp f1.counter 1 }
  else f1

/-- ERROR_REPORT (R183): the Fault Unit takes an outstanding report, stamped with the district minute;
at severity 2 it asks the Field Line Controller to hold the line (R188). -/
def execErrorReport (kind : ErrorKind) (ref : ErrorRef) (s : State) :
    Host.Outcome State Fault Refusal :=
  match takeOne { kind := kind, ref := ref } s.mail.reports with
  | none => .next s
  | some rest =>
    let r : ErrorRecord := { kind := kind, ref := ref, minute := s.cal.clock }
    .next
      { s with
        faults := s.faults.take r
        mail.reports := rest
        mail.holds := s.mail.holds + (if s.faults.severityOf (errorCode kind) = 2 then 1 else 0) }

/-! ### Requests -/

/-- An episode as a response gives it: record, then set. -/
def Episode.bytes (e : Episode) : List Byte := ErrorRecord.bytes e.first ++ be16 (kindBits e.next)

/-- ERROR_QUERY at the Fault Unit (R187). -/
def reqErrorQuery (s : State) : State × Reply :=
  (s, answer .done
    (s.faults.note.bytes ++ s.faults.attend.bytes ++ s.faults.stop.bytes ++ opt8 s.faults.selected ++
      be16 s.faults.counter ++ s.faults.severities.map (BitVec.ofNat 8)))
/-- ERROR_QUERY (R187). -/
def execErrorQuery (s : State) : Host.Outcome State Fault Refusal :=
  s.takeRequest .errorQuery reqErrorQuery

/-- ERROR_CLEAR at the Fault Unit (R185). -/
def reqErrorClear (severity : Nat) (s : State) : State × Reply :=
  if 2 < severity then (s, refusal .badParam)
  else
    ({ s with faults := s.faults.setEpisode severity .empty },
      answer .done (s.faults.episode severity).bytes)
/-- ERROR_CLEAR (R185). -/
def execErrorClear (severity : Nat) (s : State) : Host.Outcome State Fault Refusal :=
  s.takeRequest (.errorClear severity) (reqErrorClear severity)

/-- SEVERITY_SET at the Fault Unit (R182): a severity above 2 is clamped. -/
def reqSeveritySet (kind severity : Nat) (s : State) : State × Reply :=
  if 12 < kind then (s, refusal .badParam)
  else
    let v := min severity 2
    ({ s with faults.severities := s.faults.severities.set kind v },
      answer .done (be8 kind ++ be8 v))
/-- SEVERITY_SET (R182). -/
def execSeveritySet (kind severity : Nat) (s : State) : Host.Outcome State Fault Refusal :=
  s.takeRequest (.severitySet kind severity) (reqSeveritySet kind severity)

/-- COUNT_SELECT at the Fault Unit (R186). -/
def reqCountSelect (kind : Option Nat) (s : State) : State × Reply :=
  if kind.any (fun k => decide (12 < k)) then (s, refusal .badParam)
  else
    ({ s with faults.selected := kind, faults.counter := 0 },
      answer .done (opt8 s.faults.selected ++ be16 s.faults.counter))
/-- COUNT_SELECT (R186). -/
def execCountSelect (kind : Option Nat) (s : State) : Host.Outcome State Fault Refusal :=
  s.takeRequest (.countSelect kind) (reqCountSelect kind)

/-- The four causes, each pending (coded as the first of pending or not) or not. -/
def State.causeBytes (s : State) : List Byte :=
  yesNo s.errorPending ++ yesNo s.sweepDonePending ++ yesNo s.orderMarksPending ++
    yesNo s.accountMarksPending
/-- The attention enable mask as stored. -/
def Mask.bytes (m : Mask) : List Byte :=
  enabled m.error ++ enabled m.sweepDone ++ enabled m.orderMarks ++ enabled m.accountMarks

/-- ATTENTION_QUERY at the request port (R191). -/
def reqAttentionQuery (s : State) : State × Reply :=
  (s, answer .done (s.causeBytes ++ s.port.mask.bytes ++ yesNo s.attnAsserted))
/-- ATTENTION_QUERY (R191). -/
def execAttentionQuery (s : State) : Host.Outcome State Fault Refusal :=
  s.takeRequest .attentionQuery reqAttentionQuery

/-- ATTENTION_MASK at the request port (R190): 0 disables a cause, any other value enables it. -/
def reqAttentionMask (error sweepDone orderMarks accountMarks : Nat) (s : State) : State × Reply :=
  let m : Mask :=
    { error := error != 0, sweepDone := sweepDone != 0, orderMarks := orderMarks != 0,
      accountMarks := accountMarks != 0 }
  ({ s with port.mask := m }, answer .done (m.bytes ++ s.causeBytes))
/-- ATTENTION_MASK (R190). -/
def execAttentionMask (error sweepDone orderMarks accountMarks : Nat) (s : State) :
    Host.Outcome State Fault Refusal :=
  s.takeRequest (.attentionMask error sweepDone orderMarks accountMarks)
    (reqAttentionMask error sweepDone orderMarks accountMarks)

end Sys2Proof.Machine
end

