-- ==== Sys2Proof/Machine/Calendar.lean ====
section
/-! DEFINITION. The Slot Calendar: the reach tree, lag-shifted windows, the reservation operations and
the ring advance (chapters 1 and 2). -/

namespace Sys2Proof.Machine

/-! ### The reach tree (section 1.2) -/

/-- The path of a reach, head first, following at most `fuel` parents. -/
def pathUp (rs : Table Reach) : Nat → Nat → List Nat
  | 0, r => [r]
  | k + 1, r =>
    match (cell? rs r).bind Reach.parent with
    | some p => pathUp rs k p ++ [r]
    | none => [r]
/-- The path of a reach, head first: a parent has a smaller number, so 31 steps reach the root. -/
def pathOf (rs : Table Reach) (r : Nat) : List Nat := pathUp rs (Config.reaches - 1) r
/-- The depth of a reach: the length of its path. -/
def depthOf (rs : Table Reach) (r : Nat) : Nat := (pathOf rs r).length
/-- Reach j lies in the subtree of reach r. -/
def inSubtree (rs : Table Reach) (r j : Nat) : Bool := (pathOf rs j).contains r
/-- The lag of a reach. -/
def lagOf (rs : Table Reach) (r : Nat) : Nat := ((cell? rs r).map Reach.lag).getD 0
/-- The configured children of a reach. -/
def childrenOf (rs : Table Reach) (r : Nat) : List (Nat × Reach) :=
  rs.filter (fun c => c.2.parent = some r)
/-- The height of a reach's subtree: 1 without children (R3). -/
def heightOf (rs : Table Reach) (r : Nat) : Nat :=
  (rs.filter (fun c => inSubtree rs r c.1)).foldl
    (fun h c => max h (depthOf rs c.1 + 1 - depthOf rs r)) 1

/-! ### The rings (section 2.2) -/

/-- The key of a reach's entry for a slot in the capacity ring. -/
def ringKey (r t : Nat) : Nat := t * Config.reaches + r
/-- The committed flow of a reach in a slot (R24). -/
def Calendar.committedIn (c : Calendar) (r t : Nat) : Nat := valueAt 0 c.committed (ringKey r t)
/-- The supply of a slot (R25). -/
def Calendar.supplyIn (c : Calendar) (t : Nat) : Nat := valueAt 0 c.supply t
/-- The head mark of a slot (R25). -/
def Calendar.headMark (c : Calendar) (t : Nat) : HeadMark := valueAt .unmarked c.heads t
/-- The capacity of a reach in a slot (R26): for reach 0 the head capacity. -/
def Calendar.capacityIn (c : Calendar) (r t : Nat) : Nat :=
  match cell? c.reaches r with
  | none => 0
  | some v => if r = 0 then min v.capacity (c.supplyIn t) else v.capacity

def Calendar.setCommitted (r t f : Nat) (c : Calendar) : Calendar :=
  { c with committed := setValue 0 c.committed (ringKey r t) f }
def Calendar.setSupply (t f : Nat) (c : Calendar) : Calendar :=
  { c with supply := setValue 0 c.supply t f }
def Calendar.setHeadMark (t : Nat) (m : HeadMark) (c : Calendar) : Calendar :=
  { c with heads := setValue .unmarked c.heads t m }

/-- Advance the rings to the new current slot t (R22): slot t − 1 leaves, slot t + 671 enters. -/
def Calendar.advance (c : Calendar) : Calendar :=
  let t := c.slot
  let gone := t - 1
  let new := t + (Config.horizon - 1)
  { c with
    committed := c.committed.filter
      (fun e => e.1 / Config.reaches != gone && e.1 / Config.reaches != new)
    supply := setValue 0 (delCell c.supply gone) new c.defaultSupply
    heads := delCell (delCell c.heads gone) new }

/-- Rebuild the rings around a new minute (R33): no committed flow, every supply the default supply,
every head mark NONE. -/
def Calendar.rebuild (minute : Nat) (c : Calendar) : Calendar :=
  let now := minute / Config.slotMinutes
  { c with
    clock := minute
    committed := []
    supply := if c.defaultSupply = 0 then []
      else (List.range' now Config.horizon).map (fun t => (t, c.defaultSupply))
    heads := [] }

/-! ### Lag-shifted windows and reservations (sections 2.3, 2.4) -/

/-- The slots of the lag-shifted window of [a, b) in reach j of r's path that lie at or after `floor`
and within horizon (R27, R30). -/
def Calendar.shifted (c : Calendar) (r j a b floor : Nat) : List Nat :=
  let shift := lagOf c.reaches r - lagOf c.reaches j
  let lo := max (a - shift) (max floor c.slot)
  let hi := min (b - shift) c.horizonEnd
  List.range' lo (hi - lo)
/-- The (reach, slot) entries of a reservation on reach r, head first, slots ascending (R29). -/
def Calendar.entries (c : Calendar) (r a b floor : Nat) : List (Nat × Nat) :=
  (pathOf c.reaches r).flatMap (fun j => (c.shifted r j a b floor).map (fun t => (j, t)))

/-- The answer of TEST, RESERVE and EXCHANGE (R29, R31). -/
inductive Reserved
  | pass (cal : Calendar)
  | short (reach slot : Nat)
  | beyond

/-- Add a flow to every entry. -/
def Calendar.addFlow (f : Nat) (es : List (Nat × Nat)) (c : Calendar) : Calendar :=
  es.foldl (fun c e => c.setCommitted e.1 e.2 (c.committedIn e.1 e.2 + f)) c
/-- Subtract a flow from every entry. -/
def Calendar.subFlow (f : Nat) (es : List (Nat × Nat)) (c : Calendar) : Calendar :=
  es.foldl (fun c e => c.setCommitted e.1 e.2 (c.committedIn e.1 e.2 - f)) c
/-- The first entry that the flow would take past its capacity (R29). -/
def Calendar.firstShort (f : Nat) (es : List (Nat × Nat)) (c : Calendar) : Option (Nat × Nat) :=
  es.find? (fun e => decide (c.capacityIn e.1 e.2 < c.committedIn e.1 e.2 + f))

/-- A reservation of window [a, b) on reach r, tested as R29 says in those of its entries for which `tested`
holds; on pass its flow stands in every entry. -/
def Calendar.reserveTested (tested : Nat × Nat → Bool) (r a b f : Nat) (c : Calendar) : Reserved :=
  if a < b ∧ c.horizonEnd < b then .beyond
  else
    let es := c.entries r a b 0
    match c.firstShort f (es.filter tested) with
    | some e => .short e.1 e.2
    | none => .pass (c.addFlow f es)

/-- RESERVE (R29) of window [a, b) and flow f on reach r: every entry is tested. -/
def Calendar.reserve (r a b f : Nat) (c : Calendar) : Reserved :=
  c.reserveTested (fun _ => true) r a b f

/-- RELEASE (R30) of window [a, b) and flow f on reach r, floor g. -/
def Calendar.release (r a b f g : Nat) (c : Calendar) : Calendar := c.subFlow f (c.entries r a b g)

/-- The lag-shifted window of [a, b) on reach r contains the entry (R27). -/
def Calendar.windowHas (c : Calendar) (r a b : Nat) (e : Nat × Nat) : Bool :=
  let u := e.2 + (lagOf c.reaches r - lagOf c.reaches e.1)
  decide (a ≤ u) && decide (u < b)

/-- The exchange lowers the flow, or moves the end earlier without raising the flow (R31). -/
def eases (b f b' f' : Nat) : Bool := decide (f' < f) || (decide (f' = f) && decide (b' < b))

/-- EXCHANGE (R31): release the old window and flow from the current slot on, then reserve the new; when that
fails the ring is as it was. A lower flow or an earlier end cannot fail on capacity (R31) in an entry that
the old reservation held, where it adds nothing (R36; log entry 34). -/
def Calendar.exchange (r a b f a' b' f' : Nat) (c : Calendar) : Reserved :=
  (c.release r a b f c.slot).reserveTested
    (fun e => !(eases b f b' f' && c.windowHas r a b e)) r a' b' f'

end Sys2Proof.Machine
end

