-- ==== Sys2Proof/Machine/Sending.lean ====
section
/-! DEFINITION. The field side of a point and the arbitration of the line: send pending, withdrawal,
and which transaction begins (R112, R113, R114, R116). -/

namespace Sys2Proof.Machine

/-- The station that serves a point (section 1.3). -/
def stationOf (p : Nat) : Nat := p / Config.channels
/-- The channel of a point on its station. -/
def channelOf (p : Nat) : Nat := p % Config.channels

/-- A station record at power-on (R106). -/
def Station.powerOn : Station :=
  { polled := false, state := .responding, failures := 0, lastReply := none, silentSince := none,
    interval := 0, due := false }
def State.station (s : State) (a : Nat) : Station := valueAt .powerOn s.line.stations a
def State.setStation (a : Nat) (v : Station) (s : State) : State :=
  { s with line.stations := setValue .powerOn s.line.stations a v }

/-- Whether a point's setpoint waits for the line (R113). -/
def Point.wantsSet (p : Point) : Bool :=
  p.sendable &&
    (p.field.resendOwed ||
      (decide (p.target ≠ p.field.acknowledged) && decide (p.field.declined ≠ some p.target)))

/-- Re-evaluate a point's send pending (R113). -/
def State.reevaluate (n : Nat) (s : State) : State :=
  if s.line.settingPoint n then s
  else s.changePoint n (fun p => { p with field.sendPending := p.wantsSet })

/-- A resend request for a point (R91, R113). -/
def State.resend (n : Nat) (s : State) : State :=
  (s.changePoint n (fun p => { p with field.resendOwed := true })).reevaluate n

/-- Release Control withdraws a point that is no longer sendable (R91, R113). -/
def State.withdraw (n : Nat) (s : State) : State :=
  s.changePoint n (fun p => { p with field.sendPending := false, field.resendOwed := false })

/-- A point's target takes a value; a change of a sendable point's target is handed over (R91). -/
def State.setTarget (n flow : Nat) (s : State) : State :=
  match s.point? n with
  | none => s
  | some p =>
    if p.target = flow then s
    else
      let s1 := s.setPoint n { p with target := flow }
      if p.sendable then s1.reevaluate n else s1

/-! ### Arbitration (R116) -/

/-- The lowest-numbered point with send pending set whose station is polled and RESPONDING. -/
def State.nextSet (s : State) : Option (Nat × Point) :=
  s.points.find? (fun e =>
    e.2.field.sendPending && (s.station (stationOf e.1)).polled &&
      decide ((s.station (stationOf e.1)).state = .responding))

/-- The first due polled station after the rotation position, wrapping from 127 to 0. -/
def State.nextPoll (s : State) : Option Nat :=
  let due := s.line.stations.filter (fun e => e.2.due && e.2.polled)
  match due.find? (fun e => decide (s.line.rotation < e.1)) with
  | some e => some e.1
  | none => (due.head?).map (fun e => e.1)

/-- A transaction's first attempt (R117). -/
def State.startTransaction (j : Job) (s : State) : State :=
  { s with
    line.transaction := some
      { job := j, attempt := 1, lastAttempt := false, phase := .sending,
        bitRate := s.settings.bitRate, timeout := s.settings.timeout } }

/-- Begin a SET for a point (R114). -/
def State.beginSet (n : Nat) (p : Point) (s : State) : State :=
  (s.setPoint n
    { p with field.inFlight := some p.target, field.sendPending := false,
             field.resendOwed := false }).startTransaction (.set n p.target false)

/-- Begin a POLL for a station (R108, R116). -/
def State.beginPoll (a : Nat) (s : State) : State :=
  let s1 := s.setStation a { s.station a with due := false }
  { s1 with line.rotation := a }.startTransaction (.poll a)

/-- A POLL for the next due station, if any. -/
def State.offerPoll (s : State) : State :=
  match s.nextPoll with
  | some a => s.beginPoll a
  | none => s

/-- The line makes its choice when it is idle (R116). It is made once, at the end of the event that
let something begin (log entry 8). -/
def State.arbitrate (s : State) : State :=
  match s.line.transaction with
  | some _ => s
  | none =>
    match s.line.mode with
    | .stopped => s
    | .hold => s.offerPoll
    | .run =>
      match s.nextSet with
      | some e => s.beginSet e.1 e.2
      | none => s.offerPoll

end Sys2Proof.Machine
end

