-- ==== Sys2Proof/Machine/Release.lean ====
section
/-! DEFINITION. Release Control's shared operations: turnout and check targets, frost extra loads,
changes of mode, switch reports and closing setpoints (chapter 5), and what the calendar tells Release
Control (R32). -/

namespace Sys2Proof.Machine

/-! ### Targets (R92, R93, R94) -/

/-- The flow of the point's scheduled order, 0 L/s for none. -/
def Point.scheduledFlow (p : Point) : Nat := (p.scheduled.map Scheduled.flow).getD 0
/-- The target of a turnout in AUTO (R92). -/
def Point.turnoutTarget (p : Point) : Nat :=
  match p.backup with
  | some b => max b.flow p.frostRate
  | none => p.scheduledFlow

/-- The flow a check point in AUTO should pass before its rated flow limits it (R93). -/
def State.checkDemand (s : State) (r : Nat) : Nat := s.cal.committedIn r s.cal.slot + s.extraLoad r

/-- Recompute the target of a check point in AUTO (R93), with the overload indicator and the
REACH_OVERLOAD report of R94. -/
def State.recheck (n : Nat) (s : State) : State :=
  match s.point? n with
  | none => s
  | some p =>
    if p.kind = .check ∧ p.mode = .auto then
      let demand := s.checkDemand p.reach
      let clamped := decide (p.rated < demand)
      let s1 := s.setPoint n { p with overload := clamped }
      let s2 := if clamped && !p.overload then s1.report .reachOverload (.number p.reach) else s1
      s2.setTarget n (min demand p.rated)
    else s

/-- Recompute the target of a reach's check point, if it has one (R32, R101). -/
def State.recheckReach (r : Nat) (s : State) : State :=
  match (s.reach? r).bind Reach.check with
  | none => s
  | some n => s.recheck n

/-- Recompute every check target (R93), in point order. -/
def State.recheckAll (s : State) : State :=
  (s.points.map (fun e => e.1)).foldl (fun s n => s.recheck n) s

/-- Recompute a point's target: a turnout by R92, a check point by R93. -/
def State.retarget (n : Nat) (s : State) : State :=
  match s.point? n with
  | none => s
  | some p =>
    match p.kind with
    | .turnout => s.setTarget n p.turnoutTarget
    | .check => s.recheck n

/-! ### Frost extra loads (R101) -/

/-- A turnout's term of the frost extra load of its reach and ancestors (R101). -/
def Point.frostTerm (p : Point) : Nat :=
  match p.kind, p.mode, p.backup with
  | .turnout, .auto, some b => p.frostRate - b.flow
  | _, _, _ => 0
/-- The frost extra load that R101 gives a reach. -/
def State.frostSum (s : State) (r : Nat) : Nat :=
  (s.points.filter (fun e => inSubtree s.cal.reaches r e.2.reach)).foldl
    (fun n e => n + e.2.frostTerm) 0

/-- Recompute the frost extra loads of some reaches, then the check targets that the changed ones feed
(R101). -/
def State.refreshFrost (rs : List Nat) (s : State) : State :=
  let changed := rs.filter (fun r => decide (s.frostSum r ≠ s.extraLoad r))
  let s1 : State :=
    { s with frostLoad := changed.foldl (fun t r => setValue 0 t r (s.frostSum r)) s.frostLoad }
  changed.foldl (fun s r => s.recheckReach r) s1

/-- Recompute the frost extra loads along a reach's path, head first (R101). -/
def State.refreshPath (r : Nat) (s : State) : State := s.refreshFrost (pathOf s.cal.reaches r)

/-! ### The calendar tells Release Control (R32) -/

/-- The rings change; each reach whose committed flow in the current slot changed has its check target
recomputed (R32). -/
def State.withRing (c : Calendar) (s : State) : State :=
  let told := s.cal.reaches.filter
    (fun e => decide (s.cal.committedIn e.1 s.cal.slot ≠ c.committedIn e.1 s.cal.slot))
  told.foldl (fun s e => s.recheckReach e.1) { s with cal := c }

/-! ### Modes (R65, R90) -/

/-- The state and suspension reason of a due order under a mode (R64, R65). -/
def dueUnder : Mode → OrderState × Option SuspendReason
  | .auto => (.running, none)
  | .localHold => (.suspended, some .manual)
  | .disabled => (.suspended, some .disabled)

/-- Bring a point's RUNNING or SUSPENDED order into line with its mode (R65). -/
def State.alignOrder (n : Nat) (m : Mode) (s : State) : State :=
  match s.obk.dueOrder n with
  | none => s
  | some (i, o) =>
    let st := dueUnder m
    if o.state = st.1 ∧ o.suspendReason = st.2 then s
    else (s.putOrder i { o with state := st.1, suspendReason := st.2 }).markOrder i

/-- A point's mode changes (R90): the mode, the order, the target, the frost contribution, and what
the Field Line Controller is told: a point that stops being sendable is withdrawn (R91). The target goes by the
last scheduled order notice taken (log entry 41). -/
def State.changeMode (n : Nat) (m : Mode) (s : State) : State :=
  match s.point? n with
  | none => s
  | some p =>
    let s1 := s.setPoint n { p with mode := m, overload := p.overload && decide (m = .auto) }
    let s2 := if p.kind = .turnout then s1.alignOrder n m else s1
    let s3 := if m = .auto then s2.retarget n else s2
    let s4 := if p.kind = .turnout ∧ p.backup.isSome then s3.refreshPath p.reach else s3
    if m = .auto then s4.resend n
    else if p.mode = .auto ∧ p.closeOwed = false then s4.withdraw n
    else s4

/-! ### Switch reports (R95, R96) and close owed (R91) -/

/-- Close owed clears; a point that is then no longer sendable is withdrawn (R91). -/
def State.clearCloseOwed (n : Nat) (s : State) : State :=
  match s.point? n with
  | none => s
  | some p =>
    if p.closeOwed then
      let s1 := s.setPoint n { p with closeOwed := false }
      if p.mode = .auto then s1 else s1.withdraw n
    else s

/-- A report that a point's switch is LOCAL (R95). -/
def State.switchLocal (n : Nat) (s : State) : State :=
  match s.point? n with
  | none => s
  | some p =>
    let s1 := (s.setPoint n { p with switch := .manual }).clearCloseOwed n
    match p.mode with
    | .auto =>
      let taken := decide (0 < p.target) || p.backup.isSome
      let s2 := s1.changePoint n (fun q => { q with latch := q.latch || taken })
      let s3 := s2.changeMode n .localHold
      if taken && !p.latch then s3.report .localHoldFault (.number n) else s3
    | .localHold => s1
    | .disabled => s1

/-- A report that a point's switch is REMOTE (R96). -/
def State.switchRemote (n : Nat) (s : State) : State :=
  match s.point? n with
  | none => s
  | some p =>
    let s1 := s.setPoint n { p with switch := .remote }
    match p.mode with
    | .localHold => s1.changeMode n (if p.latch then .disabled else .auto)
    | .auto => s1
    | .disabled => s1

end Sys2Proof.Machine
end

