-- ==== Sys2Proof/Machine/Orders.lean ====
section
/-! DEFINITION. The Order Book's shared operations: the admission checks, admission, queueing,
cancellation, cut, trim, expiry, re-queue and the re-examination of the waiting list (chapters 3
and 4). -/

namespace Sys2Proof.Machine

/-! ### What an order asks -/

/-- The values of a PLACE or of a firing (R45, R83). -/
structure Ask where
  point : Nat
  start : Nat
  duration : Nat
  flow : Nat
  conflict : OnConflict
  limit : Nat
  origin : Origin

/-- The volume an order asks (R46). -/
def Ask.volume (q : Ask) : Nat := Machine.volume q.flow q.duration

/-- Two windows overlap when some slot lies in both (00_scope.md). -/
def overlaps (a b c d : Nat) : Bool := decide (a < d) && decide (c < b) && decide (a < b) && decide (c < d)

/-- The earliest live order of the point, other than entry `except`, whose window overlaps [a, b)
(R44, R46, R75). -/
def OrderBook.overlapping (b : OrderBook) (p lo hi : Nat) (except : Option Nat) :
    Option (Nat × Order) :=
  (b.pointChain p).find?
    (fun e => decide (some e.1 ≠ except) && overlaps e.2.start e.2.deliveryEnd lo hi)

/-- The head release slot of a start lies fewer than 1 + `margin` slots after the Order Book's current slot
(R46, R53, R77). -/
def State.releaseWithin (s : State) (margin start lag : Nat) : Bool :=
  decide (start < lag + s.obk.slot + 1 + margin)
/-- The head release test against the lead (R46, R77). -/
def State.tooSoon (s : State) (start lag : Nat) : Bool := s.releaseWithin s.settings.lead start lag
/-- The end slot lies beyond the Order Book's horizon (R46). -/
def State.pastHorizon (s : State) (endSlot : Nat) : Bool :=
  decide (s.obk.slot + Config.horizon < endSlot)

/-- The account's available volume is at least v (R46, R146). -/
def State.affords (s : State) (account v : Nat) : Bool :=
  match s.account? account with
  | none => false
  | some a => decide ((v : Int) ≤ a.available)

/-- CAPACITY_SHORT with the first failing reach and slot (R46, R50). -/
def shortReply (r t : Nat) : Reply := answer .capacityShort (be8 r ++ be32 t)

/-- Checks 5 to 7 of R46 at a start slot; on pass, the calendar with the reservation made. -/
def State.tryWindow (s : State) (point reach account start duration flow : Nat)
    (except : Option Nat) : Except Reply Calendar :=
  match s.obk.overlapping point start (start + duration) except with
  | some e => .error (answer .overlap (be16 (s.obk.handle e.1)))
  | none =>
    if s.affords account (volume flow duration) then
      match s.cal.reserve reach start (start + duration) flow with
      | .pass c => .ok c
      | .short r t => .error (shortReply r t)
      | .beyond => .error (refusal .beyondHorizon)
    else .error (refusal .allocationShort)

/-- The free entry with the lowest table index (R38), searching `fuel` indices from i. -/
def firstFree (t : Table Order) : Nat → Nat → Option Nat
  | 0, _ => none
  | k + 1, i => if (cell? t i).isNone then some i else firstFree t k (i + 1)
/-- The free entry with the lowest table index (R38). -/
def OrderBook.freeEntry (b : OrderBook) : Option Nat := firstFree b.orders Config.orders 0

/-- Create an order in entry i with the next placement sequence (R40, R47, R49). -/
def State.createOrder (i : Nat) (q : Ask) (account start slidBy : Nat) (st : OrderState) (s : State) :
    State :=
  ({ s with obk.sequence := s.obk.sequence + 1 } : State).putOrder i
    { account := account, point := q.point, start := start, duration := q.duration, flow := q.flow,
      conflict := q.conflict, origin := q.origin, sequence := s.obk.sequence + 1, state := st,
      suspendReason := none, cut := none, ordered := q.volume, delivered := 0, estimated := 0,
      tail := 0, slidBy := slidBy, closeReason := none }

/-- Join the waiting list at its tail (R73). -/
def State.joinWaiting (h : Nat) (s : State) : State :=
  { s with obk.waiting := s.obk.waiting ++ [h] }
/-- Leave the waiting list; the entries behind close up (R73). -/
def State.leaveWaiting (h : Nat) (s : State) : State :=
  { s with obk.waiting := dropFrom s.obk.waiting h }

/-! ### Operations on one order -/

/-- The reach of an order's point. -/
def State.reachOf (s : State) (o : Order) : Nat := ((s.point? o.point).map Point.reach).getD 0

/-- Release an order's whole window from a floor slot on, in every reach of its path (R30). -/
def State.releaseOrder (o : Order) (floor : Nat) (s : State) : State :=
  s.withRing (s.cal.release (s.reachOf o) o.start o.endSlot o.flow floor)

/-- A waiting order leaves the list, a confirmed order's reservations are released (R55). -/
def State.freeOrder (i : Nat) (o : Order) (s : State) : State :=
  match o.state with
  | .pendingWait => s.leaveWaiting (s.obk.handle i)
  | .confirmed => s.releaseOrder o s.obk.slot
  | .running | .suspended | .closing | .closed | .cancelled | .expired => s

/-- Cancel a PENDING_WAIT or CONFIRMED order (R55). -/
def State.cancelOrder (i : Nat) (o : Order) (why : CloseReason) (s : State) : State :=
  (s.freeOrder i o).putOrder i { o with state := .cancelled, closeReason := some why }

/-- Expire a waiting order (R58, R75): as R55 for a PENDING_WAIT order, its mark set. -/
def State.expireOrder (i : Nat) (o : Order) (s : State) : State :=
  (((s.leaveWaiting (s.obk.handle i)).putOrder i
    { o with state := .expired, closeReason := some .expiredWait })).markOrder i

/-- Cut a RUNNING or SUSPENDED order at the Order Book's current slot (R56). -/
def State.cutOrder (i : Nat) (o : Order) (why : CloseReason) (s : State) : State :=
  let c := s.obk.slot
  (((s.releaseOrder o (c + 1)).putOrder i
    { o with state := .closing, closeReason := some why, suspendReason := none, cut := some c,
             ordered := volume o.flow (c + 1 - o.start) })).notify o.point none

/-- Trim a CONFIRMED order of duration above k by its last k slots (R58): these alone are released, where R30's
table names the whole window (log entry 38). -/
def State.trimOrder (i : Nat) (o : Order) (k : Nat) (s : State) : State :=
  ((s.withRing
      (s.cal.release (s.reachOf o) (o.endSlot - k) o.endSlot o.flow s.obk.slot)).putOrder i
    { o with duration := o.duration - k, ordered := volume o.flow (o.duration - k) }).markOrder i

/-- Bump a CONFIRMED order (R58, R176): re-queue it when its on-conflict is QUEUE and the list and the
placement sequence have room, else cancel it BUMPED. True when it was re-queued. -/
def State.bumpOrder (i : Nat) (o : Order) (s : State) : State × Bool :=
  if o.conflict = .queue ∧ s.obk.waiting.length < Config.waiting ∧
      s.obk.sequence < Config.counterMax then
    let s1 := s.releaseOrder o s.obk.slot
    let s2 : State := { s1 with obk.sequence := s1.obk.sequence + 1 }
    (((s2.putOrder i { o with state := .pendingWait, sequence := s2.obk.sequence }).joinWaiting
      (s2.obk.handle i)).markOrder i, true)
  else ((s.cancelOrder i o .bumped).markOrder i, false)

/-! ### Re-examination of the waiting list (R74, R75, R76) -/

/-- Test one entry of the waiting list (R75). -/
def State.reexamineEntry (h : Nat) (s : State) : State :=
  match s.obk.named? h with
  | none => s
  | some (i, o) =>
    match s.point? o.point with
    | none => s
    | some p =>
      if s.tooSoon o.start (lagOf s.cal.reaches p.reach) || s.pastHorizon o.endSlot then
        s.expireOrder i o
      else
        match s.tryWindow o.point p.reach o.account o.start o.duration o.flow (some i) with
        | .error _ => s
        | .ok c =>
          (((s.withRing c).leaveWaiting h).putOrder i { o with state := .confirmed }).markOrder i

/-- Walk the waiting list once, head to tail (R75); a walk clears the owed indicator (R74). -/
def State.reexamine (s : State) : State :=
  let s1 := s.obk.waiting.foldl (fun s h => s.reexamineEntry h) s
  { s1 with obk.owed := false }

/-- Something started a re-examination: it is taken at once, or owed while a sweep is in progress
(R74). -/
def State.startReexamination (s : State) : State :=
  if s.sweeping then { s with obk.owed := true } else s.reexamine

/-! ### Placing (R45 to R50) -/

/-- The account of a point, when it is OPEN. -/
def State.openAccount? (s : State) (p : Point) : Option Account :=
  match (p.account).bind s.account? with
  | none => none
  | some a => if a.state = .opened then some a else none

/-- Checks 1 to 3 of R45. -/
def State.placeRefused (q : Ask) (s : State) : Option Result :=
  if Config.points ≤ q.point ∨ q.duration < 1 ∨ 192 < q.duration ∨ q.flow < 1 ∨ 2000 < q.flow ∨
      (q.conflict = .slide ∧ (q.limit < 1 ∨ 96 < q.limit)) then some .badParam
  else
    match s.turnout? q.point with
    | none => some .noSuchPoint
    | some p =>
      if p.rated < q.flow then some .badParam
      else
        match s.openAccount? p with
        | none => some .accountNotOpen
        | some a =>
          if s.obk.freeEntry.isNone ∨ Config.counterMax ≤ s.obk.sequence then some .tableFull
          else if Config.liveOrders ≤ a.live then some .accountOrderLimit
          else none

/-- How one PLACE event ends: an order created with a result and the order's handle, a refusal, or a
slide search that goes on (R48). -/
inductive Placed
  | created (r : Result) (handle : Nat)
  | refused (r : Reply)
  | searching (next : Search)

/-- Admit an order at a start slot with the reservation already in the calendar c (R47). -/
def State.admitOrder (q : Ask) (account start slidBy : Nat) (c : Calendar) (r : Result) (s : State) :
    State × Placed :=
  match s.obk.freeEntry with
  | none => (s, .refused (refusal .tableFull))
  | some i =>
    ((s.withRing c).createOrder i q account start slidBy .confirmed,
      .created r (s.obk.handle i))

/-- The tries of a slide (R48): at most `fuel` of them now, the next k slots after the asked start. A try
whose head release slot boundaries have overtaken fails (R66; log entry 14). -/
def State.slideTries (q : Ask) (reach account : Nat) (failure : Reply) :
    Nat → Nat → State → State × Placed
  | fuel, k, s =>
    if q.limit < k then (s, .refused failure)
    else
      match fuel with
      | 0 => (s, .searching { next := k, failure := failure })
      | n + 1 =>
        if s.pastHorizon (q.start + k + q.duration) then (s, .refused failure)
        else if s.releaseWithin 0 (q.start + k) (lagOf s.cal.reaches reach) then
          State.slideTries q reach account failure n (k + 1) s
        else
          match s.tryWindow q.point reach account (q.start + k) q.duration q.flow none with
          | .ok c => s.admitOrder q account (q.start + k) k c .slid
          | .error r =>
            if r.result = .allocationShort then (s, .refused (refusal .allocationShort))
            else State.slideTries q reach account failure n (k + 1) s

/-- Queue an order that capacity refused (R49). -/
def State.queueOrder (q : Ask) (account : Nat) (s : State) : State × Placed :=
  match s.obk.freeEntry with
  | none => (s, .refused (refusal .tableFull))
  | some i =>
    if s.obk.waiting.length < Config.waiting then
      ((s.createOrder i q account q.start 0 .pendingWait).joinWaiting (s.obk.handle i),
        .created .queued (s.obk.handle i))
    else (s, .refused (refusal .waitlistFull))

/-- The first event of a PLACE or a firing (R45 to R49), with at most `tries` tries of a slide. A SLIDE firing
that overlaps and whose account cannot afford the volume is refused ALLOCATION_SHORT, as R48 orders the tests
(log entry 39). -/
def State.placeFirst (q : Ask) (tries : Nat) (s : State) : State × Placed :=
  match s.placeRefused q with
  | some r => (s, .refused (refusal r))
  | none =>
    match s.turnout? q.point with
    | none => (s, .refused (refusal .noSuchPoint))
    | some p =>
      let account := p.account.getD 0
      if s.tooSoon q.start (lagOf s.cal.reaches p.reach) then (s, .refused (refusal .tooSoon))
      else if s.pastHorizon (q.start + q.duration) then (s, .refused (refusal .beyondHorizon))
      else
        match s.tryWindow q.point p.reach account q.start q.duration q.flow none with
        | .ok c => s.admitOrder q account q.start 0 c .done
        | .error r =>
          match q.conflict, r.result with
          | .slide, .overlap =>
            if s.affords account q.volume then s.slideTries q p.reach account r tries 1
            else (s, .refused (refusal .allocationShort))
          | .slide, .capacityShort => s.slideTries q p.reach account r tries 1
          | .queue, .capacityShort => s.queueOrder q account
          | _, _ => (s, .refused r)

/-- A later event of a PLACE whose slide search goes on (R48): what checks 1 to 3 ask still holds, and
the tries go on (log entry 14). -/
def State.placeNext (q : Ask) (tries : Nat) (w : Search) (s : State) : State × Placed :=
  match s.placeRefused q with
  | some r => (s, .refused (refusal r))
  | none =>
    match s.turnout? q.point with
    | none => (s, .refused (refusal .noSuchPoint))
    | some p => s.slideTries q p.reach (p.account.getD 0) w.failure tries w.next

end Sys2Proof.Machine
end

