-- ==== Sys2Proof/Machine/OrderRequests.lean ====
section
/-! DEFINITION. The order requests: PLACE, AMEND, CANCEL, ORDER_QUERY, RETIRE, NEXT_CHANGED
(chapter 3). -/

namespace Sys2Proof.Machine

/-! ### PLACE (R45 to R50) -/

/-- What a PLACE that created an order answers (R50). -/
def State.createdReply (r : Result) (h : Nat) (s : State) : Reply :=
  match s.obk.named? h with
  | none => refusal r
  | some (_, o) =>
    { result := r
      data := be16 h ++ be32 o.start ++ be8 o.slidBy ++ be32 o.ordered ++ be32 o.sequence
      names := some h }

/-- PLACE at the Order Book: one event of it, with at most `tries` tries of a slide; no answer while
its slide search goes on (R48). -/
def placeEvent (q : Ask) (tries : Nat) (s : State) : State × Option Reply :=
  let r := match s.obk.search with
    | none => s.placeFirst q tries
    | some w => s.placeNext q tries w
  match r.2 with
  | .created c h => ({ r.1 with obk.search := none }, some (r.1.createdReply c h))
  | .refused a => ({ r.1 with obk.search := none }, some a)
  | .searching w => ({ r.1 with obk.search := some w }, none)

/-- The values of a host PLACE; none when its on-conflict is none of the three (R45). -/
def hostAsk (point start duration flow conflict limit : Nat) : Option Ask :=
  (OnConflict.ofCode? conflict).map (fun c =>
    { point := point, start := start, duration := duration, flow := flow, conflict := c,
      limit := limit, origin := .host })

/-- PLACE at the Order Book, up to its answer (R45 to R50). -/
def reqPlace (point start duration flow conflict limit tries : Nat) (s : State) :
    State × Option Reply :=
  match hostAsk point start duration flow conflict limit with
  | none => (s, some (refusal .badParam))
  | some q =>
    let r := placeEvent q tries s
    match r.2 with
    | none => r
    | some a => if a.result.refuses then r else (r.1.arbitrate, r.2)

/-- PLACE (R45 to R50): one event; the port goes on executing while a slide search goes on (R48). -/
def execPlace (point start duration flow conflict limit tries : Nat) (s : State) :
    Host.Outcome State Fault Refusal :=
  if s.handed (.place point start duration flow conflict limit 96) then
    let r := reqPlace point start duration flow conflict limit tries s
    match r.2 with
    | none => .next r.1
    | some a => .next { r.1 with port := r.1.port.complete a }
  else .next s

/-! ### AMEND (R51 to R53) -/

/-- What a successful AMEND answers (R51). -/
def amendedReply (h : Nat) (o : Order) : Reply :=
  { result := .done
    data := be16 o.flow ++ be32 o.endSlot ++ be8 o.duration ++ be32 o.ordered
    names := some h }

/-- An amended order takes its new flow, duration and ordered volume (R52, R53). -/
def Order.amended (o : Order) (flow endSlot : Nat) : Order :=
  { o with flow := flow, duration := endSlot - o.start, ordered := volume flow (endSlot - o.start) }

/-- AMEND of a CONFIRMED order, from check 5 on (R52). -/
def State.amendConfirmed (h i : Nat) (o : Order) (flow endSlot : Nat) (s : State) : State × Reply :=
  let new := o.amended flow endSlot
  if s.pastHorizon endSlot then (s, refusal .beyondHorizon)
  else if o.endSlot < endSlot ∧
      (s.obk.overlapping o.point o.start endSlot (some i)).isSome then (s, refusal .overlap)
  else if o.ordered < new.ordered ∧ !s.affords o.account (new.ordered - o.ordered) then
    (s, refusal .allocationShort)
  else
    match s.cal.exchange (s.reachOf o) o.start o.endSlot o.flow o.start endSlot flow with
    | .pass c => ((s.withRing c).putOrder i new, amendedReply h new)
    | .short r t => (s, shortReply r t)
    | .beyond => (s, refusal .beyondHorizon)

/-- AMEND of a RUNNING or SUSPENDED order, from check 5 on (R53). Its timing test takes no lead, for an
extension as for an earlier end: R53's own words, against R20's list (log entry 32). -/
def State.amendDue (h i : Nat) (o : Order) (endSlot : Nat) (s : State) : State × Reply :=
  let new := o.amended o.flow endSlot
  let reach := s.reachOf o
  if s.releaseWithin 0 (min endSlot o.endSlot) (lagOf s.cal.reaches reach) then (s, refusal .tooSoon)
  else if s.pastHorizon endSlot then (s, refusal .beyondHorizon)
  else if o.endSlot < endSlot then
    if (s.obk.overlapping o.point o.endSlot endSlot (some i)).isSome then (s, refusal .overlap)
    else if s.affords o.account (volume o.flow (endSlot - o.endSlot)) then
      match s.cal.reserve reach o.endSlot endSlot o.flow with
      | .pass c => ((s.withRing c).putOrder i new, amendedReply h new)
      | .short r t => (s, shortReply r t)
      | .beyond => (s, refusal .beyondHorizon)
    else (s, refusal .allocationShort)
  else
    ((s.withRing (s.cal.release reach endSlot o.endSlot o.flow s.obk.slot)).putOrder i new,
      amendedReply h new)

/-- A new flow or end that AMEND's parameter check refuses (R51). -/
def State.amendBadParam (o : Order) (flow endSlot : Option Nat) (s : State) : Bool :=
  flow.any (fun f => decide (f < 1) || decide (2000 < f) ||
    (s.point? o.point).any (fun p => decide (p.rated < f))) ||
  endSlot.any (fun e => decide (e < o.start + 1) || decide (o.start + 192 < e))

/-- AMEND at the Order Book, before the line's choice (R51). -/
def amendBook (handle : Nat) (flow endSlot : Option Nat) (s : State) : State × Reply :=
  match s.obk.named? handle with
  | none => (s, refusal .noSuchOrder)
  | some (i, o) =>
    let f := flow.getD o.flow
    let e := endSlot.getD o.endSlot
    if s.amendBadParam o flow endSlot then (s, refusal .badParam)
    else if (s.account? o.account).any (fun a => decide (a.state ≠ .opened)) then
      (s, refusal .accountNotOpen)
    else if o.state ≠ .confirmed ∧ !o.due then (s, refusal .wrongState)
    else if o.due ∧ f ≠ o.flow then (s, refusal .wrongState)
    else if f = o.flow ∧ e = o.endSlot then (s, amendedReply handle o)
    else
      let r := if o.due then s.amendDue handle i o e else s.amendConfirmed handle i o f e
      if r.2.result = .done ∧ (f < o.flow ∨ e < o.endSlot) then (r.1.startReexamination, r.2) else r

/-- A refused order request leaves every record as it was (R1); one that is not lets the line make its
choice (R116). -/
def State.settle (r : State × Reply) (s : State) : State × Reply :=
  if r.2.result.refuses then (s, r.2) else (r.1.arbitrate, r.2)

/-- AMEND at the Order Book (R51 to R53). -/
def reqAmend (handle : Nat) (flow endSlot : Option Nat) (s : State) : State × Reply :=
  s.settle (amendBook handle flow endSlot s)
/-- AMEND (R51 to R53). -/
def execAmend (handle : Nat) (flow endSlot : Option Nat) (s : State) :
    Host.Outcome State Fault Refusal :=
  s.takeRequest (.amend handle flow endSlot) (reqAmend handle flow endSlot)

/-! ### CANCEL (R54 to R57) -/

/-- The counts of a CANCEL (R57). -/
structure CancelCounts where
  cancelled : Nat
  ended : Nat
  left : Nat

def CancelCounts.bytes (c : CancelCounts) : List Byte := be16 c.cancelled ++ be16 c.ended ++ be16 c.left

/-- Treat one live order of a POINT or ACCOUNT scope by its state (R57); its mark is set when it
changes. -/
def State.cancelOne (endRunning : Bool) (i : Nat) (acc : State × CancelCounts) :
    State × CancelCounts :=
  match cell? acc.1.obk.orders i with
  | none => acc
  | some o =>
    match o.state with
    | .pendingWait | .confirmed =>
      ((acc.1.cancelOrder i o .cancelledHost).markOrder i,
        { acc.2 with cancelled := acc.2.cancelled + 1 })
    | .running | .suspended =>
      if endRunning then
        ((acc.1.cutOrder i o .endedEarly).markOrder i, { acc.2 with ended := acc.2.ended + 1 })
      else (acc.1, { acc.2 with left := acc.2.left + 1 })
    | .closing | .closed | .cancelled | .expired => acc

/-- Treat the orders of a chain, first to last (R57). -/
def State.cancelChain (chain : List (Nat × Order)) (endRunning : Bool) (s : State) :
    State × CancelCounts :=
  chain.foldl (fun acc e => State.cancelOne endRunning e.1 acc)
    (s, { cancelled := 0, ended := 0, left := 0 })

/-- CANCEL with scope POINT or ACCOUNT, after its checks (R57). -/
def State.cancelMany (chain : List (Nat × Order)) (endRunning : Bool) (s : State) : State × Reply :=
  let r := s.cancelChain chain endRunning
  (if 0 < r.2.cancelled + r.2.ended then r.1.startReexamination else r.1,
    answer .done r.2.bytes)

/-- CANCEL with scope ORDER (R54). -/
def State.cancelNamed (handle : Nat) (s : State) : State × Reply :=
  match s.obk.named? handle with
  | none => (s, refusal .noSuchOrder)
  | some (i, o) =>
    match o.state with
    | .pendingWait | .confirmed =>
      ((s.cancelOrder i o .cancelledHost).startReexamination,
        { result := .done
          data := CancelCounts.bytes { cancelled := 1, ended := 0, left := 0 } ++
            be8 OrderState.cancelled.code
          names := some handle })
    | .running | .suspended =>
      ((s.cutOrder i o .endedEarly).startReexamination,
        { result := .done
          data := CancelCounts.bytes { cancelled := 0, ended := 1, left := 0 } ++
            be8 OrderState.closing.code
          names := some handle })
    | .closing | .closed | .cancelled | .expired => (s, refusal .wrongState)

/-- CANCEL at the Order Book, before the line's choice (R54, R57): scope 0 ORDER, 1 POINT, 2 ACCOUNT. -/
def cancelBook (scope reference running : Nat) (s : State) : State × Reply :=
  match scope with
  | 0 => s.cancelNamed reference
  | 1 =>
    if 1 < running ∨ Config.points ≤ reference then (s, refusal .badParam)
    else
      match s.turnout? reference with
      | none => (s, refusal .noSuchPoint)
      | some _ => s.cancelMany (s.obk.pointChain reference) (running == 1)
  | 2 =>
    if 1 < running ∨ Config.accounts ≤ reference then (s, refusal .badParam)
    else
      match s.account? reference with
      | none => (s, refusal .noSuchAccount)
      | some _ => s.cancelMany (s.obk.accountChain reference) (running == 1)
  | _ => (s, refusal .badParam)

/-- CANCEL at the Order Book (R54 to R57). -/
def reqCancel (scope reference running : Nat) (s : State) : State × Reply :=
  s.settle (cancelBook scope reference running s)
/-- CANCEL (R54 to R57). -/
def execCancel (scope reference running : Nat) (s : State) : Host.Outcome State Fault Refusal :=
  s.takeRequest (.cancel scope reference running) (reqCancel scope reference running)

/-! ### ORDER_QUERY, RETIRE, NEXT_CHANGED -/

/-- The whole order record, as ORDER_QUERY lists it (R59). -/
def Order.bytes (h : Nat) (o : Order) : List Byte :=
  be16 h ++ be16 o.account ++ be16 o.point ++ be32 o.start ++ be8 o.duration ++ be32 o.endSlot ++
    be16 o.flow ++ be8 o.conflict.code ++ o.origin.bytes ++ be32 o.sequence ++ be8 o.state.code ++
    opt8 (o.suspendReason.map SuspendReason.code) ++ opt32 o.cut ++ be32 o.ordered ++
    be32 o.delivered ++ be32 o.estimated ++ be32 o.tail ++ be8 o.slidBy ++
    opt8 (o.closeReason.map CloseReason.code)

/-- ORDER_QUERY at the Order Book (R59). -/
def reqOrderQuery (handle : Nat) (s : State) : State × Reply :=
  match s.obk.named? handle with
  | none => (s, refusal .noSuchOrder)
  | some (_, o) => (s, answer .done (o.bytes handle))
/-- ORDER_QUERY (R59). -/
def execOrderQuery (handle : Nat) (s : State) : Host.Outcome State Fault Refusal :=
  s.takeRequest (.orderQuery handle) (reqOrderQuery handle)

/-- RETIRE at the Order Book (R60). -/
def reqRetire (handle : Nat) (s : State) : State × Reply :=
  match s.obk.named? handle with
  | none => (s, refusal .noSuchOrder)
  | some (i, o) => if o.live then (s, refusal .wrongState) else (s.retireEntry i, doneReply)
/-- RETIRE (R60). -/
def execRetire (handle : Nat) (s : State) : Host.Outcome State Fault Refusal :=
  s.takeRequest (.retire handle) (reqRetire handle)

/-- NEXT_CHANGED at the Order Book (R70): the set mark with the lowest table index. -/
def reqNextChanged (s : State) : State × Reply :=
  match s.obk.marks with
  | [] => (s, answer .nothing [])
  | i :: rest =>
    let s1 : State := { s with obk.marks := rest }
    match cell? s.obk.orders i with
    | none => (s1, answer .nothing [])
    | some o =>
      (s1, answer .done
        (be16 (s.obk.handle i) ++ be8 o.state.code ++ opt8 (o.closeReason.map CloseReason.code) ++
          opt8 (o.suspendReason.map SuspendReason.code) ++ be16 rest.length))
/-- NEXT_CHANGED (R70). -/
def execNextChanged (s : State) : Host.Outcome State Fault Refusal :=
  s.takeRequest .nextChanged reqNextChanged

end Sys2Proof.Machine
end

