-- ==== Sys2Proof/Machine/SweepEngine.lean ====
section
/-! DEFINITION. The sweep status record: starting a sweep, its ACCEPTED answer and its query (R164,
R165, R167). -/

namespace Sys2Proof.Machine

/-- Counts at the start of a sweep (R164). -/
def Counts.zero : Counts :=
  { changed := 0, cancelled := 0, shortened := 0, ended := 0, bumped := 0, requeued := 0 }

/-- The status record of a sweep that is set up (R164). -/
def Sweep.setUp (kind : SweepKind) (requested actual : Scope) (share : Option Nat)
    (drain : Option Drain) (cursor : Nat) : Sweep :=
  { kind := kind, requested := requested, actual := actual, share := share, drain := drain,
    cursor := cursor, counts := .zero, state := .inProgress }

/-- A sweep starts (R164): the record is replaced whole and the done indication clears. -/
def State.startSweep (w : Sweep) (s : State) : State :=
  { s with sweep := { status := some w, done := false } }

/-- The parameters of a sweep in its ACCEPTED answer: a CURTAIL's curtailment and drain option; no bytes for a
sweep without parameters (log entry 13). -/
def Sweep.parameterBytes (w : Sweep) : List Byte :=
  match w.share, w.drain with
  | some q, some d => be16 q ++ be8 d.code
  | _, _ => []

/-- An ACCEPTED answer (R165), before what the owning rule adds (log entry 13). -/
def Sweep.accepted (w : Sweep) (more : List Byte) : Reply :=
  answer .accepted
    (be8 (sweepKindCode w.kind) ++ w.requested.bytes ++ w.actual.bytes ++ w.parameterBytes ++ more)

/-- The six counts. -/
def Counts.bytes (c : Counts) : List Byte :=
  be16 c.changed ++ be16 c.cancelled ++ be16 c.shortened ++ be16 c.ended ++ be16 c.bumped ++
    be16 c.requeued

/-- The whole status record as SWEEP_QUERY gives it; before the first sweep its fields are absent and
its counts 0 (R164, R167). -/
def Sweep.bytes : Option Sweep → List Byte
  | none =>
    opt8 none ++ Scope.nowhere.bytes ++ Scope.nowhere.bytes ++ opt16 none ++ opt8 none ++ opt32 none ++
      Counts.zero.bytes ++ opt8 none
  | some w =>
    be8 (sweepKindCode w.kind) ++ w.requested.bytes ++ w.actual.bytes ++ opt16 w.share ++
      opt8 (w.drain.map Drain.code) ++ be32 w.cursor ++ w.counts.bytes ++ be8 w.state.code

/-- SWEEP_QUERY at the Sweep Engine (R167): the done indication clears. -/
def reqSweepQuery (s : State) : State × Reply :=
  ({ s with sweep.done := false }, answer .done (Sweep.bytes s.sweep.status))
/-- SWEEP_QUERY (R167). -/
def execSweepQuery (s : State) : Host.Outcome State Fault Refusal :=
  s.takeRequest .sweepQuery reqSweepQuery

end Sys2Proof.Machine
end

