-- ==== Sys2Proof/Machine/Accounts.lean ====
section
/-! DEFINITION. The Account Unit: charges, the close of a period, and the account, transfer, period and
statement requests (sections 1.4 and 1.5, chapter 8). -/

namespace Sys2Proof.Machine

/-! ### Charges (R152 to R156) -/

/-- The three buckets of an account. -/
inductive Bucket
  | ordered | unordered | frost
  deriving DecidableEq, Repr

/-- A tier boundary in litres (R153). -/
def tierBoundary (effective b : Nat) : Nat := min Config.counterMax (effective * b / Config.fullShare)
/-- The litres from c up to c + v that lie in the tier from lo up to hi (R153). -/
def tierPart (c v lo hi : Nat) : Nat := min (c + v) hi - max c lo
/-- The product of an ordered posting of v litres at tier position c (R153). The last tier has no
limit: its upper end is the end of the posting. -/
def orderedProduct (t : Tariff) (effective c v : Nat) : Nat :=
  let b1 := tierBoundary effective t.b1
  let b2 := tierBoundary effective t.b2
  let b3 := tierBoundary effective t.b3
  tierPart c v 0 b1 * t.r0 + tierPart c v b1 b2 * t.r1 + tierPart c v b2 b3 * t.r2 +
    tierPart c v b3 (c + v) * t.r3
/-- A posting's product (R153, R154). -/
def Account.product (t : Tariff) (k : Bucket) (v : Nat) (a : Account) : Nat :=
  match k with
  | .ordered => orderedProduct t a.effective a.used v
  | .unordered => v * t.unordered
  | .frost => v * t.frost
/-- The cents a posting charges (R155). -/
def Account.centsOf (t : Tariff) (k : Bucket) (v : Nat) (a : Account) : Nat :=
  (a.residual + a.product t k v) / Config.centUnits

/-- The account after its part of a posting (R139, R140, R141, R152, R155). -/
def Account.post (t : Tariff) (k : Bucket) (v : Nat) (estimated : Bool) (a : Account) : Account :=
  let e := if estimated then v else 0
  let cents := a.centsOf t k v
  let a1 : Account :=
    { a with
      seasonEstimated := saturate a.seasonEstimated e
      periodEstimated := saturate a.periodEstimated e
      residual := (a.residual + a.product t k v) % Config.centUnits }
  match k with
  | .ordered =>
    { a1 with
      seasonOrdered := saturate a.seasonOrdered v
      periodOrdered := saturate a.periodOrdered v
      centsOrdered := saturate a.centsOrdered cents }
  | .unordered =>
    { a1 with
      seasonUnordered := saturate a.seasonUnordered v
      periodUnordered := saturate a.periodUnordered v
      centsUnordered := saturate a.centsUnordered cents }
  | .frost =>
    { a1 with
      seasonFrost := saturate a.seasonFrost v
      periodFrost := saturate a.periodFrost v
      centsFrost := saturate a.centsFrost cents }

/-- Some counter of the account cannot take a posting in full (R142, R156). -/
def Account.saturates (t : Tariff) (k : Bucket) (v : Nat) (estimated : Bool) (a : Account) : Bool :=
  let e := if estimated then v else 0
  let cents := a.centsOf t k v
  overflows a.seasonEstimated e || overflows a.periodEstimated e ||
    (match k with
      | .ordered =>
        overflows a.seasonOrdered v || overflows a.periodOrdered v || overflows a.centsOrdered cents
      | .unordered =>
        overflows a.seasonUnordered v || overflows a.periodUnordered v ||
          overflows a.centsUnordered cents
      | .frost =>
        overflows a.seasonFrost v || overflows a.periodFrost v || overflows a.centsFrost cents)

/-! ### The close of a period (R160) -/

/-- The record of the period now closing (R160). -/
def Account.statementNow (minute : Nat) (a : Account) : Statement :=
  { period := a.period, ordered := a.periodOrdered, unordered := a.periodUnordered,
    frost := a.periodFrost, estimated := a.periodEstimated, centsOrdered := a.centsOrdered,
    centsUnordered := a.centsUnordered, centsFrost := a.centsFrost,
    total := min Config.counterMax (a.centsOrdered + a.centsUnordered + a.centsFrost),
    standing := a.reported, minute := minute }
/-- The account after the close of its period (R160). -/
def Account.closePeriod (minute : Nat) (a : Account) : Account :=
  { a with
    statement := some (a.statementNow minute)
    periodOrdered := 0
    periodUnordered := 0
    periodFrost := 0
    periodEstimated := 0
    centsOrdered := 0
    centsUnordered := 0
    centsFrost := 0
    period := if a.period = 65535 then 0 else a.period + 1 }

/-- The finished orders of an account, first to last in its chain (R43). -/
def OrderBook.finished (b : OrderBook) (n : Nat) : List (Nat × Order) :=
  (b.accountChain n).filter (fun e => !e.2.live)
/-- Retire every finished order of an account (R160). -/
def State.retireFinished (n : Nat) (s : State) : State :=
  (s.obk.finished n).foldl (fun s e => s.retireEntry e.1) s
/-- The close of one period of an account (R160). -/
def State.closePeriod (n : Nat) (s : State) : State :=
  match s.account? n with
  | none => s
  | some a => (s.setAccount n (a.closePeriod s.cal.clock)).retireFinished n

/-! ### ACCOUNT_SET (R14) -/

/-- An account opened from VACANT (R13, R14). -/
def Account.fresh (cls base : Nat) : Account :=
  { state := .opened, cls := cls, base := base, curtailment := Config.fullShare, transferNet := 0,
    seasonOrdered := 0, seasonUnordered := 0, seasonFrost := 0, seasonEstimated := 0, reserved := 0,
    periodOrdered := 0, periodUnordered := 0, periodFrost := 0, periodEstimated := 0,
    centsOrdered := 0, centsUnordered := 0, centsFrost := 0, residual := 0, period := 0,
    statement := none, live := 0, mark := true }
/-- ACCOUNT_SET on an account that is not VACANT: a CLOSED one reopens. -/
def Account.reset (cls base : Nat) (a : Account) : Account :=
  { a with
    state := if a.state = .closed then .opened else a.state
    cls := cls
    base := base }

/-- ACCOUNT_SET at the Account Unit (R14). -/
def reqAccountSet (account cls base : Nat) (s : State) : State × Reply :=
  if Config.accounts ≤ account ∨ Config.classes ≤ cls then (s, refusal .badParam)
  else
    match s.account? account with
    | none => (s.setAccount account (.fresh cls base), doneReply)
    | some a =>
      let s1 := s.setAccount account (a.revise (Account.reset cls base))
      if a.state = .opened ∧ a.effective < (a.reset cls base).effective then
        (s1.startReexamination.arbitrate, doneReply)
      else (s1, doneReply)
/-- ACCOUNT_SET (R14). -/
def execAccountSet (account cls base : Nat) (s : State) : Host.Outcome State Fault Refusal :=
  s.takeRequest (.accountSet account cls base) (reqAccountSet account cls base)

/-! ### ACCOUNT_QUERY (R18) -/

/-- The RECORD part (R18). -/
def Account.recordBytes (a : Account) : List Byte :=
  be8 (AccountState.code (some a.state)) ++ be8 a.cls ++ be32 a.base ++ be16 a.curtailment ++
    signed32 a.transferNet ++ be32 a.effective ++ be32 a.seasonOrdered ++ be32 a.seasonUnordered ++
    be32 a.seasonFrost ++ be32 a.seasonEstimated ++ be32 a.reserved ++ be32 a.residual ++
    be16 a.period ++ be8 a.reported.code ++ be16 a.live
/-- The PERIOD part (R18). -/
def Account.periodBytes (a : Account) : List Byte :=
  be8 (AccountState.code (some a.state)) ++ be16 a.period ++ be32 a.periodOrdered ++
    be32 a.periodUnordered ++ be32 a.periodFrost ++ be32 a.periodEstimated ++ be32 a.centsOrdered ++
    be32 a.centsUnordered ++ be32 a.centsFrost

/-- ACCOUNT_QUERY at the Account Unit (R18): part 0 RECORD, 1 PERIOD. -/
def reqAccountQuery (account part : Nat) (s : State) : State × Reply :=
  if Config.accounts ≤ account ∨ 1 < part then (s, refusal .badParam)
  else
    match s.account? account with
    | none => (s, answer .done (be8 (AccountState.code none)))
    | some a => (s, answer .done (if part = 0 then a.recordBytes else a.periodBytes))
/-- ACCOUNT_QUERY (R18). -/
def execAccountQuery (account part : Nat) (s : State) : Host.Outcome State Fault Refusal :=
  s.takeRequest (.accountQuery account part) (reqAccountQuery account part)

/-! ### ACCOUNT_SUSPEND, ACCOUNT_RESUME, ACCOUNT_CLOSE (R15 to R17) -/

/-- Cancel one order of a suspended account (R15, R58). -/
def State.suspendOne (s : State) (e : Nat × Order) : State :=
  match cell? s.obk.orders e.1 with
  | none => s
  | some o => (s.cancelOrder e.1 o .accountSuspended).markOrder e.1
/-- The orders that ACCOUNT_SUSPEND cancels, first to last in the account chain (R15, R43). -/
def OrderBook.cancellable (b : OrderBook) (n : Nat) : List (Nat × Order) :=
  (b.accountChain n).filter
    (fun e => decide (e.2.state = .confirmed) || decide (e.2.state = .pendingWait))

/-- ACCOUNT_SUSPEND at the Account Unit (R15). -/
def reqAccountSuspend (account : Nat) (s : State) : State × Reply :=
  if Config.accounts ≤ account then (s, refusal .badParam)
  else
    match s.account? account with
    | none => (s, refusal .noSuchAccount)
    | some a =>
      if a.state = .opened then
        let s1 := s.setAccount account (a.revise (fun a => { a with state := .suspended }))
        let gone := s1.obk.cancellable account
        let s2 := gone.foldl (fun s e => s.suspendOne e) s1
        ((if gone.isEmpty then s2 else s2.startReexamination).arbitrate,
          answer .done (be16 gone.length))
      else (s, refusal .wrongState)
/-- ACCOUNT_SUSPEND (R15). -/
def execAccountSuspend (account : Nat) (s : State) : Host.Outcome State Fault Refusal :=
  s.takeRequest (.accountSuspend account) (reqAccountSuspend account)

/-- ACCOUNT_RESUME at the Account Unit (R16). -/
def reqAccountResume (account : Nat) (s : State) : State × Reply :=
  if Config.accounts ≤ account then (s, refusal .badParam)
  else
    match s.account? account with
    | none => (s, refusal .noSuchAccount)
    | some a =>
      if a.state = .suspended then
        ((s.setAccount account
            (a.revise (fun a => { a with state := .opened }))).startReexamination.arbitrate,
          doneReply)
      else (s, refusal .wrongState)
/-- ACCOUNT_RESUME (R16). -/
def execAccountResume (account : Nat) (s : State) : Host.Outcome State Fault Refusal :=
  s.takeRequest (.accountResume account) (reqAccountResume account)

/-- A TURNOUT point names the account (R17). -/
def State.named (s : State) (account : Nat) : Bool :=
  s.points.any (fun e => decide (e.2.kind = .turnout) && decide (e.2.account = some account))

/-- ACCOUNT_CLOSE at the Account Unit (R17). -/
def reqAccountClose (account : Nat) (s : State) : State × Reply :=
  if Config.accounts ≤ account then (s, refusal .badParam)
  else
    match s.account? account with
    | none => (s, refusal .noSuchAccount)
    | some a =>
      if a.state = .closed then (s, refusal .wrongState)
      else if 0 < a.live ∨ s.named account then (s, refusal .inUse)
      else (s.setAccount account (a.revise (fun a => { a with state := .closed })), doneReply)
/-- ACCOUNT_CLOSE (R17). -/
def execAccountClose (account : Nat) (s : State) : Host.Outcome State Fault Refusal :=
  s.takeRequest (.accountClose account) (reqAccountClose account)

/-! ### Tariff classes (R19) -/

/-- A tier boundary outside its range. -/
def badBoundary (b : Nat) : Bool := decide (b < 1 ∨ 30000 < b)

/-- TARIFF_SET at the Account Unit (R19). -/
def reqTariffSet (cls b1 b2 b3 r0 r1 r2 r3 unordered frost : Nat) (s : State) : State × Reply :=
  if Config.classes ≤ cls ∨ badBoundary b1 ∨ badBoundary b2 ∨ badBoundary b3 ∨ ¬(b1 < b2 ∧ b2 < b3) then
    (s, refusal .badParam)
  else
    let t : Tariff :=
      { b1 := b1, b2 := b2, b3 := b3, r0 := r0, r1 := r1, r2 := r2, r3 := r3, unordered := unordered,
        frost := frost }
    ({ s with tariffs := setValue .powerOn s.tariffs cls t }, doneReply)
/-- TARIFF_SET (R19). -/
def execTariffSet (cls b1 b2 b3 r0 r1 r2 r3 unordered frost : Nat) (s : State) :
    Host.Outcome State Fault Refusal :=
  s.takeRequest (.tariffSet cls b1 b2 b3 r0 r1 r2 r3 unordered frost)
    (reqTariffSet cls b1 b2 b3 r0 r1 r2 r3 unordered frost)

/-- The nine values of a class. -/
def Tariff.bytes (t : Tariff) : List Byte :=
  be16 t.b1 ++ be16 t.b2 ++ be16 t.b3 ++ be16 t.r0 ++ be16 t.r1 ++ be16 t.r2 ++ be16 t.r3 ++
    be16 t.unordered ++ be16 t.frost
/-- TARIFF_QUERY at the Account Unit (R19). -/
def reqTariffQuery (cls : Nat) (s : State) : State × Reply :=
  if Config.classes ≤ cls then (s, refusal .badParam) else (s, answer .done (s.tariff cls).bytes)
/-- TARIFF_QUERY (R19). -/
def execTariffQuery (cls : Nat) (s : State) : Host.Outcome State Fault Refusal :=
  s.takeRequest (.tariffQuery cls) (reqTariffQuery cls)

/-! ### TRANSFER (R149 to R151) -/

/-- Litres move from one account's transfer net to another's (R150). -/
def State.moveLitres (giver taker amount : Nat) (s : State) : State :=
  (s.reviseAccount giver (fun a => { a with transferNet := a.transferNet - amount })).reviseAccount taker
    (fun a => { a with transferNet := a.transferNet + amount })

/-- What TRANSFER answers for one account (R150). -/
def State.transferBytes (s : State) (n : Nat) : List Byte :=
  match s.account? n with
  | none => []
  | some a => signed32 a.transferNet ++ be32 a.effective ++ signed40 a.available

/-- TRANSFER at the Account Unit (R149, R150). -/
def reqTransfer (giver taker amount : Nat) (s : State) : State × Reply :=
  if Config.accounts ≤ giver ∨ Config.accounts ≤ taker ∨ giver = taker ∨ amount < 1 ∨
      Config.counterMax < amount then (s, refusal .badParam)
  else
    match s.account? giver, s.account? taker with
    | some g, some t =>
      if g.state ≠ .opened ∨ t.state ≠ .opened then (s, refusal .accountNotOpen)
      else if g.available < (amount : Int) then (s, refusal .allocationShort)
      else if g.transferNet - (amount : Int) < -(Config.counterMax : Int) ∨
          (Config.counterMax : Int) < t.transferNet + (amount : Int) then (s, refusal .badParam)
      else
        let s1 := s.moveLitres giver taker amount
        (s1.startReexamination.arbitrate, answer .done (s1.transferBytes giver ++ s1.transferBytes taker))
    | _, _ => (s, refusal .noSuchAccount)
/-- TRANSFER (R149, R150). -/
def execTransfer (giver taker amount : Nat) (s : State) : Host.Outcome State Fault Refusal :=
  s.takeRequest (.transfer giver taker amount) (reqTransfer giver taker amount)

/-! ### PERIOD_CLOSE (R159, R177) -/

/-- PERIOD_CLOSE with scope ACCOUNT (R159). -/
def State.closeAccountPeriod (account : Nat) (s : State) : State × Reply :=
  if Config.accounts ≤ account then (s, refusal .badParam)
  else if s.sweeping then (s, refusal .busySweep)
  else
    match s.account? account with
    | none => (s, refusal .noSuchAccount)
    | some a =>
      (s.closePeriod account,
        answer .done
          (be16 a.period ++ be32 (a.statementNow s.cal.clock).total ++
            be16 (s.obk.finished account).length))
/-- PERIOD_CLOSE with scope CLASS or DISTRICT starts a sweep (R177). -/
def State.closeScopePeriod (scope : Scope) (s : State) : State × Reply :=
  if s.sweeping then (s, refusal .busySweep)
  else
    let w := Sweep.setUp .periodClose scope scope none none 0
    (s.startSweep w, w.accepted [])
/-- PERIOD_CLOSE at the Account Unit (R159, R177): scope 0 ACCOUNT, 1 CLASS, 2 DISTRICT. -/
def reqPeriodClose (scope reference : Nat) (s : State) : State × Reply :=
  match scope with
  | 0 => s.closeAccountPeriod reference
  | 1 =>
    if Config.classes ≤ reference % 256 then (s, refusal .badParam)
    else s.closeScopePeriod (.cls (reference % 256))
  | 2 => s.closeScopePeriod .district
  | _ => (s, refusal .badParam)
/-- PERIOD_CLOSE (R159, R177). -/
def execPeriodClose (scope reference : Nat) (s : State) : Host.Outcome State Fault Refusal :=
  s.takeRequest (.periodClose scope reference) (reqPeriodClose scope reference)

/-! ### STATEMENT_QUERY, NEXT_ACCOUNT_CHANGED (R161, R163) -/

/-- A statement, or its absence. -/
def Statement.bytes : Option Statement → List Byte
  | none =>
    opt16 none ++ opt32 none ++ opt32 none ++ opt32 none ++ opt32 none ++ opt32 none ++ opt32 none ++
      opt32 none ++ opt32 none ++ opt8 none ++ optMinute none
  | some t =>
    be16 t.period ++ be32 t.ordered ++ be32 t.unordered ++ be32 t.frost ++ be32 t.estimated ++
      be32 t.centsOrdered ++ be32 t.centsUnordered ++ be32 t.centsFrost ++ be32 t.total ++
      be8 t.standing.code ++ optMinute (some t.minute)
/-- STATEMENT_QUERY at the Account Unit (R161). -/
def reqStatementQuery (account : Nat) (s : State) : State × Reply :=
  if Config.accounts ≤ account then (s, refusal .badParam)
  else
    match s.account? account with
    | none => (s, answer .done (be8 (AccountState.code none) ++ be16 0 ++ Statement.bytes none))
    | some a =>
      (s, answer .done
        (be8 (AccountState.code (some a.state)) ++ be16 a.period ++ Statement.bytes a.statement))
/-- STATEMENT_QUERY (R161). -/
def execStatementQuery (account : Nat) (s : State) : Host.Outcome State Fault Refusal :=
  s.takeRequest (.statementQuery account) (reqStatementQuery account)

/-- The accounts whose change mark is set, ascending. -/
def State.marked (s : State) : List (Nat × Account) := s.accounts.filter (fun e => e.2.mark)

/-- NEXT_ACCOUNT_CHANGED at the Account Unit (R163). -/
def reqNextAccountChanged (s : State) : State × Reply :=
  match s.marked with
  | [] => (s, answer .nothing [])
  | (n, a) :: rest =>
    (s.setAccount n { a with mark := false },
      answer .done
        (be16 n ++ be8 (AccountState.code (some a.state)) ++ be8 a.reported.code ++ be32 a.effective ++
          be40 a.used ++ be16 rest.length))
/-- NEXT_ACCOUNT_CHANGED (R163). -/
def execNextAccountChanged (s : State) : Host.Outcome State Fault Refusal :=
  s.takeRequest .nextAccountChanged reqNextAccountChanged

end Sys2Proof.Machine
end

