-- ==== Sys2Proof/Machine/Tables.lean ====
section
/-! DEFINITION. The district tables: reaches, points and district settings (sections 1.2, 1.3, 1.6). -/

namespace Sys2Proof.Machine

/-! ### REACH_SET (R3, R4, R5) -/

/-- The range check of CONFIGURE (R3, check 1). -/
def badReachRange (reach : Nat) (parent : Option Nat) (capacity lag : Nat) : Bool :=
  decide (Config.reaches ≤ reach ∨ 60000 < capacity ∨ 48 < lag) ||
    (match parent with
      | none => decide (reach ≠ 0)
      | some p => decide (reach = 0 ∨ reach ≤ p)) ||
    decide (reach = 0 ∧ lag ≠ 0)

/-- The shape check of CONFIGURE (R3, check 3). -/
def badShape (rs : Table Reach) (reach : Nat) (parent : Option Nat) (lag : Nat) : Bool :=
  (match parent with
    | none => false
    | some p =>
      decide (lag < lagOf rs p) || decide (Config.maxDepth < depthOf rs p + heightOf rs reach)) ||
    (childrenOf rs reach).any (fun c => decide (c.2.lag < lag))

/-- Some live order belongs to a point lying on or below the reach (R4). -/
def State.trafficBelow (s : State) (reach : Nat) : Bool :=
  s.obk.orders.any (fun e => e.2.live && inSubtree s.cal.reaches reach (s.reachOf e.2))
/-- The committed flow of the reach exceeds a capacity in some slot within horizon (R4). -/
def State.committedAbove (s : State) (reach capacity : Nat) : Bool :=
  s.cal.committed.any
    (fun e => decide (e.1 % Config.reaches = reach) && decide (capacity < e.2) &&
      decide (s.cal.slot ≤ e.1 / Config.reaches) && decide (e.1 / Config.reaches < s.cal.horizonEnd))

/-- The use check of CONFIGURE on a configured reach (R4). -/
def State.reachInUse (s : State) (reach : Nat) (old : Reach) (parent : Option Nat)
    (capacity lag : Nat) : Bool :=
  ((decide (parent ≠ old.parent) || decide (lag ≠ old.lag)) && s.trafficBelow reach) ||
    s.committedAbove reach capacity

/-- Every configured reach. -/
def State.configured (s : State) : List Nat := s.cal.reaches.map (fun e => e.1)

/-- CONFIGURE on a reach that is already configured: the record, the frost extra loads when the parent
changes (R105), the re-examination when the capacity rises (R4). -/
def State.reconfigure (reach : Nat) (old new : Reach) (s : State) : State :=
  let s1 : State := { s with cal.reaches := setCell s.cal.reaches reach new }
  let s2 := if new.parent = old.parent then s1 else s1.refreshFrost s1.configured
  if old.capacity < new.capacity then s2.startReexamination.arbitrate else s2.arbitrate

/-- REACH_SET with action CONFIGURE (R3, R4). -/
def State.configureReach (reach : Nat) (parent : Option Nat) (capacity lag : Nat) (s : State) :
    State × Reply :=
  if badReachRange reach parent capacity lag then (s, refusal .badParam)
  else if parent.any (fun p => (s.reach? p).isNone) then (s, refusal .noSuchReach)
  else if badShape s.cal.reaches reach parent lag then (s, refusal .badParam)
  else
    match s.reach? reach with
    | none =>
      ({ s with
          cal.reaches := setCell s.cal.reaches reach
            { parent := parent, capacity := capacity, lag := lag, check := none } }, doneReply)
    | some old =>
      if s.reachInUse reach old parent capacity lag then (s, refusal .inUse)
      else
        (s.reconfigure reach old { old with parent := parent, capacity := capacity, lag := lag },
          doneReply)

/-- REACH_SET with action UNCONFIGURE (R5). -/
def State.unconfigureReach (reach : Nat) (s : State) : State × Reply :=
  if Config.reaches ≤ reach then (s, refusal .badParam)
  else if (s.reach? reach).isNone then (s, refusal .noSuchReach)
  else if !(childrenOf s.cal.reaches reach).isEmpty ∨
      s.points.any (fun e => decide (e.2.reach = reach)) then (s, refusal .inUse)
  else ({ s with cal.reaches := delCell s.cal.reaches reach }, doneReply)

/-- REACH_SET at the Slot Calendar (R3 to R5): action 0 CONFIGURE, 1 UNCONFIGURE. -/
def reqReachSet (action reach : Nat) (parent : Option Nat) (capacity lag : Nat) (s : State) :
    State × Reply :=
  match action with
  | 0 => s.configureReach reach parent capacity lag
  | 1 => s.unconfigureReach reach
  | _ => (s, refusal .badParam)
/-- REACH_SET (R3 to R5). -/
def execReachSet (action reach : Nat) (parent : Option Nat) (capacity lag : Nat) (s : State) :
    Host.Outcome State Fault Refusal :=
  s.takeRequest (.reachSet action reach parent capacity lag)
    (reqReachSet action reach parent capacity lag)

/-! ### REACH_QUERY (R6) -/

/-- A reach's own fields: configured, parent, capacity, lag, check point. -/
def Reach.bytes : Option Reach → List Byte
  | none => yesNo false ++ opt8 none ++ be16 0 ++ be8 0 ++ opt16 none
  | some v => yesNo true ++ opt8 v.parent ++ be16 v.capacity ++ be8 v.lag ++ opt16 v.check
/-- REACH_QUERY at the Slot Calendar (R6). -/
def reqReachQuery (reach : Nat) (s : State) : State × Reply :=
  if Config.reaches ≤ reach then (s, refusal .badParam)
  else
    match s.reach? reach with
    | none => (s, answer .done (Reach.bytes none))
    | some v =>
      (s, answer .done
        (Reach.bytes (some v) ++ be8 (depthOf s.cal.reaches reach) ++
          padded 8 (pathOf s.cal.reaches reach) ++ be8 (childrenOf s.cal.reaches reach).length ++
          be16 (s.points.filter (fun e => decide (e.2.reach = reach))).length))
/-- REACH_QUERY (R6). -/
def execReachQuery (reach : Nat) (s : State) : Host.Outcome State Fault Refusal :=
  s.takeRequest (.reachQuery reach) (reqReachQuery reach)

/-! ### Points: creation, removal, polling (R7, R106) -/

/-- A calibration becomes active (R11): its effects on the meter record. -/
def Point.activate (c : Calibration) (p : Point) : Point :=
  { p with
    active := c
    staged := none
    meter := { p.meter with
      residual := 0
      suspects := 0
      state := if c.mantissa = 0 then .meterless else .rebase } }

/-- A point as created (R7, R88, R112, R123). -/
def Point.created (kind : PointKind) (reach : Nat) (account : Option Nat) (rated frostRate : Nat)
    (c : Calibration) (minute : Nat) : Point :=
  { kind := kind, reach := reach, account := account, rated := rated, frostRate := frostRate,
    mode := .disabled, switch := .remote, latch := false, target := 0, scheduled := none,
    backup := none, closeOwed := false, overload := false, position := 0, gateFault := false,
    active := c, staged := none,
    field := { acknowledged := 0, inFlight := none, declined := none, sendPending := false,
               resendOwed := false, unconfirmed := false }
    meter := { state := if c.mantissa = 0 then .meterless else .rebase, baseline := 0, residual := 0,
               lastMinute := minute, suspects := 0, seasonMetered := 0, seasonEstimated := 0 } }

/-- A station enters the poll rotation (R106). -/
def Station.enter (v : Station) : Station :=
  { v with polled := true, state := .responding, failures := 0, silentSince := none, interval := 0,
           due := true }
/-- A station leaves the poll rotation (R106). -/
def Station.leave (v : Station) : Station :=
  { v with polled := false, state := .responding, failures := 0, silentSince := none, interval := 0,
           due := false }
/-- A station's polling follows whether one of its points is not UNUSED (R7, R106). -/
def State.followPolling (a : Nat) (s : State) : State :=
  let used := s.points.any (fun e => decide (stationOf e.1 = a))
  if used == (s.station a).polled then s
  else if used then s.setStation a (s.station a).enter
  else s.setStation a (s.station a).leave

/-- A reach's check point field (R10). -/
def State.setCheck (r : Nat) (c : Option Nat) (s : State) : State :=
  match s.reach? r with
  | none => s
  | some v => { s with cal.reaches := setCell s.cal.reaches r { v with check := c } }
/-- The check point fields follow a point's change (R10). -/
def State.followCheck (n : Nat) (old new : Option Point) (s : State) : State :=
  let s1 := match old with
    | some p => if p.kind = .check then s.setCheck p.reach none else s
    | none => s
  match new with
  | some p => if p.kind = .check then s1.setCheck p.reach (some n) else s1
  | none => s1

/-- A SET on the line whose point becomes UNUSED (R115). -/
def Line.dropPoint (n : Nat) (l : Line) : Line :=
  match l.transaction with
  | some ({ job := .set q v _, .. } : Transaction) =>
    if q = n then
      { l with transaction := l.transaction.map (fun t => { t with job := .set q v true }) }
    else l
  | _ => l
/-- What was handed over for a point and not yet taken is lost with the point (R120; log entry 2). -/
def Mail.dropPoint (n : Nat) (m : Mail) : Mail :=
  { m with
    notices := m.notices.filter (fun x => x.point != n)
    gates := m.gates.filter (fun x => x.point != n)
    readings := m.readings.filter (fun x => x.point != n)
    applied := m.applied.filter (fun x => x.point != n) }

/-- A point becomes UNUSED (R7, R9, R88, R112, R123). -/
def State.removePoint (n : Nat) (p : Point) (s : State) : State :=
  let s1 : State :=
    { s with
      points := delCell s.points n
      line := s.line.dropPoint n
      mail := s.mail.dropPoint n }
  (s1.followCheck n (some p) none).followPolling (stationOf n)
/-- A point is created, from UNUSED or by a change of kind (R7). A SET on the line at a change of kind stays the
new point's (log entry 16), and so does what was handed over for the point and is not yet taken (log entry 42). -/
def State.createPoint (n : Nat) (old : Option Point) (new : Point) (s : State) : State :=
  ((s.setPoint n new).followCheck n old (some new)).followPolling (stationOf n)

/-! ### POINT_SET (R8 to R11) -/

/-- The range check of POINT_SET (R8, check 1, R1), with the highest reach and account number in it (log
entry 33). -/
def badPointRange (point kind reach account rated frostRate mantissa shift : Nat) : Bool :=
  decide (Config.points ≤ point) ||
    (match kind with
      | 0 => false
      | 1 =>
        decide (Config.reaches ≤ reach ∨ Config.accounts ≤ account ∨ rated < 1 ∨ 2000 < rated ∨
          2000 < frostRate ∨ 65535 < mantissa ∨ 15 < shift)
      | 2 =>
        decide (Config.reaches ≤ reach ∨ rated < 1 ∨ 60000 < rated ∨ 0 < frostRate ∨ 0 < mantissa ∨
          0 < shift)
      | _ => true)

/-- The point has a live order. -/
def State.liveAt (s : State) (point : Nat) : Bool :=
  s.obk.orders.any (fun e => decide (e.2.point = point) && e.2.live)
/-- The point has a live order whose flow is above a rated flow. -/
def State.liveAbove (s : State) (point rated : Nat) : Bool :=
  s.obk.orders.any (fun e => decide (e.2.point = point) && e.2.live && decide (rated < e.2.flow))

/-- The request changes the kind, the reach or the account of a point (R8). -/
def Point.moves (p : Point) (kind : PointKind) (reach : Nat) (account : Option Nat) : Bool :=
  decide (p.kind ≠ kind) || decide (p.reach ≠ reach) || decide (p.account ≠ account)

/-- Checks 2 to 5 of R8 for a TURNOUT or a CHECK. -/
def State.pointRefused (point : Nat) (kind : PointKind) (reach : Nat) (account : Option Nat)
    (rated : Nat) (s : State) : Option Result :=
  match s.reach? reach with
  | none => some .noSuchReach
  | some v =>
    if account.any (fun a => (s.account? a).isNone) then some .noSuchAccount
    else if account.any (fun a => (s.account? a).any (fun x => decide (x.state = .closed))) then
      some .accountNotOpen
    else
      match s.point? point with
      | none =>
        if kind = .check ∧ v.check.isSome then some .inUse else none
      | some p =>
        if p.moves kind reach account ∧ p.mode ≠ .disabled then some .wrongState
        else if p.moves kind reach account ∧ s.liveAt point then some .inUse
        else if kind = .turnout ∧ s.liveAbove point rated then some .inUse
        else if kind = .check ∧ v.check.any (fun c => c != point) then some .inUse
        else none

/-- The calibration of a POINT_SET on a TURNOUT that stays a TURNOUT (R11). -/
def Point.calibrate (c : Calibration) (p : Point) : Point :=
  match p.mode with
  | .disabled => p.activate c
  | .auto | .localHold => { p with staged := if c = p.active then none else some c }

/-- A point that keeps its kind takes the request's fields (R9 to R11): the target of a CHECK in AUTO
follows its rated flow, the target and term of a frost-flagged turnout in AUTO its frost rate. -/
def State.updatePoint (n : Nat) (p : Point) (reach : Nat) (account : Option Nat)
    (rated frostRate : Nat) (c : Calibration) (s : State) : State :=
  let moved : Point :=
    { p with reach := reach, account := account, rated := rated, frostRate := frostRate }
  match p.kind with
  | .check =>
    let s1 := (s.setPoint n moved).followCheck n (some p) (some moved)
    if rated = p.rated then s1 else s1.recheck n
  | .turnout =>
    let s1 := s.setPoint n (moved.calibrate c)
    if p.mode = .auto ∧ p.backup.isSome ∧ frostRate ≠ p.frostRate then
      (s1.retarget n).refreshPath reach
    else s1

/-- POINT_SET with kind TURNOUT or CHECK, after the range check (R8 to R11). -/
def State.givePoint (n : Nat) (kind : PointKind) (reach : Nat) (account : Option Nat)
    (rated frostRate : Nat) (c : Calibration) (s : State) : State × Reply :=
  match s.pointRefused n kind reach account rated with
  | some r => (s, refusal r)
  | none =>
    let new := Point.created kind reach account rated frostRate c s.cal.clock
    match s.point? n with
    | none => ((s.createPoint n none new).arbitrate, doneReply)
    | some p =>
      if p.kind = kind then ((s.updatePoint n p reach account rated frostRate c).arbitrate, doneReply)
      else ((s.createPoint n (some p) new).arbitrate, doneReply)

/-- POINT_SET with kind UNUSED (R8, R9). -/
def State.clearPoint (n : Nat) (s : State) : State × Reply :=
  match s.point? n with
  | none => (s, doneReply)
  | some p =>
    if p.mode ≠ .disabled then (s, refusal .wrongState)
    else if s.liveAt n then (s, refusal .inUse)
    else ((s.removePoint n p).arbitrate, doneReply)

/-- POINT_SET at Release Control (R8 to R11): kind 0 UNUSED, 1 TURNOUT, 2 CHECK. -/
def reqPointSet (point kind reach account rated frostRate mantissa shift : Nat) (s : State) :
    State × Reply :=
  if badPointRange point kind reach account rated frostRate mantissa shift then (s, refusal .badParam)
  else
    let c : Calibration := { mantissa := mantissa, shift := shift }
    match kind with
    | 0 => s.clearPoint point
    | 1 => s.givePoint point .turnout reach (some account) rated frostRate c
    | _ => s.givePoint point .check reach none rated frostRate c
/-- POINT_SET (R8 to R11). -/
def execPointSet (point kind reach account rated frostRate mantissa shift : Nat) (s : State) :
    Host.Outcome State Fault Refusal :=
  s.takeRequest (.pointSet point kind reach account rated frostRate mantissa shift)
    (reqPointSet point kind reach account rated frostRate mantissa shift)

/-! ### POINT_QUERY (R12) -/

/-- A scheduled order, or its absence. -/
def Scheduled.bytes : Option Scheduled → List Byte
  | none => opt16 none ++ opt16 none
  | some o => be16 o.handle ++ be16 o.flow
/-- A frost backup, or its absence. -/
def Backup.bytes : Option Backup → List Byte
  | none => opt16 none ++ opt16 none
  | some b => opt16 b.order ++ be16 b.flow

/-- The whole point record (R12). -/
def Point.bytes (p : Point) : List Byte :=
  be8 (PointKind.code (some p.kind)) ++ be8 p.reach ++ opt16 p.account ++ be16 p.rated ++
    be16 p.frostRate ++ be8 p.mode.code ++ be8 (switchCode p.switch) ++ yesNo p.latch ++
    be16 p.target ++ Scheduled.bytes p.scheduled ++ yesNo p.backup.isSome ++ Backup.bytes p.backup ++
    yesNo p.closeOwed ++ yesNo p.overload ++ be8 p.position ++ yesNo p.gateFault ++ p.active.bytes ++
    Calibration.optBytes p.staged ++ be16 p.field.acknowledged ++ opt16 p.field.inFlight ++
    opt16 p.field.declined ++ yesNo p.field.sendPending ++ yesNo p.field.resendOwed ++
    yesNo p.field.unconfirmed ++ be8 p.meter.state.code ++ be32 p.meter.seasonMetered ++
    be32 p.meter.seasonEstimated
/-- POINT_QUERY at Release Control (R12). -/
def reqPointQuery (point : Nat) (s : State) : State × Reply :=
  if Config.points ≤ point then (s, refusal .badParam)
  else
    match s.point? point with
    | none => (s, answer .done (be8 (PointKind.code none)))
    | some p => (s, answer .done p.bytes)
/-- POINT_QUERY (R12). -/
def execPointQuery (point : Nat) (s : State) : Host.Outcome State Fault Refusal :=
  s.takeRequest (.pointQuery point) (reqPointQuery point)

/-! ### District settings (R20) -/

/-- The largest listed bit rate not above a value, or 9,600 below them all (R20). -/
def clampBitRate (b : Nat) : Nat :=
  if 57600 ≤ b then 57600 else if 38400 ≤ b then 38400 else if 19200 ≤ b then 19200 else 9600
/-- A value clamped to a range. -/
def clamp (lo hi n : Nat) : Nat := max lo (min hi n)

/-- The five settings as stored. -/
def State.settingsBytes (s : State) : List Byte :=
  be8 s.settings.lead ++ be16 s.cal.defaultSupply ++ be16 s.settings.bitRate ++
    be16 s.settings.timeout ++ be16 s.settings.pollInterval

/-- DISTRICT_SET (R20): each value is clamped. -/
def reqDistrictSet (lead supply bitRate timeout pollInterval : Nat) (s : State) : State × Reply :=
  let s1 : State :=
    { s with
      cal.defaultSupply := min 60000 supply
      settings :=
        { lead := min 96 lead, bitRate := clampBitRate bitRate, timeout := clamp 2 250 timeout,
          pollInterval := clamp 5 600 pollInterval } }
  (s1, answer .done s1.settingsBytes)
/-- DISTRICT_SET (R20). -/
def execDistrictSet (lead supply bitRate timeout pollInterval : Nat) (s : State) :
    Host.Outcome State Fault Refusal :=
  s.takeRequest (.districtSet lead supply bitRate timeout pollInterval)
    (reqDistrictSet lead supply bitRate timeout pollInterval)

/-- DISTRICT_QUERY (R20). -/
def reqDistrictQuery (s : State) : State × Reply := (s, answer .done s.settingsBytes)
/-- DISTRICT_QUERY (R20). -/
def execDistrictQuery (s : State) : Host.Outcome State Fault Refusal :=
  s.takeRequest .districtQuery reqDistrictQuery

end Sys2Proof.Machine
end

