-- ==== Sys2Proof/Machine/Control.lean ====
section
/-! DEFINITION. Release Control's requests and events: enabling and disabling, the local-hold latch,
frost calls, gate reports, applied setpoints and the boundary (chapter 5). -/

namespace Sys2Proof.Machine

/-! ### POINT_ENABLE, POINT_DISABLE, LOCAL_ACK (R97 to R99) -/

/-- The staged calibration, if any, becomes active (R98, effect 1). -/
def Point.applyStaged (p : Point) : Point :=
  match p.staged with
  | none => p
  | some c => p.activate c

/-- The target of a point as a response gives it. -/
def State.targetOf (s : State) (n : Nat) : Nat := ((s.point? n).map Point.target).getD 0
/-- The mode of a point as a response gives it. -/
def State.modeOf (s : State) (n : Nat) : Mode := ((s.point? n).map Point.mode).getD .disabled

/-- The effects of POINT_ENABLE (R98). -/
def State.enablePoint (n : Nat) (p : Point) (s : State) : State :=
  (s.setPoint n { p.applyStaged with closeOwed := false }).changeMode n .auto

/-- POINT_ENABLE at Release Control (R98). -/
def reqPointEnable (point : Nat) (s : State) : State × Reply :=
  if Config.points ≤ point then (s, refusal .badParam)
  else
    match s.point? point with
    | none => (s, refusal .noSuchPoint)
    | some p =>
      if p.mode ≠ .disabled ∨ p.switch ≠ .remote ∨ p.latch then (s, refusal .wrongState)
      else
        let s1 := s.enablePoint point p
        (s1.arbitrate, answer .done (be16 (s1.targetOf point)))
/-- POINT_ENABLE (R98). -/
def execPointEnable (point : Nat) (s : State) : Host.Outcome State Fault Refusal :=
  s.takeRequest (.pointEnable point) (reqPointEnable point)

/-- POINT_DISABLE with CLOSE (R99): target 0 L/s; a closing setpoint is owed unless the switch is
LOCAL. -/
def State.closePoint (n : Nat) (p : Point) (s : State) : State :=
  let owed := decide (p.mode = .auto) || (decide (p.mode = .disabled) && decide (p.switch = .remote))
  let s1 := s.setPoint n { p with target := 0, closeOwed := p.closeOwed || owed }
  let s2 := if p.mode = .disabled then s1 else s1.changeMode n .disabled
  if owed then s2.resend n else s2
/-- POINT_DISABLE with LEAVE (R99). -/
def State.leavePoint (n : Nat) (p : Point) (s : State) : State :=
  if p.mode = .disabled then s else s.changeMode n .disabled

/-- POINT_DISABLE at Release Control (R99): action 0 CLOSE, 1 LEAVE. -/
def reqPointDisable (point action : Nat) (s : State) : State × Reply :=
  if Config.points ≤ point ∨ 1 < action then (s, refusal .badParam)
  else
    match s.point? point with
    | none => (s, refusal .noSuchPoint)
    | some p =>
      let s1 := if action = 0 then s.closePoint point p else s.leavePoint point p
      (s1.arbitrate, answer .done (be8 (s1.modeOf point).code ++ be16 (s1.targetOf point)))
/-- POINT_DISABLE (R99). -/
def execPointDisable (point action : Nat) (s : State) : Host.Outcome State Fault Refusal :=
  s.takeRequest (.pointDisable point action) (reqPointDisable point action)

/-- LOCAL_ACK at Release Control (R97). -/
def reqLocalAck (point : Nat) (s : State) : State × Reply :=
  if Config.points ≤ point then (s, refusal .badParam)
  else
    match s.point? point with
    | none => (s, refusal .noSuchPoint)
    | some p =>
      if p.switch = .manual then (s, refusal .wrongState)
      else (s.setPoint point { p with latch := false }, answer .done (be8 p.mode.code))
/-- LOCAL_ACK (R97). -/
def execLocalAck (point : Nat) (s : State) : Host.Outcome State Fault Refusal :=
  s.takeRequest (.localAck point) (reqLocalAck point)

/-! ### FROST_CALL, FROST_END (R102, R103) -/

/-- A scope outside the two, or a reach number above 31 (R102). -/
def badFrostScope (scope reach : Nat) : Bool :=
  decide (1 < scope) || (decide (scope = 1) && decide (Config.reaches ≤ reach))
/-- The TURNOUT points in scope, ascending (R102). -/
def State.frostScope (scope reach : Nat) (s : State) : List (Nat × Point) :=
  s.points.filter
    (fun e => decide (e.2.kind = .turnout) &&
      (decide (scope = 0) || inSubtree s.cal.reaches reach e.2.reach))

/-- A point may enter frost (R102). -/
def Point.eligible (p : Point) : Bool := decide (p.mode = .auto) && p.backup.isNone
/-- A turnout enters frost (R102). -/
def State.enterFrost (s : State) (e : Nat × Point) : State :=
  let saved : Backup := { order := e.2.scheduled.map Scheduled.handle, flow := e.2.scheduledFlow }
  (s.changePoint e.1 (fun p => { p with backup := some saved })).retarget e.1
/-- A turnout leaves frost (R103). -/
def State.leaveFrost (s : State) (e : Nat × Point) : State :=
  let s1 := s.changePoint e.1 (fun p => { p with backup := none })
  if e.2.mode = .auto then s1.retarget e.1 else s1

/-- FROST_CALL at Release Control (R102): scope 0 DISTRICT, 1 REACH. -/
def reqFrostCall (scope reach : Nat) (s : State) : State × Reply :=
  if badFrostScope scope reach then (s, refusal .badParam)
  else if scope = 1 ∧ (s.reach? reach).isNone then (s, refusal .noSuchReach)
  else
    let registered := (s.frostScope scope reach).filter (fun e => decide (0 < e.2.frostRate))
    let entering := registered.filter (fun e => e.2.eligible)
    let s1 := (entering.foldl State.enterFrost s).refreshFrost s.configured
    (s1.arbitrate,
      answer .done (be16 entering.length ++ be16 (registered.length - entering.length)))
/-- FROST_CALL (R102). -/
def execFrostCall (scope reach : Nat) (s : State) : Host.Outcome State Fault Refusal :=
  s.takeRequest (.frostCall scope reach) (reqFrostCall scope reach)

/-- FROST_END at Release Control (R103). -/
def reqFrostEnd (scope reach : Nat) (s : State) : State × Reply :=
  if badFrostScope scope reach then (s, refusal .badParam)
  else if scope = 1 ∧ (s.reach? reach).isNone then (s, refusal .noSuchReach)
  else
    let leaving := (s.frostScope scope reach).filter (fun e => e.2.backup.isSome)
    let s1 := (leaving.foldl State.leaveFrost s).refreshFrost s.configured
    (s1.arbitrate, answer .done (be16 leaving.length))
/-- FROST_END (R103). -/
def execFrostEnd (scope reach : Nat) (s : State) : Host.Outcome State Fault Refusal :=
  s.takeRequest (.frostEnd scope reach) (reqFrostEnd scope reach)

/-! ### GATE_REPORT (R95, R96, R100) -/

/-- Release Control takes a channel's switch, gate position and gate fault (R100). -/
def State.takeGate (g : GateNews) (s : State) : State :=
  match s.point? g.point with
  | none => s
  | some p =>
    let s1 := match g.switch with
      | .manual => s.switchLocal g.point
      | .remote => s.switchRemote g.point
    let s2 := s1.changePoint g.point
      (fun q => { q with position := min 100 g.position, gateFault := g.fault })
    if g.fault && !p.gateFault then s2.report .gateFault (.number g.point) else s2

/-- GATE_REPORT (R100): Release Control takes an outstanding delivery. -/
def execGateReport (point : Nat) (switch : Switch) (position : Nat) (fault : Bool) (s : State) :
    Host.Outcome State Fault Refusal :=
  let g : GateNews := { point := point, switch := switch, position := position, fault := fault }
  match takeOne g s.mail.gates with
  | none => .next s
  | some rest => .next (({ s with mail.gates := rest } : State).takeGate g).arbitrate

/-! ### APPLIED_SETPOINT_REPORT (R91, R114) -/

/-- APPLIED_SETPOINT_REPORT (R91, R114): an applied setpoint of 0 L/s clears close owed. -/
def execAppliedSetpointReport (point applied : Nat) (s : State) : Host.Outcome State Fault Refusal :=
  match takeOne { point := point, flow := applied } s.mail.applied with
  | none => .next s
  | some rest =>
    let s1 : State := { s with mail.applied := rest }
    .next (if applied = 0 then (s1.clearCloseOwed point).arbitrate else s1)

/-! ### RELEASE_CONTROL_BOUNDARY (R93) -/

/-- RELEASE_CONTROL_BOUNDARY (R93): every check target is recomputed for the calendar's current slot. -/
def execReleaseControlBoundary (s : State) : Host.Outcome State Fault Refusal :=
  match s.mail.release with
  | [] => .next s
  | _ :: rest => .next (({ s with mail.release := rest } : State).recheckAll).arbitrate

end Sys2Proof.Machine
end

