-- ==== Sys2Proof/Machine/FieldLine.lean ====
section
/-! DEFINITION. The Field Line Controller: frames, attempts and replies, the field mode, the poll timers,
the station query and the warm reset of the line (chapter 6). -/

namespace Sys2Proof.Machine

/-! ### Frames (R119) -/

/-- One bit of the CRC with polynomial x^16 + x^12 + x^5 + 1. -/
def crcShift (r : BitVec 16) : BitVec 16 :=
  if r.msb then (r <<< 1) ^^^ 0x1021#16 else r <<< 1
/-- The CRC register after n more bits. -/
def crcBits : Nat → BitVec 16 → BitVec 16
  | 0, r => r
  | n + 1, r => crcBits n (crcShift r)
/-- The CRC register after one byte, most significant bit first. -/
def crcByte (r : BitVec 16) (b : Byte) : BitVec 16 := crcBits 8 (r ^^^ (b.setWidth 16 <<< 8))
/-- The CRC of a frame's address, kind and payload (R119). -/
def crc (bs : List Byte) : BitVec 16 := bs.foldl crcByte 0xFFFF#16
/-- A frame with its CRC, high byte first (R119). -/
def framed (bs : List Byte) : List Byte := bs ++ be16 (crc bs).toNat
/-- A received frame's CRC is correct (R119). -/
def crcCorrect (frame : List Byte) : Bool := decide (framed (frame.take (frame.length - 2)) = frame)

/-- The kinds of a reply, by kind byte, with the length of the frame (R119). -/
def replyLength (kind : Byte) : Option Nat :=
  if kind = 0x90#8 then some 44
  else if kind = 0xA1#8 then some 7
  else if kind = 0xA2#8 then some 5
  else none

/-- The station a transaction addresses. -/
def Job.station : Job → Nat
  | .set p _ _ => stationOf p
  | .poll a => a
/-- The out frame of a transaction (R114, R119). -/
def Job.frame : Job → List Byte
  | .poll a => framed (be8 a ++ [0x10#8])
  | .set p v _ => framed (be8 (stationOf p) ++ [0x21#8] ++ be8 (channelOf p) ++ be16 v)

/-- The frame the part is sending, if any (R117). -/
def State.outFrame (s : State) : Option (List Byte) :=
  match s.line.transaction with
  | some t => if t.phase = .sending then some t.job.frame else none
  | none => none
/-- One bit time on the field line (R119). -/
inductive LineBit
  | start | data (level : Bool) | stop
  deriving DecidableEq, Repr
/-- A byte on the field line: a start bit, eight data bits least significant first, a stop bit (R119). -/
def lineByte (b : Byte) : List LineBit :=
  .start :: (List.range 8).map (fun k => .data (b.getLsbD k)) ++ [.stop]
/-- Bytes on the field line, one after another (R119). -/
def lineBits (bs : List Byte) : List LineBit := bs.flatMap lineByte
/-- The bytes that a row of bit times carries, if each ten of them are a byte's (R119). -/
def lineRead : List LineBit → Option (List Byte)
  | [] => some []
  | .start :: .data b0 :: .data b1 :: .data b2 :: .data b3 :: .data b4 :: .data b5 :: .data b6 ::
      .data b7 :: .stop :: rest =>
    (lineRead rest).map ((BitVec.ofBoolListLE [b0, b1, b2, b3, b4, b5, b6, b7]) :: ·)
  | _ => none
/-- The bits of the frame that the part is sending on FTX, first to last; none while it sends no frame
(R117, R119). -/
def State.transmitted (s : State) : List LineBit := lineBits (s.outFrame.getD [])
/-- The driver enable output FDE (section 11.6): asserted while the part sends a frame. -/
def State.driverEnabled (s : State) : Bool := s.outFrame.isSome
/-- An attempt's deadline (R117): milliseconds after the out frame's last byte, and the bit times, at
the attempt's bit rate, by which a reply's first byte moves it later. -/
def Transaction.deadline (t : Transaction) : Nat × Nat :=
  match t.phase with
  | .receiving n | .failed n => (t.timeout, 10 * n)
  | .sending | .waiting => (t.timeout, 0)

/-! ### What a transaction's end does to the station (R107, R108) -/

/-- A valid reply (R107). -/
def Station.answered (now : Nat) (v : Station) : Station :=
  { v with state := .responding, failures := 0, lastReply := some now, silentSince := none,
           interval := 0 }
/-- A failed transaction on a RESPONDING station; at the third it becomes SILENT (R107). -/
def Station.failedOnce (slot : Nat) (v : Station) : Station :=
  if v.failures + 1 < 3 then { v with failures := v.failures + 1 }
  else { v with failures := 3, state := .silent, silentSince := some slot }
/-- A transaction with the station ended with a valid reply. -/
def State.stationAnswered (a : Nat) (s : State) : State :=
  s.setStation a ((s.station a).answered s.cal.clock)
/-- A transaction with the station failed (R107). -/
def State.stationFailed (a : Nat) (s : State) : State :=
  let v := s.station a
  if v.state = .silent then s
  else
    let w := v.failedOnce s.cal.slot
    let s1 := s.setStation a w
    if w.state = .silent then s1.report .stationSilent (.number a) else s1

/-! ### How a SET ends (R114, R115) -/

/-- The line has no transaction. -/
def State.lineIdle (s : State) : State := { s with line.transaction := none }

/-- A SET_ACK ends a SET of value v (R114). The point is re-evaluated in this event, before Release Control
takes the applied setpoint (log entry 40). -/
def State.setAcknowledged (n v applied : Nat) (s : State) : State :=
  let agreed := decide (applied = v)
  let s1 := s.changePoint n (fun p =>
    { p with
      field.acknowledged := applied
      field.unconfirmed := !agreed
      field.declined := if agreed then none else some v
      field.inFlight := none })
  let s2 := if agreed then s1 else s1.report .setpointUnconfirmed (.number n)
  ({ s2 with
      mail.applied := s2.mail.applied ++ [{ point := n, flow := applied }] } : State).reevaluate n
/-- A SET_LOCAL ends a SET (R115): resend owed, and a report that the switch is LOCAL (R95). A point that is
not sendable then keeps its resend owed (log entry 35). -/
def State.setRefused (n : Nat) (s : State) : State :=
  (s.changePoint n
    (fun p => { p with field.inFlight := none, field.resendOwed := true })).switchLocal n
/-- A SET ends with no reply: the in-flight setpoint is absent, and a sendable point owes a resend
(R115, R118). -/
def State.setLost (n : Nat) (s : State) : State :=
  (s.changePoint n (fun p =>
    { p with
      field.inFlight := none
      field.resendOwed := p.field.resendOwed || p.sendable })).reevaluate n
/-- A SET whose three attempts failed (R115). -/
def State.setFailed (n : Nat) (s : State) : State :=
  ((s.changePoint n (fun p => { p with field.unconfirmed := true })).report .setpointUnconfirmed
    (.number n)).setLost n

/-- The transaction ends, its last attempt failed: cut short when the last attempt mark is set, failed
otherwise (R115, R117, R118). For a point that was removed nothing is reported (log entry 43). -/
def State.endUnanswered (t : Transaction) (s : State) : State :=
  let s1 := s.lineIdle
  match t.job with
  | .poll a => s1.stationFailed a
  | .set n _ removed =>
    if t.lastAttempt then (if removed then s1 else s1.setLost n)
    else
      let s2 := s1.stationFailed (stationOf n)
      if removed then s2 else s2.setFailed n

/-! ### Attempts (R117) -/

/-- No attempt follows this one (R117, R118). -/
def Transaction.final (t : Transaction) : Bool := t.lastAttempt || decide (t.attempt = 3)

/-- The next attempt begins, with the bit rate and timeout that stand (R20, R117). -/
def State.nextAttempt (t : Transaction) (s : State) : State :=
  { s with
    line.transaction := some
      { t with attempt := t.attempt + 1, phase := .sending, bitRate := s.settings.bitRate,
               timeout := s.settings.timeout } }

/-- A bad reply or an unknown kind byte fails the attempt (R117). Whether a transaction whose final
attempt fails so ends at once or at the deadline is left open (log entry 9). `length` is the reply's, by
which the deadline has moved; 0 for an unknown kind byte. -/
def State.badReply (t : Transaction) (length : Nat) (s : State) : State :=
  let s1 := s.report .frameError (.number t.job.station)
  if t.final && Config.finalFailureEndsAtOnce then s1.endUnanswered t
  else { s1 with line.transaction := some { t with phase := .failed length } }

/-- OUT_FRAME_SENT (R117): the out frame's last stop bit has been sent; the attempt awaits a reply. -/
def execOutFrameSent (s : State) : Host.Outcome State Fault Refusal :=
  match s.line.transaction with
  | none => .next s
  | some t =>
    if t.phase = .sending then .next { s with line.transaction := some { t with phase := .waiting } }
    else .next s

/-- REPLY_KIND_BYTE (R117): a reply's kind byte fixes its length; an unknown one fails the attempt. -/
def execReplyKindByte (_address kind : Byte) (s : State) : Host.Outcome State Fault Refusal :=
  match s.line.transaction with
  | none => .next s
  | some t =>
    if t.phase = .waiting then
      match replyLength kind with
      | some n => .next { s with line.transaction := some { t with phase := .receiving n } }
      | none => .next (s.badReply t 0).arbitrate
    else .next s

/-- ATTEMPT_DEADLINE (R117): the attempt has failed; the next begins or the transaction ends. -/
def execAttemptDeadline (s : State) : Host.Outcome State Fault Refusal :=
  match s.line.transaction with
  | none => .next s
  | some t =>
    if t.phase = .sending then .next s
    else if t.final then .next (s.endUnanswered t).arbitrate
    else .next (s.nextAttempt t)

/-! ### Replies (R114, R117, R119, R120) -/

/-- A byte of a frame. -/
def byteAt (frame : List Byte) (k : Nat) : Byte := frame.getD k 0#8

/-- A complete reply passes every test of R117. -/
def Job.accepts (j : Job) (frame : List Byte) : Bool :=
  crcCorrect frame && decide ((byteAt frame 0).toNat = j.station) &&
    (match j with
      | .poll _ => decide (byteAt frame 1 = 0x90#8)
      | .set p _ _ =>
        (decide (byteAt frame 1 = 0xA1#8) || decide (byteAt frame 1 = 0xA2#8)) &&
          decide ((byteAt frame 2).toNat = channelOf p))

/-- The reading of a channel in a POLL_REPLY (R119). -/
def channelTotalizer (frame : List Byte) (c : Nat) : Nat := number ((frame.drop (2 + 5 * c)).take 3)
/-- The flags of a channel in a POLL_REPLY (R119). -/
def channelFlags (frame : List Byte) (c : Nat) : Byte := byteAt frame (6 + 5 * c)

/-- Deliver one channel entry of a POLL_REPLY to the point it serves (R120). -/
def deliverChannel (a : Nat) (frame : List Byte) (s : State) (c : Nat) : State :=
  let n := a * Config.channels + c
  let flags := channelFlags frame c
  match s.point? n with
  | none => s
  | some _ =>
    { s with
      mail.gates := s.mail.gates ++
        [{ point := n, switch := if flags.getLsbD 0 then .manual else .remote,
           position := (byteAt frame (5 + 5 * c)).toNat, fault := flags.getLsbD 2 }]
      mail.readings := s.mail.readings ++
        [{ point := n, totalizer := channelTotalizer frame c, fault := flags.getLsbD 1 }] }

/-- A transaction ends with a valid reply (R107, R114, R115, R120), a SET given no further attempt too: its
station is RESPONDING as for any valid reply (R107 against R118, log entry 45). -/
def State.endAnswered (t : Transaction) (frame : List Byte) (s : State) : State :=
  let s1 := s.lineIdle.stationAnswered t.job.station
  match t.job with
  | .poll a => (List.range Config.channels).foldl (deliverChannel a frame) s1
  | .set n v removed =>
    if removed then s1
    else if byteAt frame 1 = 0xA1#8 then
      s1.setAcknowledged n v (number ((frame.drop 3).take 2))
    else s1.setRefused n

/-- No attempt awaits a reply (R117, R118): its frame is going out, or it has failed. -/
def Phase.deaf : Phase → Bool
  | .sending | .failed _ => true
  | .waiting | .receiving _ => false

/-- FIELD_REPLY (R117, R119, R120): a reply whose kind byte fixes its length has arrived, the bytes that
lineRead reads of FRX; it is taken only while an attempt awaits a reply (R118). -/
def execFieldReply (frame : List Byte) (s : State) : Host.Outcome State Fault Refusal :=
  match s.line.transaction with
  | none => .next s
  | some t =>
    if t.phase.deaf ∨ frame.length < 2 then .next s
    else
      match replyLength (byteAt frame 1) with
      | none => if t.phase = .waiting then .next (s.badReply t 0).arbitrate else .next s
      | some n =>
        if frame.length < n ∨ (t.phase ≠ .waiting ∧ t.phase ≠ .receiving n) then .next s
        else if t.job.accepts (frame.take n) then .next (s.endAnswered t (frame.take n)).arbitrate
        else .next (s.badReply t n).arbitrate

/-! ### Poll timers (R108) -/

/-- A polled station's timer reaches the poll interval (R108). -/
def Station.elapsed (v : Station) : Station :=
  match v.state with
  | .responding => { v with due := true }
  | .silent =>
    if v.interval + 1 < 16 then { v with interval := v.interval + 1 }
    else { v with interval := 0, due := true }

/-- POLL_INTERVAL_ELAPSED (R108). -/
def execPollIntervalElapsed (station : Nat) (s : State) : Host.Outcome State Fault Refusal :=
  if (s.station station).polled then
    .next (s.setStation station (s.station station).elapsed).arbitrate
  else .next s

/-! ### The field mode (R109 to R111, R118) -/

def State.setMode (m : FieldMode) (s : State) : State := { s with line.mode := m }

/-- A SET in flight is given no further attempt (R118). -/
def State.cutShort (s : State) : State :=
  match s.line.transaction with
  | some t =>
    match t.job with
    | .set _ _ _ => { s with line.transaction := some { t with lastAttempt := true } }
    | .poll _ => s
  | none => s

/-- A POLL in flight is abandoned: its station becomes due again (R118). -/
def State.abandonPoll (s : State) : State :=
  match s.line.transaction with
  | some t =>
    match t.job with
    | .poll a => s.lineIdle.setStation a { s.station a with due := true }
    | .set _ _ _ => s
  | none => s

/-- FIELD_START at the Field Line Controller (R110). -/
def reqFieldStart (s : State) : State × Reply :=
  match s.line.mode with
  | .stopped =>
    let m : FieldMode := if s.faults.stop.first.isSome then .hold else .run
    ((s.setMode m).arbitrate, answer .done (be8 m.code))
  | .run | .hold => (s, refusal .wrongState)
/-- FIELD_START (R110). -/
def execFieldStart (s : State) : Host.Outcome State Fault Refusal :=
  s.takeRequest .fieldStart reqFieldStart

/-- FIELD_STOP at the Field Line Controller (R110). -/
def reqFieldStop (s : State) : State × Reply :=
  let d := be8 FieldMode.stopped.code ++ yesNo s.line.transaction.isSome
  match s.line.mode with
  | .stopped => (s, answer .done d)
  | .run | .hold => ((s.setMode .stopped).cutShort.abandonPoll, answer .done d)
/-- FIELD_STOP (R110). -/
def execFieldStop (s : State) : Host.Outcome State Fault Refusal :=
  s.takeRequest .fieldStop reqFieldStop

/-- RESUME at the Field Line Controller (R111). -/
def reqResume (s : State) : State × Reply :=
  match s.line.mode with
  | .hold =>
    if s.faults.stop.first.isSome then (s, refusal .wrongState)
    else ((s.setMode .run).arbitrate, doneReply)
  | .run | .stopped => (s, refusal .wrongState)
/-- RESUME (R111). -/
def execResume (s : State) : Host.Outcome State Fault Refusal := s.takeRequest .resume reqResume

/-- The Field Line Controller takes a hold request (R111). -/
def State.holdLine (s : State) : State :=
  match s.line.mode with
  | .run => (s.setMode .hold).cutShort.arbitrate
  | .hold | .stopped => s
/-- HOLD_REQUEST (R111, R188): an outstanding hold request is taken. -/
def execHoldRequest (s : State) : Host.Outcome State Fault Refusal :=
  match s.mail.holds with
  | 0 => .next s
  | n + 1 => .next ({ s with mail.holds := n } : State).holdLine

/-! ### STATION_QUERY (R121) -/

/-- One channel's flags, acknowledged and in-flight setpoint (R121). -/
def channelBytes : Option Point → List Byte
  | none => be8 1 ++ opt16 none ++ opt16 none
  | some p =>
    be8 (statusBit p.field.sendPending 1 + statusBit p.field.resendOwed 2 +
        statusBit p.field.unconfirmed 3) ++
      be16 p.field.acknowledged ++ opt16 p.field.inFlight
/-- A station's own fields (R121). -/
def Station.bytes (now : Nat) (v : Station) : List Byte :=
  yesNo v.polled ++ be8 v.state.code ++ be8 v.failures ++ yesNo v.due ++ optMinute v.lastReply ++
    optMinute (v.lastReply.map (elapsedSince now)) ++ opt32 v.silentSince ++ be8 v.interval
/-- STATION_QUERY at the Field Line Controller (R121). -/
def reqStationQuery (station : Nat) (s : State) : State × Reply :=
  if Config.stations ≤ station then (s, refusal .badParam)
  else
    (s, answer .done
      (be8 s.line.mode.code ++ (s.station station).bytes s.cal.clock ++
        (List.range Config.channels).flatMap
          (fun c => channelBytes (s.point? (station * Config.channels + c)))))
/-- STATION_QUERY (R121). -/
def execStationQuery (station : Nat) (s : State) : Host.Outcome State Fault Refusal :=
  s.takeRequest (.stationQuery station) (reqStationQuery station)

/-! ### The warm reset of the line (R122) -/

/-- The transaction in flight is abandoned (R118, R122). -/
def State.abandon (s : State) : State :=
  match s.line.transaction with
  | none => s
  | some t =>
    match t.job with
    | .poll a => s.lineIdle.setStation a { s.station a with due := true }
    | .set n _ removed =>
      if removed then s.lineIdle
      else
        s.lineIdle.changePoint n (fun p =>
          { p with
            field.inFlight := none
            field.resendOwed := p.field.resendOwed || p.sendable })
/-- A polled station at a warm reset (R122). -/
def Station.restarted (v : Station) : Station := if v.polled then v.enter else v
/-- Re-evaluate every sendable point (R122). -/
def State.reevaluateAll (s : State) : State :=
  (s.points.filter (fun e => e.2.sendable)).foldl (fun s e => s.reevaluate e.1) s
/-- The warm reset at the Field Line Controller (R122). -/
def State.resetLine (s : State) : State :=
  let s1 := s.abandon
  ({ s1 with
      line.mode := .stopped
      line.stations := s1.line.stations.map (fun e => (e.1, e.2.restarted)) } : State).reevaluateAll

end Sys2Proof.Machine
end

