-- ==== Sys2Proof/Machine/Metering.lean ====
section
/-! DEFINITION. The Meter Accounting Unit: readings, estimates, attribution and posting, and the meter
requests (chapter 7). -/

namespace Sys2Proof.Machine

/-! ### Posting (section 7.6) -/

/-- The place of a posting: an order, by its entry, with the tail flag; or a bucket of an account. -/
inductive Place
  | order (entry : Nat) (tail : Bool)
  | unordered
  | frost
  deriving DecidableEq, Repr

/-- The bucket of a place. -/
def Place.bucket : Place → Bucket
  | .order _ _ => .ordered
  | .unordered => .unordered
  | .frost => .frost

/-- The order after a posting to it (R67, R139, R142). -/
def Order.post (v : Nat) (estimated tail : Bool) (o : Order) : Order :=
  { o with
    delivered := saturate o.delivered v
    estimated := saturate o.estimated (if estimated then v else 0)
    tail := saturate o.tail (if tail then v else 0) }
/-- Some counter of the order cannot take a posting in full (R142). -/
def Order.saturates (v : Nat) (estimated tail : Bool) (o : Order) : Bool :=
  overflows o.delivered v || overflows o.estimated (if estimated then v else 0) ||
    overflows o.tail (if tail then v else 0)

/-- A posting at the Order Book (R139): the order's volumes, and the change in its share. -/
def State.postOrder (v : Nat) (estimated : Bool) (place : Place) (s : State) : State :=
  match place with
  | .order i tail =>
    match cell? s.obk.orders i with
    | none => s
    | some o => s.putOrder i (o.post v estimated tail)
  | .unordered | .frost => s
/-- A posting finds a counter of its order unable to take it (R142). -/
def State.orderSaturates (s : State) (v : Nat) (estimated : Bool) (place : Place) : Bool :=
  match place with
  | .order i tail => (cell? s.obk.orders i).any (fun o => o.saturates v estimated tail)
  | .unordered | .frost => false

/-- One posting of v litres for account n (R139 to R142, R152). `short` says that a counter of the point
could not take the increment in full; the posting then reports it (log entry 17). -/
def State.post (n v : Nat) (estimated : Bool) (place : Place) (short : Bool) (s : State) : State :=
  match s.account? n with
  | none => s
  | some a =>
    let t := s.tariff a.cls
    let full := short || s.orderSaturates v estimated place ||
      a.saturates t place.bucket v estimated
    let s1 := (s.postOrder v estimated place).reviseAccount n (Account.post t place.bucket v estimated)
    if full then s1.report .counterSaturated (.number n) else s1

/-- The postings of an increment: those of 0 L are not made, and the first made carries `short`. -/
def State.postAll (n : Nat) (estimated : Bool) : List (Nat × Place) → Bool → State → State
  | [], _, s => s
  | (v, place) :: rest, short, s =>
    if v = 0 then s.postAll n estimated rest short
    else (s.post n v estimated place short).postAll n estimated rest false

/-! ### Attribution (section 7.5) -/

/-- The order an increment's order share goes to: none, an order that is no longer live, or a live order
by its entry with the tail flag. -/
inductive ShareOf
  | absent
  | finished
  | live (entry : Nat) (tail : Bool)

/-- The place of the order share of a frost split (R136). -/
def ShareOf.place : ShareOf → Place
  | .absent => .unordered
  | .finished => .unordered
  | .live i tail => .order i tail

/-- The frost split (R136) of v litres with scheduled flow S and a frost rate: the order share is posted first
(log entry 37). -/
def frostSplit (v scheduled rate : Nat) (share : ShareOf) : List (Nat × Place) :=
  let t := max scheduled rate
  if t = 0 then [(v, .frost)]
  else [(v * scheduled / t, share.place), (v - v * scheduled / t, .frost)]

/-- The order of a frost backup (R136). -/
def OrderBook.backupShare (b : OrderBook) (k : Backup) : ShareOf :=
  match k.order with
  | none => .absent
  | some h =>
    match b.named? h with
    | none => .finished
    | some (i, o) => if o.live then .live i (o.state = .closing) else .finished

/-- The places of a measured increment (R135). -/
def State.measuredPlaces (s : State) (n : Nat) (p : Point) (v : Nat) : List (Nat × Place) :=
  match p.backup with
  | some k => frostSplit v k.flow p.frostRate (s.obk.backupShare k)
  | none =>
    match s.obk.dueOrder n with
    | some e => [(v, .order e.1 false)]
    | none =>
      match s.obk.closingOrder n with
      | some e => [(v, .order e.1 true)]
      | none => [(v, .unordered)]

/-- The slot order of a point for slot u (R137). -/
def OrderBook.slotOrder (b : OrderBook) (n u : Nat) : Option (Nat × Order) :=
  (b.pointChain n).find?
    (fun e => (e.2.due || decide (e.2.state = .closing)) && decide (e.2.start ≤ u) &&
      decide (u < e.2.endSlot) && decide (u < e.2.deliveryEnd))

/-- The order share of an estimate's split carries the tail flag (R136): its slot order is CLOSING, and not
only since the boundary after the slot, at which an order that was not cut ends (R138; log entry 10). -/
def Order.estimateTail (o : Order) : Bool := decide (o.state = .closing) && o.cut.isSome

/-- The places of an estimated increment for slot u (R137). -/
def State.estimatedPlaces (s : State) (n : Nat) (p : Point) (u v : Nat) : List (Nat × Place) :=
  match p.backup, s.obk.slotOrder n u with
  | some _, some e =>
    frostSplit v e.2.flow p.frostRate (.live e.1 e.2.estimateTail)
  | some _, none => frostSplit v 0 p.frostRate .absent
  | none, some e => [(v, .order e.1 false)]
  | none, none => [(v, .unordered)]

/-! ### Readings (section 7.2) -/

/-- The delta of a reading (R126). -/
def Meter.delta (m : Meter) (totalizer : Nat) : Nat :=
  (totalizer + Config.totalizerSpan - m.baseline) % Config.totalizerSpan
/-- The product of a reading (R126). -/
def Meter.product (m : Meter) (c : Calibration) (totalizer : Nat) : Nat :=
  m.delta totalizer * c.mantissa + m.residual
/-- The volume of a reading (R126). -/
def Meter.volume (m : Meter) (c : Calibration) (totalizer : Nat) : Nat :=
  m.product c totalizer / 2 ^ c.shift
/-- The plausibility limit (R127). -/
def plausibleLimit (rated now last : Nat) : Nat := rated * 75 * max 1 (elapsedSince now last)

/-- A baseline is taken (R125, R130). -/
def Meter.rebased (totalizer now : Nat) (m : Meter) : Meter :=
  { m with baseline := totalizer, residual := 0, suspects := 0, lastMinute := now, state := .normal }
/-- A reading is held (R128). -/
def Meter.held (m : Meter) : Meter :=
  { m with
    suspects := m.suspects + 1
    state := if m.suspects + 1 = 3 then .failed else .suspect }
/-- A reading is accepted (R129). -/
def Meter.accepted (c : Calibration) (totalizer now : Nat) (m : Meter) : Meter :=
  { m with
    baseline := totalizer
    residual := m.product c totalizer % 2 ^ c.shift
    lastMinute := now
    suspects := 0
    state := .normal
    seasonMetered := saturate m.seasonMetered (m.volume c totalizer) }

/-- A meter enters FAILED from another state (R124). -/
def State.failMeter (n : Nat) (p : Point) (s : State) : State :=
  if p.meter.state = .failed then s
  else (s.setPoint n { p with meter.state := .failed }).report .meterFailed (.number n)

/-- A reading of a NORMAL or SUSPECT meter (R126 to R129). -/
def State.convertReading (n : Nat) (p : Point) (totalizer : Nat) (s : State) : State :=
  let v := p.meter.volume p.active totalizer
  if plausibleLimit p.rated s.cal.clock p.meter.lastMinute < v then
    let s1 := (s.setPoint n { p with meter := p.meter.held }).report .meterImplausible (.number n)
    if p.meter.held.state = .failed then s1.report .meterFailed (.number n) else s1
  else
    let s1 := s.setPoint n { p with meter := p.meter.accepted p.active totalizer s.cal.clock }
    match p.account with
    | none => s1
    | some a =>
      s1.postAll a false (s1.measuredPlaces n p v) (overflows p.meter.seasonMetered v)

/-- The Meter Accounting Unit takes a reading (R125). -/
def State.takeReading (g : Reading) (s : State) : State :=
  match s.point? g.point with
  | none => s
  | some p =>
    match p.meter.state with
    | .meterless => s
    | .rebase | .failed =>
      if g.fault then s.failMeter g.point p
      else s.setPoint g.point { p with meter := p.meter.rebased g.totalizer s.cal.clock }
    | .normal | .suspect =>
      if g.fault then s.failMeter g.point p else s.convertReading g.point p g.totalizer

/-- METER_READING (R125): an outstanding delivery is taken. -/
def execMeterReading (point totalizer : Nat) (fault : Bool) (s : State) :
    Host.Outcome State Fault Refusal :=
  let g : Reading := { point := point, totalizer := totalizer, fault := fault }
  match takeOne g s.mail.readings with
  | none => .next s
  | some rest => .next (({ s with mail.readings := rest } : State).takeReading g)

/-! ### The boundary (R131, R134) -/

/-- The silence test for one point at the boundary that makes slot t current (R131). -/
def State.silentMeter (t n : Nat) (s : State) : State :=
  match s.point? n with
  | none => s
  | some p =>
    let v := s.station (stationOf n)
    if (p.meter.state = .normal ∨ p.meter.state = .suspect) ∧ v.state = .silent ∧
        v.silentSince.any (fun u => decide (u + 2 ≤ t)) then s.failMeter n p
    else s
/-- The silence test (R131): not made while the field mode is STOPPED. -/
def State.silenceTest (t : Nat) (s : State) : State :=
  if s.line.mode = .stopped then s
  else (s.points.map (fun e => e.1)).foldl (fun s n => s.silentMeter t n) s

/-- The estimate of one point for slot u (R134, R137). -/
def State.estimate (u n : Nat) (s : State) : State :=
  match s.turnout? n with
  | none => s
  | some p =>
    if p.meter.state = .meterless ∨ p.meter.state = .failed then
      let v := p.field.acknowledged * Config.slotLitres
      let s1 := s.setPoint n
        { p with meter.seasonEstimated := saturate p.meter.seasonEstimated v }
      match p.account with
      | none => s1
      | some a => s1.postAll a true (s1.estimatedPlaces n p u v) (overflows p.meter.seasonEstimated v)
    else s

/-- The Meter Accounting Unit takes the boundary that makes slot t current (R131, R134); points in ascending
number (log entry 36). -/
def State.meterBoundary (t : Nat) (s : State) : State :=
  let s1 := s.silenceTest t
  (s1.points.map (fun e => e.1)).foldl (fun s n => s.estimate (t - 1) n) s1

/-- METER_BOUNDARY (R131, R134): the oldest boundary presented is taken. -/
def execMeterBoundary (s : State) : Host.Outcome State Fault Refusal :=
  match s.mail.meter with
  | [] => .next s
  | t :: rest => .next (({ s with mail.meter := rest } : State).meterBoundary t)

/-! ### METER_REBASE, METER_QUERY (R132, R133) -/

/-- METER_REBASE at the Meter Accounting Unit (R132). -/
def reqMeterRebase (point : Nat) (s : State) : State × Reply :=
  if Config.points ≤ point then (s, refusal .badParam)
  else
    match s.point? point with
    | none => (s, refusal .noSuchPoint)
    | some p =>
      if p.meter.state = .meterless then (s, refusal .wrongState)
      else
        (s.setPoint point
            { p with meter := { p.meter with state := .rebase, residual := 0, suspects := 0 } },
          answer .done (be8 p.meter.state.code))
/-- METER_REBASE (R132). -/
def execMeterRebase (point : Nat) (s : State) : Host.Outcome State Fault Refusal :=
  s.takeRequest (.meterRebase point) (reqMeterRebase point)

/-- The meter record with the calibrations (R133). -/
def Point.meterBytes (now : Nat) (p : Point) : List Byte :=
  be8 p.meter.state.code ++ be32 p.meter.baseline ++ be16 p.meter.residual ++ be32 p.meter.lastMinute ++
    be32 (elapsedSince now p.meter.lastMinute) ++ be8 p.meter.suspects ++
    be32 p.meter.seasonMetered ++ be32 p.meter.seasonEstimated ++ p.active.bytes ++
    Calibration.optBytes p.staged
/-- METER_QUERY at the Meter Accounting Unit (R133). -/
def reqMeterQuery (point : Nat) (s : State) : State × Reply :=
  if Config.points ≤ point then (s, refusal .badParam)
  else
    match s.point? point with
    | none => (s, answer .done (be8 (PointKind.code none)))
    | some p => (s, answer .done (p.meterBytes s.cal.clock))
/-- METER_QUERY (R133). -/
def execMeterQuery (point : Nat) (s : State) : Host.Outcome State Fault Refusal :=
  s.takeRequest (.meterQuery point) (reqMeterQuery point)

end Sys2Proof.Machine
end

