-- ==== Sys2Proof/Machine/Boundary.lean ====
section
/-! DEFINITION. The Order Book at a slot boundary, the scheduled order notice, the waiting list query
and the standing order requests (sections 3.8, 4.2, 4.3, 4.4, R89). -/

namespace Sys2Proof.Machine

/-! ### Steps 1 to 3 of the boundary (R61 to R64) -/

/-- Step 1 for one order (R62). The Bool says whether some account's reserved outstanding has fallen. -/
def closeOne (t : Nat) (acc : State × Bool) (e : Nat × Order) : State × Bool :=
  let o := e.2
  if o.state = .closing ∧ o.deliveryEnd + 1 ≤ t then
    ((acc.1.putOrder e.1 { o with state := .closed }).markOrder e.1,
      acc.2 || decide (0 < o.share))
  else acc
/-- Step 1 (R62). -/
def State.closeStep (t : Nat) (s : State) : State × Bool := s.obk.orders.foldl (closeOne t) (s, false)

/-- Step 2 for one order (R63). -/
def endOne (t : Nat) (s : State) (e : Nat × Order) : State :=
  let o := e.2
  if o.due ∧ o.endSlot = t then
    (s.putOrder e.1
      { o with state := .closing, closeReason := some .delivered, suspendReason := none }).markOrder e.1
  else s
/-- Step 2 (R63). -/
def State.endStep (t : Nat) (s : State) : State := s.obk.orders.foldl (endOne t) s

/-- Step 3 for one order (R64). -/
def startOne (t : Nat) (s : State) (e : Nat × Order) : State :=
  let o := e.2
  if o.state = .confirmed ∧ o.start = t then
    match s.point? o.point with
    | none => s
    | some p =>
      (s.putOrder e.1
        { o with state := (dueUnder p.mode).1, suspendReason := (dueUnder p.mode).2 }).markOrder e.1
  else s
/-- Step 3 (R64). -/
def State.startStep (t : Nat) (s : State) : State := s.obk.orders.foldl (startOne t) s

/-- The point's RUNNING or SUSPENDED order as Release Control is told of it (R61, R89). -/
def OrderBook.scheduledOf (b : OrderBook) (p : Nat) : Option Scheduled :=
  (b.dueOrder p).map (fun e => { handle := b.handle e.1, flow := e.2.flow })
/-- The points whose RUNNING or SUSPENDED order steps 2 and 3 change. -/
def changedPoints (t : Nat) (orders : Table Order) : List Nat :=
  orders.foldl
    (fun ps e =>
      if (e.2.due ∧ e.2.endSlot = t) ∨ (e.2.state = .confirmed ∧ e.2.start = t) then addTo ps e.2.point
      else ps) []
/-- One notice per point (R61). -/
def State.noticeStep (ps : List Nat) (s : State) : State :=
  ps.foldl (fun s p => s.notify p (s.obk.scheduledOf p)) s

/-! ### Step 4 (R77) -/

/-- Expire one entry of the waiting list that can no longer meet its head release (R77). -/
def State.expireEntry (h : Nat) (s : State) : State :=
  match s.obk.named? h with
  | none => s
  | some (i, o) =>
    if s.tooSoon o.start (lagOf s.cal.reaches (s.reachOf o)) then s.expireOrder i o else s
/-- Step 4 (R77). -/
def State.expiryStep (s : State) : State := s.obk.waiting.foldl (fun s h => s.expireEntry h) s

/-! ### Step 5 (R83, R84) -/

/-- A template's values as a firing asks for them (R83). -/
def Template.ask (x : Nat) (t : Template) : Ask :=
  { point := t.point, start := t.next, duration := t.duration, flow := t.flow, conflict := t.conflict,
    limit := 96, origin := .standing x }
/-- What a firing came to: its result, and the handle of the order it created. -/
def Placed.outcome : Placed → Result × Option Nat
  | .created r h => (r, some h)
  | .refused a => (a.result, none)
  | .searching w => (w.failure.result, none)
/-- A template after a firing (R84). -/
def Template.fired (r : Result) (h : Option Nat) (t : Template) : Template :=
  let refusals := if h.isSome then 0 else t.refusals + 1
  let remaining := t.remaining.map (fun n => n - 1)
  { t with
    refusals := refusals
    lastResult := some r
    lastOrder := h
    remaining := remaining
    next := t.next + Config.week
    state := if remaining = some 0 then .exhausted else if 3 ≤ refusals then .suspended else .active }
/-- The order a firing creates has its change mark set (R50). -/
def State.markHandle (h : Option Nat) (s : State) : State :=
  match h.bind s.obk.named? with
  | none => s
  | some e => s.markOrder e.1
/-- Fire one template (R83, R84). -/
def State.fire (x : Nat) (t : Template) (s : State) : State :=
  let r := s.placeFirst (t.ask x) 96
  let out := r.2.outcome
  let t1 := t.fired out.1 out.2
  let s1 := r.1.markHandle out.2
  let s2 : State := { s1 with obk.templates := setCell s1.obk.templates x t1 }
  if t1.state = .suspended then s2.report .standingSuspended (.number x) else s2
/-- A template fires at the boundary that makes slot t current (R83). -/
def Template.firesAt (t : Nat) (m : Template) : Bool :=
  decide (m.state = .active) && decide (m.next + m.duration = t + Config.horizon)
/-- Step 5 (R83). -/
def State.firingStep (t : Nat) (s : State) : State :=
  s.obk.templates.foldl (fun s e => if e.2.firesAt t then s.fire e.1 e.2 else s) s

/-! ### The whole boundary (R61, R78) -/

/-- The Order Book takes the boundary that makes slot t current (R61); step 6 by R78. -/
def State.bookBoundary (t : Nat) (s : State) : State :=
  let s0 : State := { s with obk.slot := t }
  let r1 := s0.closeStep t
  let changed := changedPoints t r1.1.obk.orders
  let s3 := (((r1.1.endStep t).startStep t).noticeStep changed)
  let s4 := s3.expiryStep
  let expired := decide (s4.obk.waiting.length < s3.obk.waiting.length)
  let s5 := s4.firingStep t
  if r1.2 || expired || s5.obk.owed then s5.startReexamination else s5

/-- ORDER_BOOK_BOUNDARY (R61 to R64, R77, R78, R83, R84): the Order Book takes the oldest boundary
presented to it. -/
def execOrderBookBoundary (s : State) : Host.Outcome State Fault Refusal :=
  match s.mail.orderBook with
  | [] => .next s
  | t :: rest => .next (({ s with mail.orderBook := rest } : State).bookBoundary t).arbitrate

/-! ### SCHEDULED_ORDER_NOTICE (R89, R104) -/

/-- Release Control takes a notice: the scheduled order and its flow, and in frost the backup, take
what it names (R89, R104); in AUTO the target follows (R92), and the frost extra loads (R101). -/
def State.takeNotice (n : Notice) (s : State) : State :=
  match s.turnout? n.point with
  | none => s
  | some p =>
    let saved : Backup :=
      { order := n.order.map Scheduled.handle, flow := (n.order.map Scheduled.flow).getD 0 }
    let s1 := s.setPoint n.point
      { p with scheduled := n.order, backup := p.backup.map (fun _ => saved) }
    let s2 := if p.mode = .auto then s1.retarget n.point else s1
    if p.backup.isSome then s2.refreshPath p.reach else s2

/-- SCHEDULED_ORDER_NOTICE (R89): the oldest notice for the point is taken. -/
def execScheduledOrderNotice (point : Nat) (s : State) : Host.Outcome State Fault Refusal :=
  match takeFirst (fun n : Notice => decide (n.point = point)) s.mail.notices with
  | none => .next s
  | some (n, rest) => .next (({ s with mail.notices := rest } : State).takeNotice n).arbitrate

/-! ### WAITLIST_QUERY (R79) -/

/-- One entry of the waiting list as WAITLIST_QUERY gives it (R79). -/
def OrderBook.entryBytes (b : OrderBook) (h : Nat) : List Byte :=
  match b.named? h with
  | none => []
  | some (_, o) => be16 h ++ be16 o.point ++ be32 o.start ++ be16 o.flow ++ be32 o.sequence

/-- WAITLIST_QUERY at the Order Book (R79). Its two numbers of entries are one byte each (log entry 44). -/
def reqWaitlistQuery (position : Nat) (s : State) : State × Reply :=
  if 95 < position then (s, refusal .badParam)
  else
    let shown := (s.obk.waiting.drop position).take 4
    (s, answer .done
      (be8 s.obk.waiting.length ++ be8 position ++ be8 shown.length ++
        shown.flatMap s.obk.entryBytes))
/-- WAITLIST_QUERY (R79). -/
def execWaitlistQuery (position : Nat) (s : State) : Host.Outcome State Fault Refusal :=
  s.takeRequest (.waitlistQuery position) (reqWaitlistQuery position)

/-! ### Standing orders (section 4.4) -/

/-- The first-occurrence rule (R81): the earliest start with the remainder `offset` at or after
t + 673 − d. -/
def firstOccurrence (t offset d : Nat) : Nat :=
  let lo := t + 673 - d
  lo + (offset + Config.week - lo % Config.week) % Config.week

/-- The parameter check of STANDING_SET (R82). -/
def State.standingBadParam (index point offset duration flow conflict : Nat) (count : Option Nat)
    (s : State) : Bool :=
  decide (Config.templates ≤ index ∨ Config.points ≤ point ∨ Config.week ≤ offset ∨ duration < 1 ∨
      192 < duration ∨ flow < 1 ∨ 2000 < flow) ||
    (OnConflict.ofCode? conflict).isNone || count.any (fun n => decide (n < 1 ∨ 250 < n)) ||
    (s.turnout? point).any (fun p => decide (p.rated < flow))

/-- STANDING_SET at the Order Book (R82). -/
def reqStandingSet (index point offset duration flow conflict : Nat) (count : Option Nat) (s : State) :
    State × Reply :=
  if s.standingBadParam index point offset duration flow conflict count then (s, refusal .badParam)
  else
    match s.turnout? point with
    | none => (s, refusal .noSuchPoint)
    | some p =>
      match s.openAccount? p with
      | none => (s, refusal .accountNotOpen)
      | some _ =>
        let next := firstOccurrence s.obk.slot offset duration
        let t : Template :=
          { state := .active, point := point, offset := offset, duration := duration, flow := flow,
            conflict := (OnConflict.ofCode? conflict).getD .refuse, remaining := count, next := next,
            refusals := 0, lastResult := none, lastOrder := none }
        ({ s with obk.templates := setCell s.obk.templates index t },
          answer .done (be32 next ++ be32 (next + duration - Config.horizon)))
/-- STANDING_SET (R82). -/
def execStandingSet (index point offset duration flow conflict : Nat) (count : Option Nat) (s : State) :
    Host.Outcome State Fault Refusal :=
  s.takeRequest (.standingSet index point offset duration flow conflict count)
    (reqStandingSet index point offset duration flow conflict count)

/-- STANDING_RESUME at the Order Book (R85). -/
def reqStandingResume (index : Nat) (s : State) : State × Reply :=
  if Config.templates ≤ index then (s, refusal .badParam)
  else
    match cell? s.obk.templates index with
    | none => (s, refusal .wrongState)
    | some t =>
      if t.state = .suspended then
        let next := firstOccurrence s.obk.slot t.offset t.duration
        ({ s with
            obk.templates := setCell s.obk.templates index
              { t with state := .active, refusals := 0, next := next } },
          answer .done (be32 next))
      else (s, refusal .wrongState)
/-- STANDING_RESUME (R85). -/
def execStandingResume (index : Nat) (s : State) : Host.Outcome State Fault Refusal :=
  s.takeRequest (.standingResume index) (reqStandingResume index)

/-- STANDING_CLEAR at the Order Book (R86). -/
def reqStandingClear (index : Nat) (s : State) : State × Reply :=
  if Config.templates ≤ index then (s, refusal .badParam)
  else ({ s with obk.templates := delCell s.obk.templates index }, doneReply)
/-- STANDING_CLEAR (R86). -/
def execStandingClear (index : Nat) (s : State) : Host.Outcome State Fault Refusal :=
  s.takeRequest (.standingClear index) (reqStandingClear index)

/-- A standing order record as STANDING_QUERY gives it; a VACANT one by its state alone (R86). -/
def Template.bytes : Option Template → List Byte
  | none => be8 (TemplateState.code none)
  | some t =>
    be8 (TemplateState.code (some t.state)) ++ be16 t.point ++ be16 t.offset ++ be8 t.duration ++
      be16 t.flow ++ be8 t.conflict.code ++ opt8 t.remaining ++ be32 t.next ++ be8 t.refusals ++
      opt8 (t.lastResult.map Result.code) ++ opt16 t.lastOrder

/-- STANDING_QUERY at the Order Book (R86). -/
def reqStandingQuery (index : Nat) (s : State) : State × Reply :=
  if Config.templates ≤ index then (s, refusal .badParam)
  else (s, answer .done (Template.bytes (cell? s.obk.templates index)))
/-- STANDING_QUERY (R86). -/
def execStandingQuery (index : Nat) (s : State) : Host.Outcome State Fault Refusal :=
  s.takeRequest (.standingQuery index) (reqStandingQuery index)

end Sys2Proof.Machine
end

