-- ==== Sys2Proof/Machine/Clock.lean ====
section
/-! DEFINITION. District time and the calendar's requests: the minute edge, CLOCK_SET, CLOCK_QUERY,
CAPACITY_QUERY and SUPPLY_SET (chapter 2). -/

namespace Sys2Proof.Machine

/-! ### MINUTE_EDGE (R21, R22) -/

/-- The calendar presents a boundary to the four blocks that react to it (R22). -/
def Mail.present (t : Nat) (m : Mail) : Mail :=
  { m with
    orderBook := m.orderBook ++ [t]
    release := m.release ++ [t]
    meter := m.meter ++ [t]
    sweep := m.sweep ++ [t] }

/-- A rising MINUTE edge (R21); a clock that becomes a multiple of 15 reaches a boundary (R22). -/
def State.minute (s : State) : State :=
  if Config.counterMax ≤ s.cal.clock then s
  else
    let c : Calendar := { s.cal with clock := s.cal.clock + 1 }
    if c.clock % Config.slotMinutes = 0 then
      { s with cal := c.advance, mail := s.mail.present c.slot }
    else { s with cal := c }

/-- MINUTE_EDGE (R21, R22). -/
def execMinuteEdge (s : State) : Host.Outcome State Fault Refusal :=
  .next (if s.alive then s.minute else s)

/-! ### CLOCK_SET, CLOCK_QUERY (R33, R34) -/

/-- A standing order at CLOCK_SET (R33, R87). -/
def Template.rebased (t : Nat) (m : Template) : Template :=
  if m.state = .active then { m with next := firstOccurrence t m.offset m.duration } else m
/-- A station at CLOCK_SET (R33). -/
def Station.rebased (t : Nat) (v : Station) : Station :=
  if v.state = .silent then { v with silentSince := some t } else v

/-- The effects of CLOCK_SET (R33). The Order Book's slot is the calendar's, so no boundary is outstanding to
it (R66; log entry 23). -/
def State.setClock (minute : Nat) (s : State) : State :=
  let c := s.cal.rebuild minute
  let s1 : State :=
    { s with
      cal := c
      obk.slot := c.slot
      obk.templates := s.obk.templates.map (fun e => (e.1, e.2.rebased c.slot))
      line.stations := s.line.stations.map (fun e => (e.1, e.2.rebased c.slot))
      mail.orderBook := [] }
  s1.recheckAll.arbitrate

/-- CLOCK_SET at the Slot Calendar (R33). -/
def reqClockSet (minute : Nat) (s : State) : State × Reply :=
  if s.sweeping then (s, refusal .busySweep)
  else if s.obk.anyLive then (s, refusal .inUse)
  else (s.setClock minute, answer .done (be32 minute ++ be32 (minute / Config.slotMinutes)))
/-- CLOCK_SET (R33). -/
def execClockSet (minute : Nat) (s : State) : Host.Outcome State Fault Refusal :=
  s.takeRequest (.clockSet minute) (reqClockSet minute)

/-- CLOCK_QUERY (R34). -/
def reqClockQuery (s : State) : State × Reply :=
  (s, answer .done
    (be32 s.cal.clock ++ be32 s.cal.slot ++ be8 (s.cal.clock % Config.slotMinutes) ++
      be16 s.cal.defaultSupply))
/-- CLOCK_QUERY (R34). -/
def execClockQuery (s : State) : Host.Outcome State Fault Refusal :=
  s.takeRequest .clockQuery reqClockQuery

/-! ### CAPACITY_QUERY (R35) -/

/-- The calendar's view of a reach in one slot (R35). -/
def Calendar.slotBytes (c : Calendar) (reach t : Nat) : List Byte :=
  be16 (c.committedIn reach t) ++ be16 (c.capacityIn reach t) ++ be16 (c.supplyIn t) ++
    be8 (c.headMark t).code

/-- A run of slots does not lie within the calendar's horizon (R35, R36). -/
def Calendar.outside (c : Calendar) (first count : Nat) : Bool :=
  decide (first < c.slot ∨ c.horizonEnd < first + count)

/-- CAPACITY_QUERY at the Slot Calendar (R35). -/
def reqCapacityQuery (reach first count : Nat) (s : State) : State × Reply :=
  if Config.reaches ≤ reach ∨ count < 1 ∨ 7 < count then (s, refusal .badParam)
  else if (s.reach? reach).isNone then (s, refusal .noSuchReach)
  else if s.cal.outside first count then (s, refusal .beyondHorizon)
  else
    (s, answer .done
      (be8 reach ++ be32 first ++ be8 count ++
        (List.range' first count).flatMap (s.cal.slotBytes reach)))
/-- CAPACITY_QUERY (R35). -/
def execCapacityQuery (reach first count : Nat) (s : State) : Host.Outcome State Fault Refusal :=
  s.takeRequest (.capacityQuery reach first count) (reqCapacityQuery reach first count)

/-! ### SUPPLY_SET (R36) -/

/-- The slot's head committed flow exceeds its head capacity. -/
def Calendar.headOver (c : Calendar) (t : Nat) : Bool :=
  decide (c.capacityIn 0 t < c.committedIn 0 t)
/-- Write a supply in every slot of a run. -/
def Calendar.writeSupply (ts : List Nat) (flow : Nat) (c : Calendar) : Calendar :=
  ts.foldl (fun c t => c.setSupply t flow) c
/-- Give every slot of a run the head mark that the comparison gives (R25, R36). -/
def Calendar.compareHeads (ts : List Nat) (c : Calendar) : Calendar :=
  ts.foldl
    (fun c t => c.setHeadMark t (if c.headOver t then .bumpPending else .unmarked)) c

/-- The effects of SUPPLY_SET (R36). -/
def State.writeSupplies (first count flow : Nat) (s : State) : State × Reply :=
  let ts := List.range' first count
  let c := (s.cal.writeSupply ts flow).compareHeads ts
  let overfull := (ts.filter c.headOver).length
  let raised := ts.any (fun t => decide (s.cal.capacityIn 0 t < c.capacityIn 0 t))
  let s1 : State := { s with cal := c }
  let w := Sweep.setUp .supplyBump (.run first count) (.run first count) none none first
  let s2 := if overfull = 0 then s1 else s1.startSweep w
  let s3 := if raised then s2.startReexamination.arbitrate else s2
  (s3, if overfull = 0 then answer .done (be16 count) else w.accepted (be16 count ++ be16 overfull))

/-- SUPPLY_SET at the Slot Calendar (R36). -/
def reqSupplySet (first count flow : Nat) (s : State) : State × Reply :=
  if count < 1 ∨ Config.horizon < count ∨ 60000 < flow then (s, refusal .badParam)
  else if s.cal.outside first count then (s, refusal .beyondHorizon)
  else if s.sweeping then (s, refusal .busySweep)
  else s.writeSupplies first count flow
/-- SUPPLY_SET (R36). -/
def execSupplySet (first count flow : Nat) (s : State) : Host.Outcome State Fault Refusal :=
  s.takeRequest (.supplySet first count flow) (reqSupplySet first count flow)

end Sys2Proof.Machine
end

