-- ==== Sys2Proof/Machine/Sweeps.lean ====
section
/-! DEFINITION. The Sweep Engine: CURTAIL and SEASON_OPEN, the steps of the four sweeps, the end, the
boundary and the abort (chapter 9). -/

namespace Sys2Proof.Machine

/-! ### The record while a sweep is in progress -/

/-- Change the status record. -/
def State.changeSweep (f : Sweep → Sweep) (s : State) : State :=
  { s with sweep.status := s.sweep.status.map f }
/-- Add to the counts of the sweep. -/
def State.tally (f : Counts → Counts) (s : State) : State :=
  s.changeSweep (fun w => { w with counts := f w.counts })
/-- The cursor moves (R166). -/
def State.moveCursor (c : Nat) (s : State) : State := s.changeSweep (fun w => { w with cursor := c })
/-- A step has freed capacity or allocation: the re-examination is owed to the sweep's end (R74). -/
def State.owe (s : State) : State := { s with obk.owed := true }

/-- One past the last account or slot of the scope (R170, R174, R177). -/
def Scope.limit : Scope → Nat
  | .district => Config.accounts
  | .cls _ => Config.accounts
  | .block b z => min Config.accounts (b + z)
  | .run f n => f + n
  | .nowhere => 0
/-- The cursor has passed the last account or slot of the scope (R167). -/
def Sweep.over (w : Sweep) : Bool := decide (w.actual.limit ≤ w.cursor)

/-- The sweep of a kind that is in progress with something left to visit. -/
def State.visiting? (k : SweepKind) (s : State) : Option Sweep :=
  match s.sweep.status with
  | none => none
  | some w => if w.kind = k ∧ w.state = .inProgress ∧ w.over = false then some w else none

/-- An account is in the scope of a sweep by its class (R170, R177). -/
def Scope.admits (sc : Scope) (a : Account) : Bool :=
  match sc with
  | .cls c => decide (a.cls = c)
  | .district | .block _ _ | .run _ _ | .nowhere => true

/-- A step changes the account: its mark is set and it is counted (R173, R177, R179). -/
def State.accountChanged (n : Nat) (s : State) : State :=
  match s.account? n with
  | none => s
  | some a =>
    (s.setAccount n { a with mark := true }).tally
      (fun c => { c with changed := countUp c.changed 1 })

/-! ### CURTAIL (R169) -/

/-- A size that is a power of two from 1 to 1,024. -/
def powerSize (z : Nat) : Bool := ((List.range 11).map (fun k => 2 ^ k)).contains z

/-- The actual scope of a CURTAIL (R169). -/
def resolveScope : Scope → Scope
  | .district => .district
  | .cls c => if c < Config.classes then .cls c else .nowhere
  | .block b z =>
    if powerSize z = false ∨ b % z ≠ 0 then .nowhere
    else if z = 1024 ∧ b = 0 then .district
    else .block b z
  | .run _ _ => .nowhere
  | .nowhere => .nowhere

/-- The first account a CURTAIL visits (R170). -/
def Scope.firstAccount : Scope → Nat
  | .block b _ => min Config.accounts b
  | .district | .cls _ | .run _ _ | .nowhere => 0

/-- The requested scope of a CURTAIL: 0 DISTRICT, 1 CLASS, 2 BLOCK. -/
def curtailScope (scope cls base size : Nat) : Scope :=
  match scope with
  | 0 => .district
  | 1 => .cls cls
  | _ => .block base size

/-- CURTAIL at the Sweep Engine (R169). -/
def reqCurtail (scope cls base size share drain : Nat) (s : State) : State × Reply :=
  match Drain.ofCode? drain with
  | none => (s, refusal .badParam)
  | some d =>
    if 2 < scope then (s, refusal .badParam)
    else if s.sweeping then (s, refusal .busySweep)
    else
      let asked := curtailScope scope cls base size
      let actual := resolveScope asked
      let q := min Config.fullShare share
      match actual with
      | .nowhere => (s, answer .done (asked.bytes ++ actual.bytes ++ be16 q))
      | _ =>
        let w := Sweep.setUp .curtail asked actual (some q) (some d) actual.firstAccount
        (s.startSweep w, w.accepted [])
/-- CURTAIL (R169). -/
def execCurtail (scope cls base size share drain : Nat) (s : State) :
    Host.Outcome State Fault Refusal :=
  s.takeRequest (.curtail scope cls base size share drain) (reqCurtail scope cls base size share drain)

/-! ### The step of a CURTAIL (R171 to R173) -/

/-- The room of an account (R171). -/
def Account.room (a : Account) : Nat := a.effective - a.used
/-- An account's reserved outstanding less its room: what must go; 0 when it lies within the room. -/
def State.excess (n : Nat) (s : State) : Nat :=
  match s.account? n with
  | none => 0
  | some a => a.reserved - a.room
/-- The order of an account nearest the end of its chain that a test admits. -/
def OrderBook.lastOf (b : OrderBook) (n : Nat) (p : Order → Bool) : Option (Nat × Order) :=
  (b.accountChain n).reverse.find? (fun e => p e.2)
/-- The fewest whole slots of a flow whose volume reaches v. -/
def slotsFor (flow v : Nat) : Nat :=
  (v + (flow * Config.slotLitres - 1)) / (flow * Config.slotLitres)

/-- Cancel or trim one CONFIRMED order for an excess (R171). -/
def State.trimOne (i : Nat) (o : Order) (excess : Nat) (s : State) : State :=
  let k := slotsFor o.flow excess
  if k < o.duration then
    (s.trimOrder i o k).tally (fun c => { c with shortened := countUp c.shortened 1 })
  else
    ((s.cancelOrder i o .curtailed).markOrder i).tally
      (fun c => { c with cancelled := countUp c.cancelled 1 })
/-- The trimming of an account (R171): the Bool says whether any order was changed. -/
def State.trimLoop (n : Nat) : Nat → State × Bool → State × Bool
  | 0, acc => acc
  | fuel + 1, acc =>
    if acc.1.excess n = 0 then acc
    else
      match acc.1.obk.lastOf n (fun o => decide (o.state = .confirmed)) with
      | none => acc
      | some (i, o) => State.trimLoop n fuel (acc.1.trimOne i o (acc.1.excess n), true)

/-- End one RUNNING or SUSPENDED order early (R172). -/
def State.drainOne (i : Nat) (o : Order) (s : State) : State :=
  ((s.cutOrder i o .curtailed).markOrder i).tally (fun c => { c with ended := countUp c.ended 1 })
/-- The drain of an account (R172). -/
def State.drainLoop (n : Nat) : Nat → State × Bool → State × Bool
  | 0, acc => acc
  | fuel + 1, acc =>
    if acc.1.excess n = 0 then acc
    else
      match acc.1.obk.lastOf n Order.due with
      | none => acc
      | some (i, o) => State.drainLoop n fuel (acc.1.drainOne i o, true)

/-- The step of an account in a CURTAIL sweep (R171 to R173). -/
def State.curtailAccount (n : Nat) (a : Account) (q : Nat) (d : Drain) (s : State) : State :=
  let s1 := s.reviseAccount n (fun a => { a with curtailment := q })
  let r1 := State.trimLoop n s.obk.orders.length (s1, false)
  let r2 := match d with
    | .letRun => r1
    | .stopRunning => State.drainLoop n s.obk.orders.length r1
  let s2 := if r2.2 ∨ a.curtailment < q then r2.1.owe else r2.1
  if r2.2 ∨ a.curtailment ≠ q then s2.accountChanged n else s2

/-- One visit of a CURTAIL sweep (R170). -/
def State.curtailVisit (w : Sweep) (s : State) : State :=
  let s1 := match s.account? w.cursor with
    | none => s
    | some a =>
      if a.state ≠ AccountState.closed ∧ w.actual.admits a then
        s.curtailAccount w.cursor a (w.share.getD Config.fullShare) (w.drain.getD .letRun)
      else s
  s1.moveCursor (w.cursor + 1)

/-- CURTAIL_STEP (R170 to R173): the visit of the account at the cursor. -/
def execCurtailStep (s : State) : Host.Outcome State Fault Refusal :=
  match s.visiting? .curtail with
  | none => .next s
  | some w => .next (s.curtailVisit w).arbitrate

/-! ### SUPPLY_BUMP (R174 to R176) -/

/-- An order's head window contains the slot (R27, R175). -/
def State.headWindow (o : Order) (t : Nat) (s : State) : Bool :=
  let shift := lagOf s.cal.reaches (s.reachOf o) - lagOf s.cal.reaches 0
  decide (o.start ≤ t + shift) && decide (t + shift < o.endSlot)
/-- Descending placement sequence. -/
def laterPlaced (x y : Nat × Order) : Bool := decide (y.2.sequence < x.2.sequence)
/-- The CONFIRMED orders whose head window contains the slot, in descending placement sequence
(R175). -/
def State.bumpList (t : Nat) (s : State) : List (Nat × Order) :=
  sortBy laterPlaced
    (s.obk.orders.filter (fun e => decide (e.2.state = .confirmed) && s.headWindow e.2 t))
/-- Bump one order while the slot is over (R175, R176). -/
def bumpOne (t : Nat) (s : State) (e : Nat × Order) : State :=
  if s.cal.headOver t then
    let r := s.bumpOrder e.1 e.2
    r.1.owe.tally (fun c =>
      { c with
        bumped := countUp c.bumped 1
        requeued := countUp c.requeued (if r.2 then 1 else 0) })
  else s
/-- The step of a BUMP_PENDING slot (R175). -/
def State.bumpSlot (t : Nat) (s : State) : State :=
  let s1 := (s.bumpList t).foldl (bumpOne t) s
  if s1.cal.headOver t then
    ({ s1 with cal := s1.cal.setHeadMark t .shortfall } : State).report .headShortfall (.number t)
  else { s1 with cal := s1.cal.setHeadMark t .unmarked }
/-- One visit of a SUPPLY_BUMP sweep (R174). -/
def State.bumpVisit (w : Sweep) (s : State) : State :=
  let t := w.cursor
  let s1 := if s.cal.slot ≤ t ∧ s.cal.headMark t = .bumpPending then s.bumpSlot t else s
  s1.moveCursor (t + 1)
/-- SUPPLY_BUMP_STEP (R174 to R176): the visit of the slot at the cursor. -/
def execSupplyBumpStep (s : State) : Host.Outcome State Fault Refusal :=
  match s.visiting? .supplyBump with
  | none => .next s
  | some w => .next (s.bumpVisit w).arbitrate

/-- The cursor of a SUPPLY_BUMP in progress at a boundary (R174). -/
def State.skipPassed (s : State) : State :=
  match s.sweep.status with
  | none => s
  | some w =>
    if w.kind = .supplyBump ∧ w.state = .inProgress ∧ w.cursor < s.cal.slot then s.moveCursor s.cal.slot
    else s
/-- SWEEP_BOUNDARY (R174): the Sweep Engine takes the oldest boundary presented. -/
def execSweepBoundary (s : State) : Host.Outcome State Fault Refusal :=
  match s.mail.sweep with
  | [] => .next s
  | _ :: rest => .next ({ s with mail.sweep := rest } : State).skipPassed

/-! ### PERIOD_CLOSE (R177) -/

/-- One visit of a PERIOD_CLOSE sweep (R177). -/
def State.closeVisit (w : Sweep) (s : State) : State :=
  let s1 := match s.account? w.cursor with
    | none => s
    | some a =>
      if w.actual.admits a then (s.closePeriod w.cursor).accountChanged w.cursor else s
  s1.moveCursor (w.cursor + 1)
/-- PERIOD_CLOSE_STEP (R177): the visit of the account at the cursor. -/
def execPeriodCloseStep (s : State) : Host.Outcome State Fault Refusal :=
  match s.visiting? .periodClose with
  | none => .next s
  | some w => .next (s.closeVisit w)

/-! ### SEASON_OPEN (R178, R179) -/

/-- An account at the opening step (R178). -/
def Account.opening (a : Account) : Account :=
  a.revise (fun a => { a with transferNet := 0, curtailment := Config.fullShare })
/-- The opening step (R178). -/
def State.openSeason (s : State) : State :=
  let raised := s.accounts.any (fun e => decide (e.2.curtailment < Config.fullShare))
  let s1 : State := { s with accounts := s.accounts.map (fun e => (e.1, e.2.opening)) }
  if raised then s1.owe else s1
/-- SEASON_OPEN at the Sweep Engine (R178). -/
def reqSeasonOpen (s : State) : State × Reply :=
  if s.sweeping then (s, refusal .busySweep)
  else if s.obk.anyLive then (s, refusal .inUse)
  else
    let w := Sweep.setUp .seasonOpen .district .district none none 0
    ((s.startSweep w).openSeason, w.accepted [])
/-- SEASON_OPEN (R178). -/
def execSeasonOpen (s : State) : Host.Outcome State Fault Refusal :=
  s.takeRequest .seasonOpen reqSeasonOpen

/-- An account's season volumes and residual at its step (R179, effects 2 and 3). -/
def Account.newSeason (a : Account) : Account :=
  a.revise (fun a =>
    { a with
      seasonOrdered := 0
      seasonUnordered := 0
      seasonFrost := 0
      seasonEstimated := 0
      residual := 0 })
/-- A turnout that names the account at its step (R179, effect 4). -/
def Point.newSeason (n : Nat) (p : Point) : Point :=
  if p.kind = .turnout ∧ p.account = some n then
    { p with meter := { p.meter with seasonMetered := 0, seasonEstimated := 0 } }
  else p
/-- The step of an account in a SEASON_OPEN sweep (R179). -/
def State.seasonAccount (n : Nat) (s : State) : State :=
  let s1 := s.closePeriod n
  let s2 := match s1.account? n with
    | none => s1
    | some a => s1.setAccount n a.newSeason
  ({ s2 with points := s2.points.map (fun e => (e.1, e.2.newSeason n)) } : State).accountChanged n
/-- One visit of a SEASON_OPEN sweep (R179). -/
def State.seasonVisit (w : Sweep) (s : State) : State :=
  let s1 := match s.account? w.cursor with
    | none => s
    | some _ => s.seasonAccount w.cursor
  s1.moveCursor (w.cursor + 1)
/-- SEASON_OPEN_STEP (R179): the visit of the account at the cursor. -/
def execSeasonOpenStep (s : State) : Host.Outcome State Fault Refusal :=
  match s.visiting? .seasonOpen with
  | none => .next s
  | some w => .next (s.seasonVisit w)

/-! ### The end and the abort (R167, R168) -/

/-- The sweep's state and done indication at its end. -/
def State.closeSweep (st : SweepState) (s : State) : State :=
  { s with
    sweep := { status := s.sweep.status.map (fun w => { w with state := st }), done := true } }
/-- SWEEP_END (R167): a sweep whose cursor has passed its scope ends DONE, with one re-examination. -/
def execSweepEnd (s : State) : Host.Outcome State Fault Refusal :=
  match s.sweep.status with
  | none => .next s
  | some w =>
    if w.state = .inProgress ∧ w.over then .next ((s.closeSweep .done).reexamine).arbitrate
    else .next s
/-- A warm reset abandons a sweep in progress (R168). -/
def State.abortSweep (s : State) : State :=
  match s.sweep.status with
  | none => s
  | some w =>
    if w.state = .inProgress then
      (s.closeSweep .aborted).report .sweepAborted (.sweep w.kind w.cursor)
    else s

end Sys2Proof.Machine
end

