-- ==== Sys2Proof/Machine/RequestPort.lean ====
section
/-! DEFINITION. The request port: transactions, warm reset, power (chapter 11). -/

namespace Sys2Proof.Machine

/-! ### Transactions (R192, R193) -/

/-- A byte on MOSI or MISO, most significant bit first (R192). -/
def spiByte (b : Byte) : List Bool := (List.range 8).map (fun k => b.getLsbD (7 - k))
/-- Bytes on MOSI or MISO, one after another (R192). -/
def spiBits (bs : List Byte) : List Bool := bs.flatMap spiByte
/-- The whole bytes that a row of bits makes, most significant bit first (R192). -/
def spiBytes : List Bool → List Byte
  | b7 :: b6 :: b5 :: b4 :: b3 :: b2 :: b1 :: b0 :: rest =>
    BitVec.ofBoolListBE [b7, b6, b5, b4, b3, b2, b1, b0] :: spiBytes rest
  | _ => []

/-- The transaction that the bits sampled on MOSI make (R192): the first byte selects it, and one of no whole
byte is ignored. A STATUS clocked whole is one piece. -/
def selectTransaction (mosi : List Bool) : Instr :=
  let bits := mosi.length % 8
  match spiBytes mosi with
  | [] => .ignoredTransaction { bytes := [], bits := bits }
  | b :: rest =>
    if b = 0xC1#8 then .command { bytes := rest, bits := bits }
    else if b = 0xF0#8 then .fetch (8 * rest.length + bits)
    else if b = 0x5A#8 then .status { bytes := rest.length, bits := bits, ends := true }
    else .ignoredTransaction { bytes := b :: rest, bits := bits }

/-- MISO stays high-impedance: the part has no supply, or RESET is asserted (R198); during initialisation
RESET has no effect (R199). -/
def State.mute (s : State) : Bool :=
  match s.power with
  | .off => true
  | .initialising => false
  | .on => s.resetAsserted

/-- The bits that the part drives in a transaction of so many bits: the status byte and then the given bytes,
0x00 after them (R192), or 0x03 and then 0x00 until initialisation has completed (R199). -/
def State.driven (bits : Nat) (out : List Byte) (s : State) : List Bool :=
  if s.mute then []
  else
    let bytes := if s.power = .initialising then [3#8] else s.statusByte :: out
    (spiBits bytes ++ List.replicate bits false).take bits

/-- A transaction of so many bits that changes no record; CS rises at its end. -/
def State.drive (bits : Nat) (out : List Byte) (s : State) : State :=
  { s with port := { s.port with miso := s.driven bits out, shift := .idle } }

/-- How many bits are clocked. -/
def clockedBits (m : Clocked) : Nat := 8 * m.bytes.length + m.bits

/-- Transactions are taken: the part is on and RESET is negated (R198, R199). -/
def State.listening (s : State) : Bool := s.power == .on && !s.resetAsserted

/-! ### COMMAND (R194, R195) -/

/-- A frame that passes the checks of R194: its code, its tag and its parameter bytes. Bits of a byte that CS
cut short are no part of it (log entry 25). -/
def checkFrame (bytes : List Byte) : Option Frame :=
  match bytes with
  | code :: tag :: n :: params =>
    if n.toNat ≤ 60 ∧ params.length = n.toNat ∧ paramLength code.toNat = some n.toNat then
      some { code := code, tag := tag, params := params }
    else none
  | _ => none

/-- A COMMAND that ends while the port is IDLE (R194). -/
def State.takeFrame (bytes : List Byte) (s : State) : State :=
  match checkFrame bytes with
  | some f => { s with port := { s.port with state := .executing, command := some f } }
  | none =>
    { s with
      port := { s.port with
        state := .responseWaiting
        response := some
          { tag := bytes.getD 1 0#8, code := bytes.getD 0 0#8, reply := refusal .badFrame } } }

/-- A COMMAND that ends while the port is not IDLE is discarded (R195). -/
def State.overrunCommand (s : State) : State :=
  ({ s with port := { s.port with overrun := true } } : State).report .commandOverrun .absent

/-- COMMAND (R192, R194, R195): what follows 0xC1. -/
def execCommand (sent : Clocked) (s : State) : Host.Outcome State Fault Refusal :=
  let s1 := s.drive (8 + clockedBits sent) []
  .next
    (if s.listening then
      (if s.port.state = .idle then s1.takeFrame sent.bytes else s1.overrunCommand)
    else s1)

/-! ### FETCH (R196), STATUS, other transactions (R192) -/

/-- A response as a FETCH clocks it out (R192). -/
def Response.bytes (r : Response) : List Byte :=
  r.tag :: r.code :: (be8 r.reply.result.code ++ be8 r.reply.data.length ++ r.reply.data)
/-- What a FETCH clocks out when no response waits (R196). -/
def noResponse : List Byte := be8 0 ++ be8 0 ++ be8 Result.nothing.code ++ be8 0

/-- The response in the buffer, while it waits to be fetched. -/
def Port.waiting? (p : Port) : Option Response :=
  match p.state with
  | .responseWaiting => p.response
  | .idle | .executing => none

/-- The port after a response has been returned whole (R196). -/
def Port.emptied (p : Port) : Port := { p with state := .idle, response := none, overrun := false }

/-- FETCH (R196): so many bits are clocked after the first byte. -/
def execFetch (bits : Nat) (s : State) : Host.Outcome State Fault Refusal :=
  match s.port.waiting? with
  | none => .next (s.drive (8 + bits) noResponse)
  | some r =>
    let s1 := s.drive (8 + bits) r.bytes
    .next
      (if s.listening ∧ 8 * r.bytes.length ≤ bits then { s1 with port := s1.port.emptied } else s1)

/-- What a STATUS that begins now goes on as, while CS stays low (R192, R198, R199). -/
def State.statusShift (s : State) : Shift :=
  if s.mute then .silent else if s.power = .initialising then .zeros else .status

/-- The bits of a piece in which every byte is the same. -/
def pieceBits (p : Piece) (b : Byte) : List Bool :=
  spiBits (List.replicate p.bytes b) ++ (spiByte b).take p.bits

/-- The further bits of a STATUS that goes on as `x`: each byte the status byte as it stands when that byte
begins (R193), or 0x00 (R199); none while MISO is high-impedance. -/
def State.continued (x : Shift) (p : Piece) (s : State) : List Bool :=
  if s.mute then []
  else
    match x with
    | .status => pieceBits p s.statusByte
    | .zeros => pieceBits p 0#8
    | .idle | .silent => []

/-- STATUS, whole or in pieces (R192, R193; log entry 25): each byte is the status byte as it stands. -/
def execStatus (piece : Piece) (s : State) : Host.Outcome State Fault Refusal :=
  let goes := fun (x : Shift) => if piece.ends then Shift.idle else x
  .next { s with
    port :=
      match s.port.shift with
      | .idle =>
        { s.port with
          miso := s.driven 8 [] ++ s.continued s.statusShift piece
          shift := goes s.statusShift }
      | .status | .zeros | .silent =>
        { s.port with
          miso := s.port.miso ++ s.continued s.port.shift piece
          shift := goes s.port.shift } }

/-- IGNORED_TRANSACTION (R192): what is clocked is answered with the status byte and then 0x00, as far as CS
stays low. -/
def execIgnoredTransaction (sent : Clocked) (s : State) : Host.Outcome State Fault Refusal :=
  .next (s.drive (clockedBits sent) [])

/-! ### Warm reset (R198, R71) -/

/-- A discarded response sets the change mark of the order it named, if that order still holds its entry
(R71). -/
def State.markNamed (r : Reply) (s : State) : State := s.markHandle r.names

/-- The request port at a warm reset (R198): a waiting response is discarded; a command in execution,
other than SOFT_RESET, is orphaned. -/
def State.resetPort (s : State) : State :=
  let s1 := match s.port.waiting? with
    | some r => s.markNamed r.reply
    | none => s
  let orphan := decide (s.port.state = .executing) && decide (s.port.executing? ≠ some .softReset)
  { s1 with
    port := { s1.port with
      state := if orphan then .executing else .idle
      command := if orphan then s1.port.command else none
      response := none
      overrun := false
      orphan := orphan } }

/-- A warm reset (R198): at the request port, the field line (R122) and the Sweep Engine (R168). -/
def State.warmReset (s : State) : State := s.resetPort.resetLine.abortSweep

/-- RESET_ASSERTED (R198): the warm reset is taken when the line is asserted; during power-on
initialisation it has no further effect (R199). -/
def execResetAsserted (s : State) : Host.Outcome State Fault Refusal :=
  if s.resetAsserted then .next s
  else
    let s1 : State := { s with resetAsserted := true }
    .next (if s.power = .on then s1.warmReset else s1)

/-- RESET_RELEASED (R198). -/
def execResetReleased (s : State) : Host.Outcome State Fault Refusal :=
  .next { s with resetAsserted := false }

/-- SOFT_RESET (R198): the warm reset in place of a response. -/
def execSoftReset (s : State) : Host.Outcome State Fault Refusal :=
  if s.handed .softReset then .next s.warmReset else .next s

/-! ### ORPHAN_COMPLETION (R198) -/

/-- A request as its owning block completes it; none for an event that is no request. A PLACE whose slide
search still goes on has no answer yet. -/
def runRequest (c : Instr) (s : State) : State × Option Reply :=
  let done (r : State × Reply) : State × Option Reply := (r.1, some r.2)
  match c with
  | .reachSet a r p q l => done (reqReachSet a r p q l s)
  | .reachQuery r => done (reqReachQuery r s)
  | .pointSet p k r a f q m h => done (reqPointSet p k r a f q m h s)
  | .pointQuery p => done (reqPointQuery p s)
  | .accountSet a c b => done (reqAccountSet a c b s)
  | .accountQuery a p => done (reqAccountQuery a p s)
  | .accountSuspend a => done (reqAccountSuspend a s)
  | .accountResume a => done (reqAccountResume a s)
  | .accountClose a => done (reqAccountClose a s)
  | .tariffSet c b1 b2 b3 r0 r1 r2 r3 u f => done (reqTariffSet c b1 b2 b3 r0 r1 r2 r3 u f s)
  | .tariffQuery c => done (reqTariffQuery c s)
  | .districtSet l d b t p => done (reqDistrictSet l d b t p s)
  | .districtQuery => done (reqDistrictQuery s)
  | .clockSet m => done (reqClockSet m s)
  | .clockQuery => done (reqClockQuery s)
  | .capacityQuery r f c => done (reqCapacityQuery r f c s)
  | .supplySet f c w => done (reqSupplySet f c w s)
  | .place p t d f o l n => reqPlace p t d f o l n s
  | .amend h f e => done (reqAmend h f e s)
  | .cancel c r o => done (reqCancel c r o s)
  | .orderQuery h => done (reqOrderQuery h s)
  | .retire h => done (reqRetire h s)
  | .nextChanged => done (reqNextChanged s)
  | .waitlistQuery p => done (reqWaitlistQuery p s)
  | .standingSet x p o d f c n => done (reqStandingSet x p o d f c n s)
  | .standingResume x => done (reqStandingResume x s)
  | .standingClear x => done (reqStandingClear x s)
  | .standingQuery x => done (reqStandingQuery x s)
  | .pointEnable p => done (reqPointEnable p s)
  | .pointDisable p a => done (reqPointDisable p a s)
  | .localAck p => done (reqLocalAck p s)
  | .frostCall c r => done (reqFrostCall c r s)
  | .frostEnd c r => done (reqFrostEnd c r s)
  | .fieldStart => done (reqFieldStart s)
  | .fieldStop => done (reqFieldStop s)
  | .resume => done (reqResume s)
  | .stationQuery a => done (reqStationQuery a s)
  | .meterRebase p => done (reqMeterRebase p s)
  | .meterQuery p => done (reqMeterQuery p s)
  | .transfer g t v => done (reqTransfer g t v s)
  | .periodClose c r => done (reqPeriodClose c r s)
  | .seasonOpen => done (reqSeasonOpen s)
  | .statementQuery a => done (reqStatementQuery a s)
  | .nextAccountChanged => done (reqNextAccountChanged s)
  | .curtail c k b z q d => done (reqCurtail c k b z q d s)
  | .sweepQuery => done (reqSweepQuery s)
  | .errorQuery => done (reqErrorQuery s)
  | .errorClear v => done (reqErrorClear v s)
  | .severitySet k v => done (reqSeveritySet k v s)
  | .countSelect k => done (reqCountSelect k s)
  | .attentionQuery => done (reqAttentionQuery s)
  | .attentionMask a b c d => done (reqAttentionMask a b c d s)
  | .softReset => done (s, doneReply)
  | .command _ | .fetch _ | .status _ | .ignoredTransaction _ | .resetAsserted | .orphanCompletion
  | .powerOn | .powerOnInitComplete | .minuteEdge | .orderBookBoundary | .scheduledOrderNotice _
  | .releaseControlBoundary | .meterBoundary | .sweepBoundary | .pollIntervalElapsed _
  | .attemptDeadline | .fieldReply _ | .appliedSetpointReport _ _ | .gateReport _ _ _ _
  | .meterReading _ _ _ | .errorReport _ _ | .holdRequest | .curtailStep | .supplyBumpStep
  | .periodCloseStep | .seasonOpenStep | .sweepEnd | .resetReleased | .powerOff
  | .replyKindByte _ _ | .outFrameSent => (s, none)

/-- The port when an orphaned command has completed: its response is discarded (R198). -/
def Port.unorphaned (p : Port) : Port := { p with state := .idle, command := none, orphan := false }

/-- ORPHAN_COMPLETION (R198): the owning block completes an orphaned command whole; the discarded
response sets the mark of the order it named (R71). An orphaned PLACE makes the tries that are left of its
slide in this one event (log entry 14). -/
def execOrphanCompletion (s : State) : Host.Outcome State Fault Refusal :=
  if s.port.orphan then
    match s.port.executing? with
    | none => .next s
    | some c =>
      let r := runRequest c s
      match r.2 with
      | none => .next r.1
      | some a =>
        let s1 := r.1.markNamed a
        .next { s1 with port := s1.port.unorphaned }
  else .next s

/-! ### Power (R199) -/

/-- Every record at its power-on value; the level of the RESET line and the queue are the outside
world's. -/
def State.powered (p : Power) (s : State) : State :=
  { State.reset with power := p, resetAsserted := s.resetAsserted, pending := s.pending }

/-- POWER_ON (R199): initialisation begins, with all power-on values. -/
def execPowerOn (s : State) : Host.Outcome State Fault Refusal := .next (s.powered .initialising)

/-- POWER_ON_INIT_COMPLETE (R199). -/
def execPowerOnInitComplete (s : State) : Host.Outcome State Fault Refusal :=
  .next (if s.power = .initialising then { s with power := .on } else s)

/-- POWER_OFF (R199): every record is lost (log entry 5). -/
def execPowerOff (s : State) : Host.Outcome State Fault Refusal := .next (s.powered .off)

end Sys2Proof.Machine
end

