-- ==== Sys2Proof/Machine/Dispatch.lean ====
section
/-! DEFINITION. One arm per command or event of the AH316: its meaning. -/

namespace Sys2Proof.Machine

/-- What a command or event does to everything but the queue. -/
def exec (i : Instr) (s : State) : Host.Outcome State Fault Refusal :=
  match i with
  | .command sent => Sys2Proof.Machine.execCommand sent s
  | .fetch bits => Sys2Proof.Machine.execFetch bits s
  | .status piece => Sys2Proof.Machine.execStatus piece s
  | .ignoredTransaction sent => Sys2Proof.Machine.execIgnoredTransaction sent s
  | .reachSet action reach parent capacity lag => Sys2Proof.Machine.execReachSet action reach parent capacity lag s
  | .reachQuery reach => Sys2Proof.Machine.execReachQuery reach s
  | .pointSet point kind reach account rated frostRate mantissa shift => Sys2Proof.Machine.execPointSet point kind reach account rated frostRate mantissa shift s
  | .pointQuery point => Sys2Proof.Machine.execPointQuery point s
  | .accountSet account cls base => Sys2Proof.Machine.execAccountSet account cls base s
  | .accountQuery account part => Sys2Proof.Machine.execAccountQuery account part s
  | .accountSuspend account => Sys2Proof.Machine.execAccountSuspend account s
  | .accountResume account => Sys2Proof.Machine.execAccountResume account s
  | .accountClose account => Sys2Proof.Machine.execAccountClose account s
  | .tariffSet cls b1 b2 b3 r0 r1 r2 r3 unordered frost => Sys2Proof.Machine.execTariffSet cls b1 b2 b3 r0 r1 r2 r3 unordered frost s
  | .tariffQuery cls => Sys2Proof.Machine.execTariffQuery cls s
  | .districtSet lead supply bitRate timeout pollInterval => Sys2Proof.Machine.execDistrictSet lead supply bitRate timeout pollInterval s
  | .districtQuery => Sys2Proof.Machine.execDistrictQuery s
  | .clockSet minute => Sys2Proof.Machine.execClockSet minute s
  | .clockQuery => Sys2Proof.Machine.execClockQuery s
  | .capacityQuery reach first count => Sys2Proof.Machine.execCapacityQuery reach first count s
  | .supplySet first count flow => Sys2Proof.Machine.execSupplySet first count flow s
  | .place point start duration flow conflict limit tries => Sys2Proof.Machine.execPlace point start duration flow conflict limit tries s
  | .amend handle flow endSlot => Sys2Proof.Machine.execAmend handle flow endSlot s
  | .cancel scope reference running => Sys2Proof.Machine.execCancel scope reference running s
  | .orderQuery handle => Sys2Proof.Machine.execOrderQuery handle s
  | .retire handle => Sys2Proof.Machine.execRetire handle s
  | .nextChanged => Sys2Proof.Machine.execNextChanged s
  | .waitlistQuery position => Sys2Proof.Machine.execWaitlistQuery position s
  | .standingSet index point offset duration flow conflict count => Sys2Proof.Machine.execStandingSet index point offset duration flow conflict count s
  | .standingResume index => Sys2Proof.Machine.execStandingResume index s
  | .standingClear index => Sys2Proof.Machine.execStandingClear index s
  | .standingQuery index => Sys2Proof.Machine.execStandingQuery index s
  | .pointEnable point => Sys2Proof.Machine.execPointEnable point s
  | .pointDisable point action => Sys2Proof.Machine.execPointDisable point action s
  | .localAck point => Sys2Proof.Machine.execLocalAck point s
  | .frostCall scope reach => Sys2Proof.Machine.execFrostCall scope reach s
  | .frostEnd scope reach => Sys2Proof.Machine.execFrostEnd scope reach s
  | .fieldStart => Sys2Proof.Machine.execFieldStart s
  | .fieldStop => Sys2Proof.Machine.execFieldStop s
  | .resume => Sys2Proof.Machine.execResume s
  | .stationQuery station => Sys2Proof.Machine.execStationQuery station s
  | .meterRebase point => Sys2Proof.Machine.execMeterRebase point s
  | .meterQuery point => Sys2Proof.Machine.execMeterQuery point s
  | .transfer giver taker amount => Sys2Proof.Machine.execTransfer giver taker amount s
  | .periodClose scope reference => Sys2Proof.Machine.execPeriodClose scope reference s
  | .seasonOpen => Sys2Proof.Machine.execSeasonOpen s
  | .statementQuery account => Sys2Proof.Machine.execStatementQuery account s
  | .nextAccountChanged => Sys2Proof.Machine.execNextAccountChanged s
  | .curtail scope cls base size share drain => Sys2Proof.Machine.execCurtail scope cls base size share drain s
  | .sweepQuery => Sys2Proof.Machine.execSweepQuery s
  | .errorQuery => Sys2Proof.Machine.execErrorQuery s
  | .errorClear severity => Sys2Proof.Machine.execErrorClear severity s
  | .severitySet kind severity => Sys2Proof.Machine.execSeveritySet kind severity s
  | .countSelect kind => Sys2Proof.Machine.execCountSelect kind s
  | .attentionQuery => Sys2Proof.Machine.execAttentionQuery s
  | .attentionMask error sweepDone orderMarks accountMarks => Sys2Proof.Machine.execAttentionMask error sweepDone orderMarks accountMarks s
  | .softReset => Sys2Proof.Machine.execSoftReset s
  | .resetAsserted => Sys2Proof.Machine.execResetAsserted s
  | .orphanCompletion => Sys2Proof.Machine.execOrphanCompletion s
  | .powerOn => Sys2Proof.Machine.execPowerOn s
  | .powerOnInitComplete => Sys2Proof.Machine.execPowerOnInitComplete s
  | .minuteEdge => Sys2Proof.Machine.execMinuteEdge s
  | .orderBookBoundary => Sys2Proof.Machine.execOrderBookBoundary s
  | .scheduledOrderNotice point => Sys2Proof.Machine.execScheduledOrderNotice point s
  | .releaseControlBoundary => Sys2Proof.Machine.execReleaseControlBoundary s
  | .meterBoundary => Sys2Proof.Machine.execMeterBoundary s
  | .sweepBoundary => Sys2Proof.Machine.execSweepBoundary s
  | .pollIntervalElapsed station => Sys2Proof.Machine.execPollIntervalElapsed station s
  | .attemptDeadline => Sys2Proof.Machine.execAttemptDeadline s
  | .fieldReply frame => Sys2Proof.Machine.execFieldReply frame s
  | .appliedSetpointReport point applied => Sys2Proof.Machine.execAppliedSetpointReport point applied s
  | .gateReport point switch position fault => Sys2Proof.Machine.execGateReport point switch position fault s
  | .meterReading point totalizer fault => Sys2Proof.Machine.execMeterReading point totalizer fault s
  | .errorReport kind ref => Sys2Proof.Machine.execErrorReport kind ref s
  | .holdRequest => Sys2Proof.Machine.execHoldRequest s
  | .curtailStep => Sys2Proof.Machine.execCurtailStep s
  | .supplyBumpStep => Sys2Proof.Machine.execSupplyBumpStep s
  | .periodCloseStep => Sys2Proof.Machine.execPeriodCloseStep s
  | .seasonOpenStep => Sys2Proof.Machine.execSeasonOpenStep s
  | .sweepEnd => Sys2Proof.Machine.execSweepEnd s
  | .resetReleased => Sys2Proof.Machine.execResetReleased s
  | .powerOff => Sys2Proof.Machine.execPowerOff s
  | .replyKindByte address kind => Sys2Proof.Machine.execReplyKindByte address kind s
  | .outFrameSent => Sys2Proof.Machine.execOutFrameSent s

end Sys2Proof.Machine
end

