-- ==== Sys2Proof/Safety.lean ====
section
/-! DEFINITION. What the statements about this block are made of: how a request is seen to be answered,
and the invariants of its records. -/

namespace Sys2Proof.Machine

/-! ### Answers -/

/-- The request c, taken in s, makes of s the state s1 and is answered r: the response waits with the
tag and the request code of the command in the buffer, and the port is RESPONSE_WAITING (R194). -/
def Completes (c : Instr) (s s1 : State) (r : Reply) : Prop :=
  ∃ f, s.port.command = some f ∧
    exec c s = .next { s1 with
      port := { s1.port with
        state := .responseWaiting
        command := none
        response := some { tag := f.tag, code := f.code, reply := r } } }

/-- The request c, taken in s, changes nothing but the request port, where a refusal without data
waits. -/
def Refuses (c : Instr) (s : State) (r : Result) : Prop := Completes c s s (refusal r)

/-- The request is the same but for the number of tries that a PLACE makes in one event, which is no
field of it: on the port, a PLACE stands with 96. -/
def onPort : Instr → Instr
  | .place p t d f o l _ => .place p t d f o l 96
  | c => c

/-! ### Invariants of the records -/

/-- The request port's records fit its state (section 11.2, R198): the buffers are empty when it is IDLE,
a command stands in EXECUTING, a response in RESPONSE_WAITING, and only an executing command is an
orphan. -/
def Port.sound (p : Port) : Prop :=
  match p.state with
  | .idle => p.command = none ∧ p.response = none ∧ p.orphan = false
  | .executing => p.command.isSome = true ∧ p.response = none
  | .responseWaiting => p.command = none ∧ p.response.isSome = true ∧ p.orphan = false

/-- A next-kinds set is empty while its record is empty (R184). -/
def Episode.sound (e : Episode) : Prop := e.first = none → e.next = []

/-- A reach has a number up to 31 and a parent of smaller number (section 1.2). -/
def treeSound (rs : Table Reach) : Prop :=
  ∀ r v, cell? rs r = some v → r < 32 ∧ ∀ p, v.parent = some p → p < r

/-- The severity map gives each of the thirteen kinds a severity 0, 1 or 2 (R181). -/
def severitiesSound (vs : List Nat) : Prop := vs.length = 13 ∧ ∀ v ∈ vs, v ≤ 2

/-- The port, the Fault Unit's records, the reach tree, the capacity ring, the tables of points and stations,
and the set of orders with a change mark, whose table indexes rise, are sound. -/
def State.sound (s : State) : Prop :=
  s.port.sound ∧ s.faults.note.sound ∧ s.faults.attend.sound ∧ s.faults.stop.sound ∧
    severitiesSound s.faults.severities ∧
    treeSound s.cal.reaches ∧ risingKeys s.cal.committed = true ∧
    risingKeys s.points = true ∧ risingKeys s.line.stations = true ∧ s.obk.marks.Pairwise (· < ·)

/-- The sum of the transfer nets of all accounts of the district (R151). -/
def State.netSum (s : State) : Int := (s.accounts.map (fun e => e.2.transferNet)).sum
/-- Account numbers stand once, rising, and the transfer nets sum to zero (R151). -/
def State.balanced (s : State) : Prop := risingKeys s.accounts = true ∧ s.netSum = 0

/-- The orders of an account, over which its figures are sums. -/
def State.ordersOf (s : State) (n : Nat) : List Order :=
  (s.obk.orders.filter (fun e => decide (e.2.account = n))).map (fun e => e.2)
/-- Table indexes and account numbers stand once, rising; every order belongs to an account that is not
VACANT; and for every account, reserved outstanding is the sum of its orders' shares (R68) and the live
order count is the number of its live orders (R42). -/
def State.booked (s : State) : Prop :=
  risingKeys s.obk.orders = true ∧ risingKeys s.accounts = true ∧
    (∀ e ∈ s.obk.orders, (s.account? e.2.account).isSome = true) ∧
    ∀ n a, s.account? n = some a →
      a.reserved = ((s.ordersOf n).map Order.share).sum ∧
        a.live = ((s.ordersOf n).map Order.liveCount).sum

/-- Every parent and every point names a configured reach (R3, R5, R8). -/
def State.rooted (s : State) : Prop :=
  (∀ r v p, s.reach? r = some v → v.parent = some p → s.reach? p ≠ none) ∧
    ∀ n p, s.point? n = some p → s.reach? p.reach ≠ none

/-- What R101 gives a reach: over the turnouts in AUTO with frost set in its subtree, the sum of the frost
rate less the backup flow, 0 where the rate is not above it. -/
def State.frostOwed (s : State) (r : Nat) : Nat :=
  ((s.points.filter (fun e =>
      decide (e.2.kind = .turnout ∧ e.2.mode = .auto ∧ r ∈ pathOf s.cal.reaches e.2.reach))).map
    (fun e =>
      match e.2.backup with
      | some b => e.2.frostRate - b.flow
      | none => 0)).sum
/-- Point numbers stand once, rising; parents and points name configured reaches; and every reach's frost
extra load is the sum of R101. -/
def State.frostKept (s : State) : Prop :=
  risingKeys s.points = true ∧ s.rooted ∧ ∀ r, s.extraLoad r = s.frostOwed r

/-- The placement sequence of the order a handle names. -/
def OrderBook.sequenceOf (b : OrderBook) (h : Nat) : Nat :=
  ((b.named? h).map (fun e => e.2.sequence)).getD 0
/-- Table indexes stand once, rising, below 2,048; no order is placed later than the counter says; and the
waiting list holds the handles of just the PENDING_WAIT orders, in ascending placement sequence, so each
once, and at most 96 (R40, R72). -/
def State.queued (s : State) : Prop :=
  risingKeys s.obk.orders = true ∧
    (∀ i o, cell? s.obk.orders i = some o → i < 2048 ∧ o.sequence ≤ s.obk.sequence) ∧
    (∀ h, h ∈ s.obk.waiting ↔
      ∃ i o, cell? s.obk.orders i = some o ∧ o.state = .pendingWait ∧ h = s.obk.handle i) ∧
    (s.obk.waiting.map s.obk.sequenceOf).Pairwise (· < ·) ∧ s.obk.waiting.length ≤ 96

/-- A CONFIRMED, RUNNING, SUSPENDED or CLOSING order holds its flow in reach j in slot t: the reach is on its
path and the lag-shifted window of the order there contains the slot, up to the cut slot of a cut order
(R27, R28). -/
def State.holds (s : State) (o : Order) (j t : Nat) : Bool :=
  let r := s.reachOf o
  let u := t + (lagOf s.cal.reaches r - lagOf s.cal.reaches j)
  decide (o.state = .confirmed ∨ o.state = .running ∨ o.state = .suspended ∨ o.state = .closing) &&
    decide (j ∈ pathOf s.cal.reaches r ∧ o.start ≤ u ∧ u < o.start + o.duration) &&
    o.cut.all (fun c => decide (t ≤ c))
/-- The sum of the flows of the orders that hold reach j in slot t (R28). -/
def State.flowHeld (s : State) (j t : Nat) : Nat :=
  ((s.obk.orders.filter (fun e => s.holds e.2 j t)).map (fun e => e.2.flow)).sum
/-- For every reach and every slot within horizon, the committed flow is the sum of the flows of the orders
that hold it, and it is within the reach's capacity but in head reach slots with a head mark (R28). With it
stands what it rests on: the reach tree is sound; table indexes and point numbers stand once, rising;
parents and points name configured reaches; a live order has an existing point, a window that ends within
the calendar's horizon and, unless it is CLOSING, no cut slot; and neither the Order Book's slot nor a
boundary presented to it lies after the calendar's current slot. -/
def State.ringKept (s : State) : Prop :=
  treeSound s.cal.reaches ∧ risingKeys s.obk.orders = true ∧ risingKeys s.points = true ∧ s.rooted ∧
    (∀ i o, cell? s.obk.orders i = some o → o.live = true →
      s.point? o.point ≠ none ∧ o.start + o.duration ≤ s.cal.slot + 672 ∧
        (o.state ≠ .closing → o.cut = none)) ∧
    s.obk.slot ≤ s.cal.slot ∧ (∀ t ∈ s.mail.orderBook, t ≤ s.cal.slot) ∧
    ∀ j t, j < 32 → s.cal.slot ≤ t → t < s.cal.slot + 672 →
      s.cal.committedIn j t = s.flowHeld j t ∧
      (s.cal.committedIn j t ≤ s.cal.capacityIn j t ∨ j = 0 ∧ s.cal.headMark t ≠ .unmarked)

end Sys2Proof.Machine
end

