-- ==== Sys2Proof/Certificates/Slice0/Obligations.lean ====
section
/-! DEFINITION. The statements about the AH316 for the provers. -/

open Sys2Proof Sys2Proof.Machine

/-! ### The block -/

/-- A step takes the command at the front of the queue, and runs it on the state with the queue's rest. On
an empty queue the block idles: the model's choice, log entry 1. -/
def Obligations.StepTakesTheFrontCommand : Prop :=
  (∀ (c : Instr) (s : State) (rest : List Instr),
     step { s with pending := c :: rest } = exec c { s with pending := rest }) ∧
  (∀ s : State, s.pending = [] → step s = .next s)

/-- Right after a power-on reset every record holds its power-on value. That initialisation has completed
and RESET is negated is the model's choice, log entry 4; that nothing is handed over and not yet taken, log entry
29, and that no transaction is in flight, log entries 7 and 29. POWER_ON gives every record that value, with
initialisation begun; POWER_ON_INIT_COMPLETE ends it and changes nothing else; POWER_OFF loses every record
(R199; log entries 5 and 26). The level of RESET and the queue are the outside world's. -/
def Obligations.ResetHoldsPowerOnValues : Prop :=
  let s := State.reset
  (∀ u : State,
    exec .powerOn u = .next
      { s with power := .initialising, resetAsserted := u.resetAsserted, pending := u.pending } ∧
    exec .powerOff u = .next
      { s with power := .off, resetAsserted := u.resetAsserted, pending := u.pending } ∧
    (u.power = .initialising → exec .powerOnInitComplete u = .next { u with power := .on }) ∧
    (u.power ≠ .initialising → exec .powerOnInitComplete u = .next u)) ∧
  (s.power = .on ∧ s.resetAsserted = false ∧ s.pending = [] ∧ s.mail.reports = [] ∧
    s.mail.orderBook = [] ∧ s.mail.release = [] ∧ s.mail.meter = [] ∧ s.mail.sweep = [] ∧
    s.mail.notices = [] ∧ s.mail.gates = [] ∧ s.mail.readings = [] ∧ s.mail.applied = [] ∧
    s.mail.holds = 0) ∧
  -- the port and the attention requests (R199)
  (s.port.state = .idle ∧ s.port.command = none ∧ s.port.response = none ∧ s.port.overrun = false ∧
    s.port.orphan = false ∧ s.port.mask.error = true ∧ s.port.mask.sweepDone = true ∧
    s.port.mask.orderMarks = false ∧ s.port.mask.accountMarks = false ∧ s.attnAsserted = false ∧
    s.statusByte = 0x80#8) ∧
  -- the calendar and the settings (R2, R20, R21, R24, R25)
  (s.cal.clock = 0 ∧ s.cal.slot = 0 ∧ (∀ r, s.reach? r = none) ∧ (∀ r t, s.cal.committedIn r t = 0) ∧
    (∀ t, s.cal.supplyIn t = 0 ∧ s.cal.headMark t = .unmarked) ∧ s.cal.defaultSupply = 0 ∧
    s.settings = { lead := 8, bitRate := 19200, timeout := 40, pollInterval := 60 }) ∧
  -- the Order Book (R38, R39, R40, R69, R72, R74, R80)
  ((∀ i, cell? s.obk.orders i = none ∧ s.obk.generation i = 0 ∧ i ∉ s.obk.marks) ∧
    s.obk.waiting = [] ∧ s.obk.owed = false ∧ s.obk.sequence = 0 ∧ s.obk.slot = 0 ∧
    ∀ x, cell? s.obk.templates x = none) ∧
  -- points, stations and the line (R7, R88, R106, R116, R122)
  ((∀ p, s.point? p = none) ∧ (∀ r, s.extraLoad r = 0) ∧ s.line.mode = .stopped ∧
    s.line.rotation = 127 ∧ s.line.transaction = none ∧
    ∀ a, s.station a = { polled := false, state := .responding, failures := 0, lastReply := none,
                         silentSince := none, interval := 0, due := false }) ∧
  -- accounts and tariffs (R13, R19)
  ((∀ a, s.account? a = none) ∧
    ∀ c, s.tariff c = { b1 := 0, b2 := 0, b3 := 0, r0 := 0, r1 := 0, r2 := 0, r3 := 0,
                        unordered := 0, frost := 0 }) ∧
  -- the Sweep Engine and the Fault Unit (R164, R181, R184, R186)
  (s.sweep.status = none ∧ s.sweep.done = false ∧
    s.faults.severities = [1, 0, 1, 1, 1, 0, 1, 1, 1, 1, 0, 1, 0] ∧
    (∀ v, s.faults.episode v = { first := none, next := [] }) ∧ s.faults.selected = none ∧
    s.faults.counter = 0)

/-- Every command is answered by a next state, whatever the state, and leaves the queue to the step: that
nothing stops the part is the model's reading, log entry 30. -/
def Obligations.EveryCommandAnswersANextState : Prop :=
  ∀ (c : Instr) (s : State), ∃ t, exec c s = .next t ∧ t.pending = s.pending

/-! ### The request port -/

/-- A COMMAND that ends while the port is IDLE: a frame that passes the four checks of R194 stands in the
command buffer and the port is EXECUTING; any other is answered BAD_FRAME at once, with the tag and the
request code as received. A COMMAND that ends while the port is not IDLE is discarded whole: the overrun mark
is set and COMMAND_OVERRUN is reported, with no reference; the command executing, the response waiting and
every other record are kept (R195). MISO carries the status byte and then zeros, as many bits as are clocked
(R192), and nothing else changes. That a COMMAND is taken whole, with the status byte as it stands then, ends a
STATUS that was still clocked, and is checked without the bits of a byte that CS cut, is the model's choice,
log entry 25. -/
def Obligations.CommandIsHandedOverBadOrDiscarded : Prop :=
  ∀ (s : State) (bytes : List Byte) (bits : Nat), s.power = .on → s.resetAsserted = false →
    let c := Instr.command { bytes := bytes, bits := bits }
    let miso := spiBits [s.statusByte] ++ List.replicate (8 * bytes.length + bits) false
    (s.port.state = .idle → ∀ (code tag n : Byte) (params : List Byte),
      bytes = code :: tag :: n :: params → n.toNat ≤ 60 → params.length = n.toNat →
      paramLength code.toNat = some n.toNat →
      exec c s = .next { s with
        port := { s.port with
          state := .executing
          command := some { code := code, tag := tag, params := params }
          miso := miso
          shift := .idle } }) ∧
    (s.port.state = .idle →
      (¬ ∃ (code tag n : Byte) (params : List Byte),
        bytes = code :: tag :: n :: params ∧ n.toNat ≤ 60 ∧ params.length = n.toNat ∧
          paramLength code.toNat = some n.toNat) →
      exec c s = .next { s with
        port := { s.port with
          state := .responseWaiting
          response := some
            { tag := (bytes[1]?).getD 0#8, code := (bytes[0]?).getD 0#8,
              reply := { result := .badFrame, data := [], names := none } }
          miso := miso
          shift := .idle } }) ∧
    (s.port.state ≠ .idle →
      exec c s = .next { s with
        port := { s.port with overrun := true, miso := miso, shift := .idle }
        mail.reports := s.mail.reports ++ [{ kind := .commandOverrun, ref := .absent }] })

/-- A FETCH returns the response in the buffer, or NONE (R196): a whole FETCH empties the buffer, clears
the overrun mark and leaves the port IDLE; one cut short keeps everything; with no response waiting it
clocks out NONE and keeps everything. The status byte opens it, and MISO carries as many bits as are clocked
(R192, R193); that a FETCH is taken whole, with
the status byte as it stands at that event and not when CS falls, and ends a STATUS that was still clocked, is
the model's choice, log entry 25. -/
def Obligations.FetchReturnsOrKeepsTheResponse : Prop :=
  ∀ (s : State) (n : Nat), s.power = .on → s.resetAsserted = false →
    let opened := fun out : List Bool => spiBits [s.statusByte] ++ out
    (∀ r : Response, s.port.state = .responseWaiting → s.port.response = some r →
      let out := spiBits ([r.tag, r.code, BitVec.ofNat 8 r.reply.result.code,
        BitVec.ofNat 8 r.reply.data.length] ++ r.reply.data)
      (8 * (r.reply.data.length + 4) ≤ n → exec (.fetch n) s = .next { s with
        port := { s.port with
          state := .idle
          response := none
          overrun := false
          miso := opened (out ++ List.replicate (n - out.length) false)
          shift := .idle } }) ∧
      (n < 8 * (r.reply.data.length + 4) → exec (.fetch n) s = .next { s with
        port := { s.port with miso := opened (out.take n), shift := .idle } })) ∧
    (s.port.state ≠ .responseWaiting → exec (.fetch n) s = .next { s with
      port := { s.port with
        miso := opened
          ((spiBits [0#8, 0#8, BitVec.ofNat 8 Result.nothing.code, 0#8] ++ List.replicate n false).take n)
        shift := .idle } })

/-- MOSI and MISO carry each byte most significant bit first (R192). The host's first byte selects the
transaction, and one of no whole byte is ignored (R192). A STATUS changes nothing: each of its bytes is the
status byte as it stands (R193), also where other events fall between two pieces of it; that it is taken in
pieces, and that whatever else ends it, is the model's choice, log entry 25. A transaction whose first byte
selects none of the three, or that is cut before eight bits, changes nothing either, and is answered with the
status byte and then 0x00 as far as it goes (R192). Until initialisation has completed every transaction is
ignored, and the part clocks out 0x03 and then 0x00, whether RESET is asserted or not (R199). Afterwards every
transaction is ignored while RESET is asserted and nothing is driven (R198), and nothing is driven without
supply. -/
def Obligations.StatusAndIgnoredTransactionsChangeNothing : Prop :=
  (∀ (b : Byte) (rest : List Byte), spiBits (b :: rest) =
    [b.getLsbD 7, b.getLsbD 6, b.getLsbD 5, b.getLsbD 4, b.getLsbD 3, b.getLsbD 2, b.getLsbD 1,
      b.getLsbD 0] ++ spiBits rest) ∧
  (∀ (b : Byte) (rest : List Byte) (cut : List Bool), cut.length < 8 →
    let sent := fun b : Byte => selectTransaction (spiBits (b :: rest) ++ cut)
    let k := cut.length
    selectTransaction cut = .ignoredTransaction { bytes := [], bits := k } ∧
    sent 0xC1#8 = .command { bytes := rest, bits := k } ∧
    sent 0xF0#8 = .fetch (8 * rest.length + k) ∧
    sent 0x5A#8 = .status { bytes := rest.length, bits := k, ends := true } ∧
    (b ≠ 0xC1#8 → b ≠ 0xF0#8 → b ≠ 0x5A#8 →
      sent b = .ignoredTransaction { bytes := b :: rest, bits := k })) ∧
  ∀ s : State,
    let clocks := fun (c : Instr) (out : List Bool) (x : Shift) =>
      exec c s = .next { s with port := { s.port with miso := out, shift := x } }
    let zeros := fun n => List.replicate n false
    let all := fun (n k : Nat) (b : Byte) => spiBits (List.replicate n b) ++ (spiBits [b]).take k
    let status := fun (n k : Nat) (out : List Bool) (x : Shift) =>
      clocks (.status { bytes := n, bits := k, ends := true }) out .idle ∧
        clocks (.status { bytes := n, bits := k, ends := false }) out x
    let ignored := fun b : Byte => ∀ (bytes : List Byte) (k : Nat),
      let n := 8 * bytes.length + k
      clocks (.ignoredTransaction { bytes := bytes, bits := k }) ((spiBits [b] ++ zeros n).take n) .idle
    (s.power = .on → s.resetAsserted = false →
      ignored s.statusByte ∧
      ∀ n k,
        (s.port.shift = .idle →
          status n k (spiBits [s.statusByte] ++ all n k s.statusByte) .status) ∧
        (s.port.shift = .status → status n k (s.port.miso ++ all n k s.statusByte) .status) ∧
        (s.port.shift = .zeros → status n k (s.port.miso ++ all n k 0#8) .zeros) ∧
        (s.port.shift = .silent → status n k s.port.miso .silent)) ∧
    (s.power = .initialising →
      ignored 0x03#8 ∧
      (∀ bytes k, clocks (.command { bytes := bytes, bits := k })
        (spiBits [0x03#8] ++ zeros (8 * bytes.length + k)) .idle) ∧
      (∀ n, clocks (.fetch n) (spiBits [0x03#8] ++ zeros n) .idle) ∧
      ∀ n k,
        (s.port.shift = .idle → status n k (spiBits [0x03#8] ++ all n k 0#8) .zeros) ∧
        (s.port.shift = .zeros → status n k (s.port.miso ++ all n k 0#8) .zeros)) ∧
    (s.power = .off ∨ s.power = .on ∧ s.resetAsserted = true →
      (∀ m, clocks (.command m) [] .idle) ∧
      (∀ n, clocks (.fetch n) [] .idle) ∧
      (∀ m, clocks (.ignoredTransaction m) [] .idle) ∧
      ∀ n k,
        (s.port.shift = .idle → status n k [] .silent) ∧
        (s.port.shift ≠ .idle → status n k s.port.miso s.port.shift))

/-- The status byte shows, bit by bit, the port state, the ATTN line, the overrun mark, a sweep in progress and
the field mode (R193), and 0x03 until initialisation has completed (R199). The ATTN line is asserted while
some cause is both pending and enabled (R189, R190). -/
def Obligations.StatusByteShowsThePort : Prop :=
  ∀ s : State,
    (s.power = .on →
      s.statusByte.getLsbD 7 = decide (s.port.state = .idle) ∧
      s.statusByte.getLsbD 6 = decide (s.port.state = .responseWaiting) ∧
      s.statusByte.getLsbD 5 = s.attnAsserted ∧
      s.statusByte.getLsbD 4 = s.port.overrun ∧
      s.statusByte.getLsbD 3 = s.sweeping ∧
      s.statusByte.getLsbD 2 = false ∧
      s.statusByte.getLsbD 1 = decide (s.line.mode = .hold) ∧
      s.statusByte.getLsbD 0 = decide (s.line.mode = .run)) ∧
    (s.power = .initialising → s.statusByte = 0x03#8) ∧
    (s.attnAsserted = true ↔
      ((s.faults.attend.first.isSome = true ∨ s.faults.stop.first.isSome = true) ∧
          s.port.mask.error = true) ∨
        (s.sweep.done = true ∧ s.port.mask.sweepDone = true) ∨
        (s.obk.marks ≠ [] ∧ s.port.mask.orderMarks = true) ∨
        ((∃ e ∈ s.accounts, e.2.mark = true) ∧ s.port.mask.accountMarks = true))

/-- The bytes of every well-formed request parse back to that request, at the parameter length that the
catalogue gives its code: no field of a request is dropped or moved (R197, section 11.4). The tries of a
PLACE are no field of it and stand as 96: the model's choice, log entry 14. -/
def Obligations.RequestBytesParseBack : Prop :=
  ∀ (c : Instr) (code : Nat) (bytes : List Byte),
    WellFormed c = true → requestBytes c = some (code, bytes) →
    paramLength code = some bytes.length ∧ bytes.length ≤ 60 ∧
      parseRequest code bytes = some (onPort c)

/-- A request that its owning block has been handed is taken: the response waits with the command's tag
and request code, and the port is RESPONSE_WAITING (R194). PLACE may go on searching and SOFT_RESET has no
response; they have statements of their own. A request that has not been handed over is not there to take:
the model's reading, log entry 3. -/
def Obligations.HandedRequestIsAnswered : Prop :=
  ∀ (c : Instr) (s : State),
    (s.handed c = true → c ≠ .softReset → (∀ p t d f o l n, c ≠ .place p t d f o l n) →
      ∃ t r f, exec c s = .next t ∧ s.port.command = some f ∧
        t.port = { s.port with
          state := .responseWaiting
          command := none
          response := some { tag := f.tag, code := f.code, reply := r }
          mask := t.port.mask } ∧
        ((∀ a b d e, c ≠ .attentionMask a b d e) → t.port.mask = s.port.mask)) ∧
    ((requestBytes c).isSome = true → s.handed (onPort c) = false → exec c s = .next s)

/-- A refused request leaves every record as it was and sets no change mark (R1, and every owning rule).
After a PLACE with one of the three on-conflict values is refused, no slide search goes on (R48; log entry 14);
with any other value none was begun. -/
def Obligations.RefusedRequestChangesNothing : Prop :=
  ∀ (c : Instr) (s t : State) (r : Response),
    s.handed (onPort c) = true → c ≠ .softReset → exec c s = .next t →
    t.port.response = some r → s.port.response = none → 16 ≤ r.reply.result.code →
    t = { s with port := t.port, obk.search := t.obk.search } ∧
      ((∀ p u d f o l n, c ≠ .place p u d f o l n) → t.obk.search = s.obk.search) ∧
      (∀ p u d f o l n, c = .place p u d f o l n → o ≤ 2 → t.obk.search = none)

/-! ### Tables, settings and queries (chapters 1 and 2) -/

/-- CLOCK_QUERY answers DONE with the district clock, the current slot, the minute within the slot and the
default supply, and changes nothing (R34). -/
def Obligations.ClockQueryAnswersTheClock : Prop :=
  ∀ s : State, s.handed .clockQuery = true →
    Completes .clockQuery s s (answer .done
      (be32 s.cal.clock ++ be32 s.cal.slot ++ be8 (s.cal.clock - 15 * s.cal.slot) ++
        be16 s.cal.defaultSupply))

/-- REACH_, POINT_, ACCOUNT_, TARIFF_, DISTRICT_, STATEMENT_, CAPACITY_, ORDER_, WAITLIST_, STANDING_,
STATION_, METER_ and ATTENTION_QUERY answer with the record as it stands and change nothing (R6, R12, R18,
R19, R20, R35, R59, R79, R86, R121, R133, R161, R191). A number out of range is refused, in the order of the
rule's checks. The coding of yes and no, and of set and clear, is log entry 12; what is answered of a reach
that is not configured, an UNUSED point, a VACANT account and an absent statement is log entry 27; that
NONE of a head mark and a meter state is coded 255 is log entry 11, the width of WAITLIST_QUERY's counts log
entry 44, the standing index byte of a HOST order log entry 46. -/
def Obligations.QueriesAnswerTheRecords : Prop :=
  (∀ s : State,
     (∀ n, s.handed (.reachQuery n) = true →
       Completes (.reachQuery n) s s
         (if 31 < n then refusal .badParam
         else match s.reach? n with
           | none => answer .done (yesNo false ++ opt8 none ++ be16 0 ++ be8 0 ++ opt16 none)
           | some v => answer .done
               (yesNo true ++ opt8 v.parent ++ be16 v.capacity ++ be8 v.lag ++ opt16 v.check ++
                 be8 (depthOf s.cal.reaches n) ++ padded 8 (pathOf s.cal.reaches n) ++
                 be8 (s.cal.reaches.filter (fun e => e.2.parent = some n)).length ++
                 be16 (s.points.filter (fun e => decide (e.2.reach = n))).length))) ∧
     (∀ n, s.handed (.pointQuery n) = true →
       Completes (.pointQuery n) s s
         (if 1023 < n then refusal .badParam
         else match s.point? n with
           | none => answer .done (be8 0)
           | some p => answer .done p.bytes)) ∧
     (∀ n part, s.handed (.accountQuery n part) = true →
       Completes (.accountQuery n part) s s
         (if 767 < n ∨ 1 < part then refusal .badParam
         else match s.account? n with
           | none => answer .done (be8 0)
           | some a => answer .done (if part = 0 then a.recordBytes else a.periodBytes))) ∧
     (∀ c, s.handed (.tariffQuery c) = true →
       Completes (.tariffQuery c) s s
         (if 7 < c then refusal .badParam
         else answer .done
           (be16 (s.tariff c).b1 ++ be16 (s.tariff c).b2 ++ be16 (s.tariff c).b3 ++
             be16 (s.tariff c).r0 ++ be16 (s.tariff c).r1 ++ be16 (s.tariff c).r2 ++
             be16 (s.tariff c).r3 ++ be16 (s.tariff c).unordered ++ be16 (s.tariff c).frost))) ∧
     (s.handed .districtQuery = true →
       Completes .districtQuery s s (answer .done
         (be8 s.settings.lead ++ be16 s.cal.defaultSupply ++ be16 s.settings.bitRate ++
           be16 s.settings.timeout ++ be16 s.settings.pollInterval))) ∧
     (∀ n, s.handed (.statementQuery n) = true →
       Completes (.statementQuery n) s s
         (if 767 < n then refusal .badParam
         else match s.account? n with
           | none => answer .done (be8 0 ++ be16 0 ++ Statement.bytes none)
           | some a => answer .done
               (be8 (AccountState.code (some a.state)) ++ be16 a.period ++ Statement.bytes a.statement)))) ∧
  (∀ s : State,
     (∀ r first count, s.handed (.capacityQuery r first count) = true →
       Completes (.capacityQuery r first count) s s
         (if 31 < r ∨ count < 1 ∨ 7 < count then refusal .badParam
         else if s.reach? r = none then refusal .noSuchReach
         else if first < s.cal.slot ∨ s.cal.slot + 671 < first + count - 1 then refusal .beyondHorizon
         else answer .done
           (be8 r ++ be32 first ++ be8 count ++
             (List.range' first count).flatMap (fun t =>
               be16 (s.cal.committedIn r t) ++ be16 (s.cal.capacityIn r t) ++ be16 (s.cal.supplyIn t) ++
                 be8 (s.cal.headMark t).code)))) ∧
     (∀ h, s.handed (.orderQuery h) = true →
       Completes (.orderQuery h) s s
         (match s.obk.named? h with
           | none => refusal .noSuchOrder
           | some e => answer .done (e.2.bytes h))) ∧
     (∀ k, s.handed (.waitlistQuery k) = true →
       Completes (.waitlistQuery k) s s
         (if 95 < k then refusal .badParam
         else
           let shown := (s.obk.waiting.drop k).take 4
           answer .done
             (be8 s.obk.waiting.length ++ be8 k ++ be8 shown.length ++
               shown.flatMap s.obk.entryBytes))) ∧
     (∀ x, s.handed (.standingQuery x) = true →
       Completes (.standingQuery x) s s
         (if 191 < x then refusal .badParam
         else answer .done (Template.bytes (cell? s.obk.templates x)))) ∧
     (∀ a, s.handed (.stationQuery a) = true →
       Completes (.stationQuery a) s s
         (if 127 < a then refusal .badParam
         else answer .done
           (be8 s.line.mode.code ++ (s.station a).bytes s.cal.clock ++
             (List.range 8).flatMap (fun c => channelBytes (s.point? (a * 8 + c)))))) ∧
     (∀ n, s.handed (.meterQuery n) = true →
       Completes (.meterQuery n) s s
         (if 1023 < n then refusal .badParam
         else match s.point? n with
           | none => answer .done (be8 0)
           | some p => answer .done
               (be8 p.meter.state.code ++ be32 p.meter.baseline ++ be16 p.meter.residual ++
                 be32 p.meter.lastMinute ++ be32 (s.cal.clock - p.meter.lastMinute) ++
                 be8 p.meter.suspects ++ be32 p.meter.seasonMetered ++ be32 p.meter.seasonEstimated ++
                 p.active.bytes ++ Calibration.optBytes p.staged))) ∧
     (s.handed .attentionQuery = true →
       Completes .attentionQuery s s (answer .done (s.causeBytes ++ s.port.mask.bytes ++ yesNo s.attnAsserted))))

/-- DISTRICT_SET stores the five settings, each clamped, and answers with them as stored (R20). TARIFF_SET
gives a class its nine values at once (R19). Neither changes anything else. -/
def Obligations.DistrictAndTariffSetStoreTheirValues : Prop :=
  ∀ s : State,
    (∀ lead supply rate timeout poll,
      s.handed (.districtSet lead supply rate timeout poll) = true →
      let lead' := min 96 lead
      let supply' := min 60000 supply
      let rate' := if rate < 19200 then 9600 else if rate < 38400 then 19200
        else if rate < 57600 then 38400 else 57600
      let timeout' := max 2 (min 250 timeout)
      let poll' := max 5 (min 600 poll)
      Completes (.districtSet lead supply rate timeout poll) s
        { s with
          cal.defaultSupply := supply'
          settings := { lead := lead', bitRate := rate', timeout := timeout', pollInterval := poll' } }
        (answer .done (be8 lead' ++ be16 supply' ++ be16 rate' ++ be16 timeout' ++ be16 poll'))) ∧
    (∀ c b1 b2 b3 r0 r1 r2 r3 u f,
      s.handed (.tariffSet c b1 b2 b3 r0 r1 r2 r3 u f) = true →
      let fits := c ≤ 7 ∧ 1 ≤ b1 ∧ b1 < b2 ∧ b2 < b3 ∧ b3 ≤ 30000
      (¬fits → Refuses (.tariffSet c b1 b2 b3 r0 r1 r2 r3 u f) s .badParam) ∧
      (fits → ∃ ts, Completes (.tariffSet c b1 b2 b3 r0 r1 r2 r3 u f) s { s with tariffs := ts } doneReply ∧
        ∀ k, valueAt Tariff.powerOn ts k =
          if k = c then
            { b1 := b1, b2 := b2, b3 := b3, r0 := r0, r1 := r1, r2 := r2, r3 := r3, unordered := u,
              frost := f }
          else s.tariff k))

/-- A rising MINUTE edge advances the clock by one minute, and leaves it at its top (R21). When the clock
becomes a multiple of 15, slot t − 1 leaves the rings, slot t + 671 enters them, and the boundary is
presented to the four blocks (R22). Nothing else changes. That a part without supply takes no edge, and that
one that initialises does, is log entry 26. -/
def Obligations.MinuteEdgeAdvancesTheClock : Prop :=
  ∀ s : State,
    (s.power = .off → exec .minuteEdge s = .next s) ∧
    (s.power ≠ .off → 4294967295 ≤ s.cal.clock → exec .minuteEdge s = .next s) ∧
    (s.power ≠ .off → s.cal.clock < 4294967295 → (s.cal.clock + 1) % 15 ≠ 0 →
      exec .minuteEdge s = .next { s with cal.clock := s.cal.clock + 1 }) ∧
    (s.power ≠ .off → s.cal.clock < 4294967295 → (s.cal.clock + 1) % 15 = 0 →
      let t := (s.cal.clock + 1) / 15
      ∃ committed supply heads,
        let c : Calendar :=
          { s.cal with clock := s.cal.clock + 1, committed := committed, supply := supply,
                       heads := heads }
        exec .minuteEdge s = .next { s with
          cal := c
          mail := { s.mail with
            orderBook := s.mail.orderBook ++ [t]
            release := s.mail.release ++ [t]
            meter := s.mail.meter ++ [t]
            sweep := s.mail.sweep ++ [t] } } ∧
        (∀ r u, r < 32 →
          c.committedIn r u = if u = t - 1 ∨ u = t + 671 then 0 else s.cal.committedIn r u) ∧
        (∀ u, c.supplyIn u =
          if u = t + 671 then s.cal.defaultSupply else if u = t - 1 then 0 else s.cal.supplyIn u) ∧
        (∀ u, c.headMark u = if u = t - 1 ∨ u = t + 671 then .unmarked else s.cal.headMark u))

/-- SUPPLY_SET refuses a count or flow out of range, a run outside the horizon, and any run while a sweep is
in progress, in that order. Otherwise every slot of the run takes the supply and the head mark that the
comparison with the head committed flow gives. With no slot over the answer is DONE, else the supply bump
sweep starts at the first slot and the answer is ACCEPTED (its layout is log entry 13). A head capacity that
rose starts a re-examination (R25, R26, R36). -/
def Obligations.SupplySetWritesTheRun : Prop :=
  ∀ (s : State) (first count flow : Nat), s.handed (.supplySet first count flow) = true →
    let c := Instr.supplySet first count flow
    let bad := count < 1 ∨ 672 < count ∨ 60000 < flow
    let outside := first < s.cal.slot ∨ s.cal.slot + 671 < first + count - 1
    (bad → Refuses c s .badParam) ∧
    (¬bad → outside → Refuses c s .beyondHorizon) ∧
    (¬bad → ¬outside → s.sweeping = true → Refuses c s .busySweep) ∧
    (¬bad → ¬outside → s.sweeping = false →
      ∃ supply heads,
        let k : Calendar := { s.cal with supply := supply, heads := heads }
        let written := fun t => first ≤ t ∧ t < first + count
        let overfull := fun t => decide (k.capacityIn 0 t < k.committedIn 0 t)
        let n := ((List.range' first count).filter overfull).length
        let raised := ∃ t, written t ∧ s.cal.capacityIn 0 t < k.capacityIn 0 t
        let run := Scope.run first count
        let w : Sweep :=
          { kind := .supplyBump, requested := run, actual := run, share := none, drain := none,
            cursor := first, counts := .zero, state := .inProgress }
        let s1 : State :=
          if n = 0 then { s with cal := k }
          else { s with cal := k, sweep := { status := some w, done := false } }
        let r := if n = 0 then answer .done (be16 count)
          else answer .accepted (be8 1 ++ run.bytes ++ run.bytes ++ be16 count ++ be16 n)
        (∀ t, k.supplyIn t = if first ≤ t ∧ t < first + count then flow else s.cal.supplyIn t) ∧
        (∀ t, k.headMark t =
          if first ≤ t ∧ t < first + count then (if overfull t then .bumpPending else .unmarked)
          else s.cal.headMark t) ∧
        (raised → Completes c s s1.startReexamination.arbitrate r) ∧
        (¬raised → Completes c s s1 r))

/-- RESERVE of window [a, b) and flow f on reach r answers BEYOND_HORIZON when the window in reach r runs past
the horizon; CAPACITY_SHORT with the first reach, head first, and its first slot, that the flow would take
past its capacity; else pass, with the flow added to every slot of the lag-shifted windows within horizon
and to nothing else (R27, R29). RELEASE subtracts it from every such slot that lies at or after the floor,
and from nothing else (R30). EXCHANGE is one operation: the new window and flow are tested as RESERVE tests
them, with the order's own old flow not counted; on pass the old flow is gone from its window and the new one
stands in its own; an answer other than pass holds no ring, so the ring stays as it was (R31). A lower flow, or an
earlier end without a raised flow, is not tested where the old window stood, and so cannot fail on capacity within
it (R36); that it is tested in the slots it adds is log entry 34. A ring that a reservation or a release has changed
takes its place in the state, and every check point in AUTO of a reach whose committed flow in the current slot
changed takes its target anew (R32, R93, R94); nothing else changes. That a target is computed once, from the
ring as the whole operation left it, is log entry 31. -/
def Obligations.ReserveAddsAndReleaseSubtractsTheWindow : Prop :=
  (∀ (c : Calendar) (r a b f g : Nat), treeSound c.reaches → r < 32 →
    let path := pathOf c.reaches r
    let shift := fun j => lagOf c.reaches r - lagOf c.reaches j
    let covers := fun j t =>
      j ∈ path ∧ c.slot ≤ t ∧ t < c.slot + 672 ∧ a ≤ t + shift j ∧ t + shift j < b
    let overfull := fun j t => c.capacityIn j t < c.committedIn j t + f
    let beyond := a < b ∧ c.slot + 672 < b
    (beyond → c.reserve r a b f = .beyond) ∧
    (¬beyond → ∀ j t, covers j t → overfull j t →
      (∀ t', t' < t → covers j t' → ¬overfull j t') →
      (∀ j' t', path.idxOf j' < path.idxOf j → covers j' t' → ¬overfull j' t') →
      c.reserve r a b f = .short j t) ∧
    (¬beyond → (∀ j t, covers j t → ¬overfull j t) →
      ∃ m, c.reserve r a b f = .pass { c with committed := m } ∧
        ∀ j t, j < 32 → (covers j t →
            ({ c with committed := m } : Calendar).committedIn j t = c.committedIn j t + f) ∧
          (¬covers j t → ({ c with committed := m } : Calendar).committedIn j t = c.committedIn j t)) ∧
    (∃ m, c.release r a b f g = { c with committed := m } ∧
      ∀ j t, j < 32 → (covers j t → g ≤ t →
          ({ c with committed := m } : Calendar).committedIn j t = c.committedIn j t - f) ∧
        (¬(covers j t ∧ g ≤ t) →
          ({ c with committed := m } : Calendar).committedIn j t = c.committedIn j t)) ∧
    -- EXCHANGE of this window and flow for [a', b') and f'
    ∀ a' b' f' : Nat,
      let covers' := fun j t =>
        j ∈ path ∧ c.slot ≤ t ∧ t < c.slot + 672 ∧ a' ≤ t + shift j ∧ t + shift j < b'
      let eased := f' < f ∨ f' = f ∧ b' < b
      let overfull' := fun j t =>
        (covers j t → ¬eased ∧ c.capacityIn j t < c.committedIn j t - f + f') ∧
          (¬covers j t → c.capacityIn j t < c.committedIn j t + f')
      let beyond' := a' < b' ∧ c.slot + 672 < b'
      (beyond' → c.exchange r a b f a' b' f' = .beyond) ∧
      (¬beyond' → ∀ j t, covers' j t → overfull' j t →
        (∀ t', t' < t → covers' j t' → ¬overfull' j t') →
        (∀ j' t', path.idxOf j' < path.idxOf j → covers' j' t' → ¬overfull' j' t') →
        c.exchange r a b f a' b' f' = .short j t) ∧
      (¬beyond' → eased → a ≤ a' → b' ≤ b → ∃ k, c.exchange r a b f a' b' f' = .pass k) ∧
      (¬beyond' → (∀ j t, covers' j t → ¬overfull' j t) →
        ∃ m, c.exchange r a b f a' b' f' = .pass { c with committed := m } ∧
          ∀ j t, j < 32 →
            let left := ({ c with committed := m } : Calendar).committedIn j t
            (covers j t → covers' j t → left = c.committedIn j t - f + f') ∧
            (covers j t → ¬covers' j t → left = c.committedIn j t - f) ∧
            (¬covers j t → covers' j t → left = c.committedIn j t + f') ∧
            (¬covers j t → ¬covers' j t → left = c.committedIn j t))) ∧
  -- the check targets after an operation on the ring
  ∀ (s : State) (m : Table Nat), risingKeys s.points = true →
    let k : Calendar := { s.cal with committed := m }
    let t := s.withRing k
    t = { s with cal := k, points := t.points, mail.reports := t.mail.reports } ∧
    (∀ n, s.point? n = none → t.point? n = none) ∧
    ∀ n p, s.point? n = some p →
      let told := p.kind = .check ∧ p.mode = .auto ∧ ∃ r v, s.reach? r = some v ∧ v.check = some n ∧
        s.cal.committedIn r s.cal.slot ≠ k.committedIn r s.cal.slot
      let demand := k.committedIn p.reach s.cal.slot + s.extraLoad p.reach
      (¬told → t.point? n = some p) ∧
      (told → (∃ q, t.point? n = some q ∧ q.target = min demand p.rated ∧
          q.overload = decide (p.rated < demand)) ∧
        (p.rated < demand → p.overload = false →
          { kind := .reachOverload, ref := .number p.reach } ∈ t.mail.reports))

/-- REACH_SET. CONFIGURE makes the checks of R3 in their order, then those of R4; a passing one gives the
record its parent, capacity and lag and keeps its check point, a parent that changed recomputes the frost
extra loads (R105), a capacity that rose starts a re-examination. UNCONFIGURE refuses a reach with a child
or a point (R5). An action that is neither is refused BAD_PARAM: the model's choice, log entry 15. -/
def Obligations.ReachSetChecksThenWrites : Prop :=
  ∀ (s : State) (act r : Nat) (parent : Option Nat) (cap lag : Nat),
    s.handed (.reachSet act r parent cap lag) = true → risingKeys s.cal.committed = true →
    let c := Instr.reachSet act r parent cap lag
    let rs := s.cal.reaches
    let badRange := 31 < r ∨ 60000 < cap ∨ 48 < lag ∨ (r = 0 ∧ (parent.isSome = true ∨ lag ≠ 0)) ∨
      (r ≠ 0 ∧ ∀ p, parent = some p → r ≤ p)
    let noParent := ∃ p, parent = some p ∧ s.reach? p = none
    let badShape := (∃ p, parent = some p ∧ (lag < lagOf rs p ∨ 8 < depthOf rs p + heightOf rs r)) ∨
      ∃ e ∈ rs, e.2.parent = some r ∧ e.2.lag < lag
    let inUse := fun old : Reach =>
      ((parent ≠ old.parent ∨ lag ≠ old.lag) ∧
        ∃ e ∈ s.obk.orders, e.2.live = true ∧ r ∈ pathOf rs (s.reachOf e.2)) ∨
      ∃ t, s.cal.slot ≤ t ∧ t < s.cal.slot + 672 ∧ cap < s.cal.committedIn r t
    (act = 0 → badRange → Refuses c s .badParam) ∧
    (act = 0 → ¬badRange → noParent → Refuses c s .noSuchReach) ∧
    (act = 0 → ¬badRange → ¬noParent → badShape → Refuses c s .badParam) ∧
    (act = 0 → ¬badRange → ¬noParent → ¬badShape → s.reach? r = none →
      ∃ s1 : State, Completes c s s1 doneReply ∧ s1 = { s with cal.reaches := s1.cal.reaches } ∧
        ∀ k, s1.reach? k =
          if k = r then some { parent := parent, capacity := cap, lag := lag, check := none }
          else s.reach? k) ∧
    (act = 0 → ¬badRange → ¬noParent → ¬badShape → ∀ old, s.reach? r = some old →
      (inUse old → Refuses c s .inUse) ∧
      (¬inUse old →
        ∃ s1 : State, s1 = { s with cal.reaches := s1.cal.reaches } ∧
          (∀ k, s1.reach? k =
            if k = r then some { old with parent := parent, capacity := cap, lag := lag }
            else s.reach? k) ∧
          (let s2 := if parent = old.parent then s1
            else s1.refreshFrost (s1.cal.reaches.map (fun e => e.1))
          let s3 := if old.capacity < cap then s2.startReexamination else s2
          Completes c s s3.arbitrate doneReply))) ∧
    (act = 1 → 31 < r → Refuses c s .badParam) ∧
    (act = 1 → r ≤ 31 → s.reach? r = none → Refuses c s .noSuchReach) ∧
    (act = 1 → r ≤ 31 → s.reach? r ≠ none →
      let used := (∃ e ∈ rs, e.2.parent = some r) ∨ ∃ e ∈ s.points, e.2.reach = r
      (used → Refuses c s .inUse) ∧
      (¬used → ∃ s1 : State, Completes c s s1 doneReply ∧ s1 = { s with cal.reaches := s1.cal.reaches } ∧
        ∀ k, s1.reach? k = if k = r then none else s.reach? k)) ∧
    (1 < act → Refuses c s .badParam)

/-- POINT_SET refuses by the checks of R8 in their order, and then changes nothing. With kind UNUSED on a
point that is UNUSED it changes nothing and answers DONE; on another it removes the point: every field is
lost, a check point field becomes absent, a SET in flight is marked so that its reply is discarded, and a
station without points leaves the rotation, with the values of R106 and its last reply kept (R7, R9, R10,
R115). What was handed over for the point and not yet taken is lost with it: the model's choice, log entry 2.
That a reach or an account above its highest number is refused with the ranges of check 1 is log entry 33. -/
def Obligations.PointSetChecksAndRemoves : Prop :=
  ∀ (s : State) (n kind reach account rated frost mantissa shift : Nat),
    s.handed (.pointSet n kind reach account rated frost mantissa shift) = true →
    let c := Instr.pointSet n kind reach account rated frost mantissa shift
    let badRange := 1023 < n ∨ 2 < kind ∨
      (kind = 1 ∧ (31 < reach ∨ 767 < account ∨ rated < 1 ∨ 2000 < rated ∨ 2000 < frost ∨
        65535 < mantissa ∨ 15 < shift)) ∨
      (kind = 2 ∧ (31 < reach ∨ rated < 1 ∨ 60000 < rated ∨ 0 < frost ∨ 0 < mantissa ∨ 0 < shift))
    let live := ∃ e ∈ s.obk.orders, e.2.point = n ∧ e.2.live = true
    (badRange → Refuses c s .badParam) ∧
    (¬badRange → kind = 0 → s.point? n = none → Completes c s s doneReply) ∧
    (¬badRange → kind = 0 → ∀ p, s.point? n = some p →
      (p.mode ≠ .disabled → Refuses c s .wrongState) ∧
      (p.mode = .disabled → live → Refuses c s .inUse) ∧
      (p.mode = .disabled → ¬live →
        ∃ s1 : State, Completes c s s1.arbitrate doneReply ∧
          s1 = { s with
            points := s1.points, cal.reaches := s1.cal.reaches, line := s1.line,
            mail := { s.mail with
              notices := s.mail.notices.filter (fun x => x.point != n)
              gates := s.mail.gates.filter (fun x => x.point != n)
              readings := s.mail.readings.filter (fun x => x.point != n)
              applied := s.mail.applied.filter (fun x => x.point != n) } } ∧
          (∀ m, s1.point? m = if m = n then none else s.point? m) ∧
          (∀ k, s1.reach? k = (s.reach? k).map (fun v =>
            if p.kind = .check ∧ k = p.reach then { v with check := none } else v)) ∧
          (∀ a, a ≠ n / 8 → s1.station a = s.station a) ∧
          s1.line.mode = s.line.mode ∧ s1.line.rotation = s.line.rotation ∧
          s1.line.transaction = s.line.transaction.map (fun t =>
            match t.job with
            | .set q v _ => if q = n then { t with job := .set q v true } else t
            | .poll _ => t) ∧
          ((∀ e ∈ s1.points, e.1 / 8 ≠ n / 8) → (s.station (n / 8)).polled = true →
            s1.station (n / 8) =
              { s.station (n / 8) with
                polled := false, state := .responding, failures := 0, silentSince := none
                interval := 0, due := false }) ∧
          ((∃ e ∈ s1.points, e.1 / 8 = n / 8) → (s.station (n / 8)).polled = true →
            s1.station (n / 8) = s.station (n / 8)) ∧
          ((∀ e ∈ s1.points, e.1 / 8 ≠ n / 8) → (s1.station (n / 8)).polled = false))) ∧
    (¬badRange → 0 < kind → s.reach? reach = none → Refuses c s .noSuchReach) ∧
    (¬badRange → kind = 1 → s.reach? reach ≠ none → s.account? account = none →
      Refuses c s .noSuchAccount) ∧
    (¬badRange → kind = 1 → s.reach? reach ≠ none → ∀ a, s.account? account = some a →
      a.state = .closed → Refuses c s .accountNotOpen) ∧
    (¬badRange → 0 < kind → ∀ v, s.reach? reach = some v →
      (kind = 1 → ∃ a, s.account? account = some a ∧ a.state ≠ .closed) →
      (s.point? n = none → kind = 2 → v.check.isSome = true → Refuses c s .inUse) ∧
      (∀ p, s.point? n = some p →
        let moves := p.kind ≠ (if kind = 1 then .turnout else .check) ∨ p.reach ≠ reach ∨
          p.account ≠ (if kind = 1 then some account else none)
        (moves → p.mode ≠ .disabled → Refuses c s .wrongState) ∧
        (moves → p.mode = .disabled → live → Refuses c s .inUse) ∧
        (¬(moves ∧ (p.mode ≠ .disabled ∨ live)) → kind = 1 →
          (∃ e ∈ s.obk.orders, e.2.point = n ∧ e.2.live = true ∧ rated < e.2.flow) →
            Refuses c s .inUse) ∧
        (¬(moves ∧ (p.mode ≠ .disabled ∨ live)) → kind = 2 → (∃ m, v.check = some m ∧ m ≠ n) →
          Refuses c s .inUse)))

/-- POINT_SET that passes every check. From UNUSED, or to another kind, the point is created with the values
of R7, the check point fields follow (R10), and its station is in the rotation. A TURNOUT that stays one
takes the request's fields, its calibration by its mode (R11); in AUTO with its frost flag set a changed
frost rate recomputes its target and the frost extra loads (R9). A CHECK that stays one takes its reach and
rated flow; a changed rated flow recomputes its target. The answer is DONE. That a change of kind keeps a SET
on the line and what is handed over for the point is the model's choice, log entries 16 and 42. -/
def Obligations.PointSetCreatesOrUpdates : Prop :=
  ∀ (s : State) (n kind reach account rated frost mantissa shift : Nat) (k : PointKind)
    (owner : Option Nat) (cal : Calibration),
    s.handed (.pointSet n kind reach account rated frost mantissa shift) = true →
    badPointRange n kind reach account rated frost mantissa shift = false →
    (kind = 1 ∧ k = .turnout ∧ owner = some account ∨ kind = 2 ∧ k = .check ∧ owner = none) →
    cal = { mantissa := mantissa, shift := shift } → s.pointRefused n k reach owner rated = none →
    let c := Instr.pointSet n kind reach account rated frost mantissa shift
    let meterState := if mantissa = 0 then MeterState.meterless else .rebase
    ((∀ p, s.point? n = some p → p.kind ≠ k) →
      ∃ s1 : State, Completes c s s1.arbitrate doneReply ∧
        s1 = { s with
          points := s1.points, cal.reaches := s1.cal.reaches, line.stations := s1.line.stations } ∧
        (∀ m, s1.point? m = if m = n then some
            { kind := k, reach := reach, account := owner, rated := rated, frostRate := frost,
              mode := .disabled, switch := .remote, latch := false, target := 0, scheduled := none,
              backup := none, closeOwed := false, overload := false, position := 0,
              gateFault := false, active := cal, staged := none,
              field := { acknowledged := 0, inFlight := none, declined := none, sendPending := false,
                         resendOwed := false, unconfirmed := false }
              meter := { state := meterState, baseline := 0, residual := 0, lastMinute := s.cal.clock,
                         suspects := 0, seasonMetered := 0, seasonEstimated := 0 } }
          else s.point? m) ∧
        (∀ j, s1.reach? j = (s.reach? j).map (fun v =>
          if k = .check ∧ j = reach then { v with check := some n }
          else if ∃ p, s.point? n = some p ∧ p.kind = .check ∧ p.reach = j then { v with check := none }
          else v)) ∧
        (s1.station (n / 8)).polled = true ∧
        ((s.station (n / 8)).polled = true → s1.station (n / 8) = s.station (n / 8)) ∧
        ((s.station (n / 8)).polled = false → s1.station (n / 8) =
          { s.station (n / 8) with
            polled := true, state := .responding, failures := 0, silentSince := none, interval := 0,
            due := true }) ∧
        ∀ a, a ≠ n / 8 → s1.station a = s.station a) ∧
    (∀ p, s.point? n = some p → p.kind = .turnout → k = .turnout →
      let moved : Point := { p with reach := reach, account := owner, rated := rated, frostRate := frost }
      let q : Point :=
        if p.mode = .disabled then
          { moved with
            active := cal, staged := none
            meter := { p.meter with state := meterState, residual := 0, suspects := 0 } }
        else { moved with staged := if cal = p.active then none else some cal }
      let s1 := s.setPoint n q
      let s2 := if p.mode = .auto ∧ p.backup.isSome = true ∧ frost ≠ p.frostRate then
        (s1.retarget n).refreshPath reach else s1
      Completes c s s2.arbitrate doneReply) ∧
    (∀ p, s.point? n = some p → p.kind = .check → k = .check →
      ∃ s1 : State,
        s1 = { s with points := s1.points, cal.reaches := s1.cal.reaches } ∧
        (∀ m, s1.point? m = if m = n then some
            { p with reach := reach, account := owner, rated := rated, frostRate := frost }
          else s.point? m) ∧
        (∀ j, s1.reach? j = (s.reach? j).map (fun v =>
          if j = reach then { v with check := some n } else if j = p.reach then { v with check := none }
          else v)) ∧
        Completes c s (if rated = p.rated then s1 else s1.recheck n).arbitrate doneReply)

/-! ### Water orders and standing orders (chapters 3 and 4) -/

/-- PLACE makes the checks of R45 and check 4 of R46 in their order; the first that fails gives the refusal
and nothing changes. Past them, a PLACE that fails a later check and may neither slide nor queue is refused
with that check's code: OVERLAP when a live order of the point overlaps the window, with the handle of the
earliest such order of the point chain (R44, R50), then ALLOCATION_SHORT
when the account's available volume is below the order's, then CAPACITY_SHORT with the reach and the slot
that RESERVE names (R46, R50). -/
def Obligations.PlaceRefusesByItsChecks : Prop :=
  ∀ (s : State) (n start d flow conflict limit tries : Nat),
    s.handed (.place n start d flow conflict limit 96) = true → s.obk.search = none →
    let c := Instr.place n start d flow conflict limit tries
    let badParam := 1023 < n ∨ d < 1 ∨ 192 < d ∨ flow < 1 ∨ 2000 < flow ∨ 2 < conflict ∨
      (conflict = 1 ∧ (limit < 1 ∨ 96 < limit)) ∨
      ∃ p, s.point? n = some p ∧ p.kind = .turnout ∧ p.rated < flow
    (badParam → Refuses c s .badParam) ∧
    (¬badParam → (∀ p, s.point? n = some p → p.kind ≠ .turnout) → Refuses c s .noSuchPoint) ∧
    (¬badParam → ∀ p, s.point? n = some p → p.kind = .turnout →
      let reach := p.reach
      let opened := ∃ i a, p.account = some i ∧ s.account? i = some a ∧ a.state = .opened
      let room := (∃ i, i < 2048 ∧ cell? s.obk.orders i = none) ∧ s.obk.sequence < 4294967295
      let lag := lagOf s.cal.reaches reach
      (¬opened → Refuses c s .accountNotOpen) ∧
      (opened → ¬room → Refuses c s .tableFull) ∧
      (room → ∀ i a, p.account = some i → s.account? i = some a → a.state = .opened →
        let soon := start < lag + s.obk.slot + 1 + s.settings.lead
        let far := s.obk.slot + 672 < start + d
        let overlap := ∃ e ∈ s.obk.orders, e.2.point = n ∧ e.2.live = true ∧
          max start e.2.start < min (start + d) e.2.deliveryEnd
        let short := a.available < ((flow * 900 * d : Nat) : Int)
        (24 ≤ a.live → Refuses c s .accountOrderLimit) ∧
        (a.live < 24 → soon → Refuses c s .tooSoon) ∧
        (a.live < 24 → ¬soon → far → Refuses c s .beyondHorizon) ∧
        (a.live < 24 → ¬soon → ¬far → overlap → conflict ≠ 1 →
          ∃ e ∈ s.obk.orders, e.2.point = n ∧ e.2.live = true ∧
            max start e.2.start < min (start + d) e.2.deliveryEnd ∧
            (∀ x ∈ s.obk.orders, x.2.point = n → x.2.live = true →
              max start x.2.start < min (start + d) x.2.deliveryEnd →
              e.2.start < x.2.start ∨ e.2.start = x.2.start ∧ e.2.sequence ≤ x.2.sequence) ∧
            Completes c s s (answer .overlap (be16 (s.obk.handle e.1)))) ∧
        (a.live < 24 → ¬soon → ¬far → ¬overlap → short → Refuses c s .allocationShort) ∧
        (a.live < 24 → ¬soon → ¬far → overlap → short → conflict = 1 →
          Refuses c s .allocationShort) ∧
        (∀ j t, a.live < 24 → ¬soon → ¬far → ¬overlap → ¬short → conflict = 0 →
          s.cal.reserve reach start (start + d) flow = .short j t →
          Completes c s s (answer .capacityShort (be8 j ++ be32 t)))))

/-- A PLACE whose seven checks pass is admitted (R47): the free entry with the lowest table index holds
the new order, CONFIRMED, with the next placement sequence; the calendar holds the reservation; the
account's reserved outstanding grows by the ordered volume and its live order count by one; the answer is
DONE with the order's figures (R50). No change mark is set, and no other order or account changes. A PLACE
with QUEUE that fails check 7 goes on the waiting list at its tail, while the list has room: the free
entry with the lowest table index holds it, PENDING_WAIT, with the next placement sequence; no capacity
and no allocation is held, and the live order count grows by one. The answer is QUEUED. A full list
refuses it WAITLIST_FULL (R49, R50, R73). -/
def Obligations.PlaceAdmitsOrQueuesTheOrder : Prop :=
  (∀ (s : State) (n start d flow conflict limit tries : Nat) (p : Point) (acct : Nat) (a : Account)
     (k : OnConflict) (ring : Calendar),
     s.handed (.place n start d flow conflict limit 96) = true → s.obk.search = none →
     n ≤ 1023 → 1 ≤ d → d ≤ 192 → 1 ≤ flow → flow ≤ 2000 →
     (conflict = 0 ∧ k = .refuse ∨ conflict = 1 ∧ k = .slide ∧ 1 ≤ limit ∧ limit ≤ 96 ∨
       conflict = 2 ∧ k = .queue) →
     s.point? n = some p → p.kind = .turnout → flow ≤ p.rated → p.account = some acct →
     s.account? acct = some a → a.state = .opened → a.live < 24 →
     (∃ i, i < 2048 ∧ cell? s.obk.orders i = none) → s.obk.sequence < 4294967295 →
     lagOf s.cal.reaches p.reach + s.obk.slot + 1 + s.settings.lead ≤ start →
     start + d ≤ s.obk.slot + 672 →
     (∀ e ∈ s.obk.orders, e.2.point = n → e.2.live = true →
       min (start + d) e.2.deliveryEnd ≤ max start e.2.start) →
     ((flow * 900 * d : Nat) : Int) ≤ a.available →
     s.cal.reserve p.reach start (start + d) flow = .pass ring →
     ∃ (i : Nat) (orders : Table Order) (accounts : Table Account),
       i < 2048 ∧ cell? s.obk.orders i = none ∧ (∀ j, j < i → cell? s.obk.orders j ≠ none) ∧
       (∀ j, cell? orders j = if j = i then some
           { account := acct, point := n, start := start, duration := d, flow := flow, conflict := k,
             origin := .host, sequence := s.obk.sequence + 1, state := .confirmed,
             suspendReason := none, cut := none, ordered := flow * 900 * d, delivered := 0,
             estimated := 0, tail := 0, slidBy := 0, closeReason := none }
         else cell? s.obk.orders j) ∧
       (∀ m, cell? accounts m =
         if m = acct then
           some { a with reserved := a.reserved + flow * 900 * d, live := a.live + 1 }
         else s.account? m) ∧
       (let h := s.obk.generation i * 2048 + i
       Completes (.place n start d flow conflict limit tries) s
         ({ s.withRing ring with
             obk := { s.obk with orders := orders, sequence := s.obk.sequence + 1 }
             accounts := accounts } : State).arbitrate
         { result := .done
           data := be16 h ++ be32 start ++ be8 0 ++ be32 (flow * 900 * d) ++ be32 (s.obk.sequence + 1)
           names := some h })) ∧
  (∀ (s : State) (n start d flow limit tries : Nat) (p : Point) (acct : Nat) (a : Account) (j t : Nat),
     s.handed (.place n start d flow 2 limit 96) = true → s.obk.search = none →
     n ≤ 1023 → 1 ≤ d → d ≤ 192 → 1 ≤ flow → flow ≤ 2000 →
     s.point? n = some p → p.kind = .turnout → flow ≤ p.rated → p.account = some acct →
     s.account? acct = some a → a.state = .opened → a.live < 24 →
     (∃ i, i < 2048 ∧ cell? s.obk.orders i = none) → s.obk.sequence < 4294967295 →
     lagOf s.cal.reaches p.reach + s.obk.slot + 1 + s.settings.lead ≤ start →
     start + d ≤ s.obk.slot + 672 →
     (∀ e ∈ s.obk.orders, e.2.point = n → e.2.live = true →
       min (start + d) e.2.deliveryEnd ≤ max start e.2.start) →
     ((flow * 900 * d : Nat) : Int) ≤ a.available →
     s.cal.reserve p.reach start (start + d) flow = .short j t →
     let c := Instr.place n start d flow 2 limit tries
     (96 ≤ s.obk.waiting.length → Refuses c s .waitlistFull) ∧
     (s.obk.waiting.length < 96 →
       ∃ (i : Nat) (orders : Table Order) (accounts : Table Account),
         i < 2048 ∧ cell? s.obk.orders i = none ∧ (∀ m, m < i → cell? s.obk.orders m ≠ none) ∧
         (∀ m, cell? orders m = if m = i then some
             { account := acct, point := n, start := start, duration := d, flow := flow,
               conflict := .queue, origin := .host, sequence := s.obk.sequence + 1,
               state := .pendingWait, suspendReason := none, cut := none, ordered := flow * 900 * d,
               delivered := 0, estimated := 0, tail := 0, slidBy := 0, closeReason := none }
           else cell? s.obk.orders m) ∧
         (∀ m, cell? accounts m =
           if m = acct then some { a with live := a.live + 1 } else s.account? m) ∧
         (let h := s.obk.generation i * 2048 + i
         Completes c s
           ({ s with
               obk := { s.obk with
                 orders := orders, sequence := s.obk.sequence + 1, waiting := s.obk.waiting ++ [h] }
               accounts := accounts } : State).arbitrate
           { result := .queued
             data := be16 h ++ be32 start ++ be8 0 ++ be32 (flow * 900 * d) ++
               be32 (s.obk.sequence + 1)
             names := some h })))

/-- The tries of a slide (R48), from the start k slots after the asked one: the first try past the horizon
ends the search with the failure at the asked start; one whose head release slot boundaries have overtaken
fails (R66; log entry 14); the first that fails the allocation test ends it ALLOCATION_SHORT; the first that
passes checks 5 to 7 is admitted, slid by its distance; with no try left
up to the limit the failure at the asked start is the answer; a search whose tries in one event are used
up goes on at the next distance. A slide that is refused or goes on changes nothing. A PLACE with SLIDE
that fails at its asked start, by OVERLAP with the volume available or by CAPACITY_SHORT, tries the later
starts from s + 1 on; one whose search goes on takes it up at the distance it had reached, with the checks
of R45 made again (R48; log entry 14). A search that ends refused changes nothing, one that ends with an
order answers SLID, and one that goes on keeps the port executing. -/
def Obligations.PlaceSlidesToALaterStart : Prop :=
  (∀ (s : State) (q : Ask) (reach account k n tries : Nat) (failure : Reply),
     let far := fun j => s.obk.slot + 672 < q.start + j + q.duration
     let atTry := fun j =>
       s.tryWindow q.point reach account (q.start + j) q.duration q.flow none
     let past := fun j => q.start + j < lagOf s.cal.reaches reach + s.obk.slot + 1
     let fails := fun j =>
       ¬far j ∧ (past j ∨ ∃ r, atTry j = .error r ∧ r.result ≠ .allocationShort)
     k ≤ n → (∀ j, k ≤ j → j < n → fails j) →
     (n ≤ q.limit → n - k < tries → far n →
       s.slideTries q reach account failure tries k = (s, .refused failure)) ∧
     (n ≤ q.limit → n - k < tries → ¬far n → ¬past n → ∀ r, atTry n = .error r →
       r.result = .allocationShort →
       s.slideTries q reach account failure tries k = (s, .refused (refusal .allocationShort))) ∧
     (n ≤ q.limit → n - k < tries → ¬far n → ¬past n → ∀ ring, atTry n = .ok ring →
       s.slideTries q reach account failure tries k =
         s.admitOrder q account (q.start + n) n ring .slid) ∧
     (n = q.limit + 1 → n - k ≤ tries →
       s.slideTries q reach account failure tries k = (s, .refused failure)) ∧
     (n ≤ q.limit → n - k = tries →
       s.slideTries q reach account failure tries k =
         (s, .searching { next := n, failure := failure }))) ∧
  (∀ (s : State) (n start d flow limit tries : Nat) (p : Point) (first : Nat) (failure : Reply),
     s.handed (.place n start d flow 1 limit 96) = true →
     let c := Instr.place n start d flow 1 limit tries
     let q : Ask :=
       { point := n, start := start, duration := d, flow := flow, conflict := .slide, limit := limit,
         origin := .host }
     s.placeRefused q = none → s.point? n = some p → p.kind = .turnout →
     (s.obk.search = none ∧ first = 1 ∧
         lagOf s.cal.reaches p.reach + s.obk.slot + 1 + s.settings.lead ≤ start ∧
         start + d ≤ s.obk.slot + 672 ∧
         s.tryWindow n p.reach (p.account.getD 0) start d flow none = .error failure ∧
         (failure.result = .capacityShort ∨
           failure.result = .overlap ∧ s.affords (p.account.getD 0) (flow * 900 * d) = true) ∨
       s.obk.search = some { next := first, failure := failure }) →
     let r := s.slideTries q p.reach (p.account.getD 0) failure tries first
     (∀ a, r = (s, .refused a) → 16 ≤ a.result.code →
       Completes c s { s with obk.search := none } a) ∧
     (∀ s1 h, r = (s1, .created .slid h) →
       Completes c s ({ s1 with obk.search := none } : State).arbitrate (s1.createdReply .slid h)) ∧
     (∀ w, r = (s, .searching w) → exec c s = .next { s with obk.search := some w }))

/-- AMEND refuses by the checks of R51, then by those of R52 for a CONFIRMED order and of R53 for a
RUNNING or SUSPENDED one, in their order, and then changes nothing. AMEND that passes its checks gives the
order its new flow, duration and ordered volume; the ring exchanges, gains or releases the slots (R31,
R52, R53); the account's reserved outstanding changes with the order's share (R68); a lower flow or an
earlier end starts a re-examination; the answer is DONE with the order's figures. With nothing to change
it changes nothing (R51); that it then names the order is log entry 22. That OVERLAP carries no data and
that the rated flow of a missing point is not compared is log entry 28; that a lower flow or an earlier end
is tested on capacity only in slots that it adds is log entry 34. The timing test
of an extension is R53's, without the lead that R20's list gives it: log entry 32. -/
def Obligations.AmendChecksThenRewrites : Prop :=
  (∀ (s : State) (h : Nat) (flow finish : Option Nat), s.handed (.amend h flow finish) = true →
     let c := Instr.amend h flow finish
     (s.obk.named? h = none → Refuses c s .noSuchOrder) ∧
     (∀ i o, s.obk.named? h = some (i, o) →
       let f := flow.getD o.flow
       let e := finish.getD (o.start + o.duration)
       let badParam := (∃ x, flow = some x ∧
           (x < 1 ∨ 2000 < x ∨ ∃ p, s.point? o.point = some p ∧ p.rated < x)) ∨
         ∃ x, finish = some x ∧ (x < o.start + 1 ∨ o.start + 192 < x)
       let closed := ∃ a, s.account? o.account = some a ∧ a.state ≠ .opened
       let due := o.state = .running ∨ o.state = .suspended
       let open' := ¬badParam ∧ ¬closed
       let new := f * 900 * (e - o.start)
       let changed := f ≠ o.flow ∨ e ≠ o.start + o.duration
       let later := o.start + o.duration < e
       let overlaps := fun lo => (s.obk.overlapping o.point lo e (some i)).isSome = true
       (badParam → Refuses c s .badParam) ∧
       (¬badParam → closed → Refuses c s .accountNotOpen) ∧
       (open' → o.state ≠ .confirmed → ¬due → Refuses c s .wrongState) ∧
       (open' → due → f ≠ o.flow → Refuses c s .wrongState) ∧
       (open' → o.state = .confirmed → changed →
         (s.obk.slot + 672 < e → Refuses c s .beyondHorizon) ∧
         (e ≤ s.obk.slot + 672 → later → overlaps o.start → Refuses c s .overlap) ∧
         (e ≤ s.obk.slot + 672 → ¬(later ∧ overlaps o.start) → o.ordered < new →
           s.affords o.account (new - o.ordered) = false → Refuses c s .allocationShort) ∧
         (e ≤ s.obk.slot + 672 → ¬(later ∧ overlaps o.start) →
           (o.ordered < new → s.affords o.account (new - o.ordered) = true) →
           ∀ j t, s.cal.exchange (s.reachOf o) o.start (o.start + o.duration) o.flow o.start e f =
               .short j t →
             Completes c s s (answer .capacityShort (be8 j ++ be32 t)))) ∧
       (open' → due → f = o.flow → changed →
         let reach := s.reachOf o
         let soon := min e (o.start + o.duration) < lagOf s.cal.reaches reach + s.obk.slot + 1
         (soon → Refuses c s .tooSoon) ∧
         (¬soon → s.obk.slot + 672 < e → Refuses c s .beyondHorizon) ∧
         (¬soon → e ≤ s.obk.slot + 672 → later →
           (overlaps (o.start + o.duration) → Refuses c s .overlap) ∧
           (¬overlaps (o.start + o.duration) →
             let more := o.flow * 900 * (e - (o.start + o.duration))
             (s.affords o.account more = false → Refuses c s .allocationShort) ∧
             (s.affords o.account more = true → ∀ j t,
               s.cal.reserve reach (o.start + o.duration) e o.flow = .short j t →
                 Completes c s s (answer .capacityShort (be8 j ++ be32 t)))))))) ∧
  (∀ (s : State) (h i : Nat) (o : Order) (flow finish : Option Nat),
     s.handed (.amend h flow finish) = true → s.obk.named? h = some (i, o) →
     s.amendBadParam o flow finish = false →
     (∀ a, s.account? o.account = some a → a.state = .opened) →
     let c := Instr.amend h flow finish
     let f := flow.getD o.flow
     let e := finish.getD (o.start + o.duration)
     let due := o.state = .running ∨ o.state = .suspended
     let reach := s.reachOf o
     let new : Order :=
       { o with flow := f, duration := e - o.start, ordered := f * 900 * (e - o.start) }
     let r : Order → Reply := fun o =>
       { result := .done
         data := be16 o.flow ++ be32 (o.start + o.duration) ++ be8 o.duration ++ be32 o.ordered
         names := some h }
     let finishWith := fun ring : Calendar =>
       let s1 := (s.withRing ring).putOrder i new
       Completes c s
         (if f < o.flow ∨ e < o.start + o.duration then s1.startReexamination else s1).arbitrate (r new)
     (o.state = .confirmed ∨ due → f = o.flow → e = o.start + o.duration →
       Completes c s s.arbitrate (r o)) ∧
     (o.state = .confirmed → (f ≠ o.flow ∨ e ≠ o.start + o.duration) → e ≤ s.obk.slot + 672 →
       (o.start + o.duration < e → s.obk.overlapping o.point o.start e (some i) = none) →
       (o.ordered < new.ordered → s.affords o.account (new.ordered - o.ordered) = true) →
       ∀ ring, s.cal.exchange reach o.start (o.start + o.duration) o.flow o.start e f = .pass ring →
         finishWith ring) ∧
     (due → f = o.flow → e ≤ s.obk.slot + 672 →
       lagOf s.cal.reaches reach + s.obk.slot + 1 ≤ min e (o.start + o.duration) →
       (o.start + o.duration < e →
         s.obk.overlapping o.point (o.start + o.duration) e (some i) = none →
         s.affords o.account (o.flow * 900 * (e - (o.start + o.duration))) = true →
         ∀ ring, s.cal.reserve reach (o.start + o.duration) e o.flow = .pass ring →
           finishWith ring) ∧
       (e < o.start + o.duration →
         finishWith (s.cal.release reach e (o.start + o.duration) o.flow s.obk.slot))))

/-- CANCEL with scope ORDER (R54 to R56): a handle that names no order is refused, and so is an order that
is CLOSING or finished. A waiting order leaves the list and a confirmed one's window is released, and it
is CANCELLED; a RUNNING or SUSPENDED one is cut at the current slot: its later slots are released, its
ordered volume ends at the cut, it is CLOSING, and Release Control is told that the point has no order.
Either starts a re-examination. A scope that is none of the three is refused BAD_PARAM. CANCEL with scope
POINT or ACCOUNT (R57) refuses by its checks; otherwise it walks the point chain or the account chain
first to last, one event: each live order is treated by its state, an order that it changes has its mark
set, one re-examination follows when anything was cancelled or cut, and the answer gives the three counts.
The account chain is the account's orders, live and finished, the point chain the point's live orders, each
sorted by start slot and orders of equal start by placement sequence (R43, R44). -/
def Obligations.CancelEndsOrders : Prop :=
  (∀ (b : OrderBook) (k : Nat),
     let sorted := fun l : List (Nat × Order) => l.Pairwise (fun x y =>
       x.2.start < y.2.start ∨ x.2.start = y.2.start ∧ x.2.sequence ≤ y.2.sequence)
     (b.accountChain k).Perm (b.orders.filter (fun e => decide (e.2.account = k))) ∧
     sorted (b.accountChain k) ∧
     (b.pointChain k).Perm (b.orders.filter (fun e => decide (e.2.point = k ∧ e.2.live = true))) ∧
     sorted (b.pointChain k)) ∧
  (∀ (s : State) (scope h running : Nat), s.handed (.cancel scope h running) = true →
     let c := Instr.cancel scope h running
     (2 < scope → Refuses c s .badParam) ∧
     (scope = 0 → s.obk.named? h = none → Refuses c s .noSuchOrder) ∧
     (scope = 0 → ∀ i o, s.obk.named? h = some (i, o) →
       let reply := fun cancelled ended state =>
         ({ result := .done
            data := be16 cancelled ++ be16 ended ++ be16 0 ++ be8 state
            names := some h } : Reply)
       let gone : Order := { o with state := .cancelled, closeReason := some .cancelledHost }
       let cut : Order :=
         { o with
           state := .closing, closeReason := some .endedEarly, suspendReason := none,
           cut := some s.obk.slot, ordered := o.flow * 900 * (s.obk.slot + 1 - o.start) }
       let finish := o.start + o.duration
       let reach := s.reachOf o
       (o.state = .pendingWait →
         Completes c s
           (({ s with obk.waiting := s.obk.waiting.filter (fun x => x != s.obk.handle i) } :
             State).putOrder i gone).startReexamination.arbitrate (reply 1 0 6)) ∧
       (o.state = .confirmed →
         Completes c s
           ((s.withRing (s.cal.release reach o.start finish o.flow s.obk.slot)).putOrder i
             gone).startReexamination.arbitrate (reply 1 0 6)) ∧
       (o.state = .running ∨ o.state = .suspended →
         Completes c s
           (((s.withRing (s.cal.release reach o.start finish o.flow (s.obk.slot + 1))).putOrder i
             cut).notify o.point none).startReexamination.arbitrate (reply 0 1 4)) ∧
       (o.state = .closing ∨ o.state = .closed ∨ o.state = .cancelled ∨ o.state = .expired →
         Refuses c s .wrongState))) ∧
  (∀ (s : State) (scope k running : Nat), s.handed (.cancel scope k running) = true →
     let c := Instr.cancel scope k running
     let one : State × Nat × Nat × Nat → Nat × Order → State × Nat × Nat × Nat := fun acc e =>
       match cell? acc.1.obk.orders e.1 with
       | none => acc
       | some o =>
         if o.state = .pendingWait ∨ o.state = .confirmed then
           ((acc.1.cancelOrder e.1 o .cancelledHost).markOrder e.1,
             acc.2.1 + 1, acc.2.2.1, acc.2.2.2)
         else if o.state = .running ∨ o.state = .suspended then
           if running = 1 then
             ((acc.1.cutOrder e.1 o .endedEarly).markOrder e.1, acc.2.1, acc.2.2.1 + 1, acc.2.2.2)
           else (acc.1, acc.2.1, acc.2.2.1, acc.2.2.2 + 1)
         else acc
     let walk := fun chain : List (Nat × Order) =>
       let r := chain.foldl one (s, 0, 0, 0)
       Completes c s
         (if 0 < r.2.1 + r.2.2.1 then r.1.startReexamination else r.1).arbitrate
         (answer .done (be16 r.2.1 ++ be16 r.2.2.1 ++ be16 r.2.2.2))
     (scope = 1 → (1 < running ∨ 1023 < k) → Refuses c s .badParam) ∧
     (scope = 1 → running ≤ 1 → k ≤ 1023 → (∀ p, s.point? k = some p → p.kind ≠ .turnout) →
       Refuses c s .noSuchPoint) ∧
     (scope = 1 → running ≤ 1 → k ≤ 1023 → (∃ p, s.point? k = some p ∧ p.kind = .turnout) →
       walk (s.obk.pointChain k)) ∧
     (scope = 2 → (1 < running ∨ 767 < k) → Refuses c s .badParam) ∧
     (scope = 2 → running ≤ 1 → k ≤ 767 → s.account? k = none → Refuses c s .noSuchAccount) ∧
     (scope = 2 → running ≤ 1 → k ≤ 767 → s.account? k ≠ none → walk (s.obk.accountChain k)))

/-- RETIRE of a finished order frees its entry, advances its generation and clears its mark (R38, R60); of a
live one it is refused. NEXT_CHANGED answers the set mark with the lowest table index and clears it, or
NONE (R70). -/
def Obligations.RetireFreesAndNextChangedReports : Prop :=
  ∀ s : State, s.obk.marks.Pairwise (· < ·) →
    (∀ h, s.handed (.retire h) = true →
      (s.obk.named? h = none → Refuses (.retire h) s .noSuchOrder) ∧
      (∀ i o, s.obk.named? h = some (i, o) →
        (o.state ≠ .closed → o.state ≠ .cancelled → o.state ≠ .expired →
          Refuses (.retire h) s .wrongState) ∧
        (o.state = .closed ∨ o.state = .cancelled ∨ o.state = .expired →
          ∃ t : State, Completes (.retire h) s t doneReply ∧
            t = { s with
              obk.orders := t.obk.orders, obk.generations := t.obk.generations,
              obk.marks := s.obk.marks.filter (fun j => j != i) } ∧
            (∀ j, cell? t.obk.orders j = if j = i then none else cell? s.obk.orders j) ∧
            ∀ j, t.obk.generation j =
              if j ≠ i then s.obk.generation j
              else if s.obk.generation i + 1 < (if i = 2047 then 31 else 32) then
                s.obk.generation i + 1
              else 0))) ∧
    (s.handed .nextChanged = true →
      (s.obk.marks = [] → Completes .nextChanged s s (answer .nothing [])) ∧
      (∀ i rest o, s.obk.marks = i :: rest → cell? s.obk.orders i = some o →
        (∀ j ∈ s.obk.marks, i ≤ j) ∧ i ∉ rest ∧
        Completes .nextChanged s { s with obk.marks := rest }
          (answer .done
            (be16 (s.obk.generation i * 2048 + i) ++ be8 o.state.code ++
              opt8 (o.closeReason.map CloseReason.code) ++
              opt8 (o.suspendReason.map SuspendReason.code) ++ be16 rest.length))))

/-- STANDING_SET refuses by its checks, else writes the record ACTIVE with its first occurrence and answers
with that start and the slot whose boundary fires it (R82). STANDING_RESUME makes a SUSPENDED record ACTIVE
from its next first occurrence, with no refusals, and refuses any other (R85). STANDING_CLEAR makes the
record VACANT (R86). None touches anything else. -/
def Obligations.StandingRequestsWriteTheTemplate : Prop :=
  ∀ s : State,
    (∀ x n offset d flow conflict count,
      s.handed (.standingSet x n offset d flow conflict count) = true →
      let c := Instr.standingSet x n offset d flow conflict count
      let bad := 191 < x ∨ 1023 < n ∨ 671 < offset ∨ d < 1 ∨ 192 < d ∨ flow < 1 ∨ 2000 < flow ∨
        2 < conflict ∨ (∃ m, count = some m ∧ (m < 1 ∨ 250 < m)) ∨
        ∃ p, s.point? n = some p ∧ p.kind = .turnout ∧ p.rated < flow
      let opened := fun p : Point =>
        ∃ i a, p.account = some i ∧ s.account? i = some a ∧ a.state = .opened
      (bad → Refuses c s .badParam) ∧
      (¬bad → (∀ p, s.point? n = some p → p.kind ≠ .turnout) → Refuses c s .noSuchPoint) ∧
      (¬bad → ∀ p, s.point? n = some p → p.kind = .turnout → ¬opened p → Refuses c s .accountNotOpen) ∧
      (¬bad → ∀ p, s.point? n = some p → p.kind = .turnout → opened p →
        ∃ ts k, (conflict = 0 ∧ k = OnConflict.refuse ∨ conflict = 1 ∧ k = .slide ∨
            conflict = 2 ∧ k = .queue) ∧
          (let next := firstOccurrence s.obk.slot offset d
          (∀ y, cell? ts y = if y = x then some
              { state := .active, point := n, offset := offset, duration := d, flow := flow,
                conflict := k, remaining := count, next := next, refusals := 0, lastResult := none,
                lastOrder := none }
            else cell? s.obk.templates y) ∧
          Completes c s { s with obk.templates := ts }
            (answer .done (be32 next ++ be32 (next + d - 672)))))) ∧
    (∀ x, s.handed (.standingResume x) = true →
      (191 < x → Refuses (.standingResume x) s .badParam) ∧
      (x ≤ 191 → (∀ t, cell? s.obk.templates x = some t → t.state ≠ .suspended) →
        Refuses (.standingResume x) s .wrongState) ∧
      (x ≤ 191 → ∀ t, cell? s.obk.templates x = some t → t.state = .suspended →
        ∃ ts, (∀ y, cell? ts y =
            if y = x then some { t with
              state := .active, refusals := 0
              next := firstOccurrence s.obk.slot t.offset t.duration }
            else cell? s.obk.templates y) ∧
          Completes (.standingResume x) s { s with obk.templates := ts }
            (answer .done (be32 (firstOccurrence s.obk.slot t.offset t.duration))))) ∧
    (∀ x, s.handed (.standingClear x) = true →
      (191 < x → Refuses (.standingClear x) s .badParam) ∧
      (x ≤ 191 → ∃ ts, (∀ y, cell? ts y = if y = x then none else cell? s.obk.templates y) ∧
        Completes (.standingClear x) s { s with obk.templates := ts } doneReply))

/-- The first-occurrence rule chooses the earliest start s that leaves remainder offset when divided by 672
and is at least t + 673 − d (R81). -/
def Obligations.FirstOccurrenceIsTheEarliestBeyondTheHorizon : Prop :=
  ∀ t offset d : Nat, offset < 672 → d ≤ 192 →
    let s := firstOccurrence t offset d
    s % 672 = offset ∧ t + 673 ≤ s + d ∧ ∀ s', s' % 672 = offset → t + 673 ≤ s' + d → s ≤ s'

/-- A firing is a PLACE of the occurrence with a slide limit of 96, made by the standing order, and updates
its template once (R83, R84): an order it creates is marked and recorded with refusals 0; a refusal is
counted and recorded; occurrences remaining falls by one; the next start is a week later; at 0 remaining the
record is EXHAUSTED, else at three refusals SUSPENDED with a report. The PLACE makes its tests in R48's order,
also where R83 speaks of the original code: log entry 39. -/
def Obligations.FiringUpdatesTheTemplate : Prop :=
  ∀ (s : State) (x : Nat) (m : Template),
    let q : Ask :=
      { point := m.point, start := m.next, duration := m.duration, flow := m.flow,
        conflict := m.conflict, limit := 96, origin := .standing x }
    let placed := s.placeFirst q 96
    let after := fun (refusals : Nat) (r : Result) (h : Option Nat) =>
      let remaining := m.remaining.map (fun k => k - 1)
      { m with
        refusals := refusals, lastResult := some r, lastOrder := h, remaining := remaining
        next := m.next + 672
        state := if remaining = some 0 then TemplateState.exhausted
          else if 3 ≤ refusals then .suspended else .active }
    (∀ s1 r h i o, placed = (s1, .created r h) → s1.obk.named? h = some (i, o) →
      s.fire x m = { s1 with
        obk.marks := addTo s1.obk.marks i
        obk.templates := setCell s1.obk.templates x (after 0 r (some h)) }) ∧
    (∀ a, placed = (s, .refused a) →
      let t := after (m.refusals + 1) a.result none
      let s2 : State := { s with obk.templates := setCell s.obk.templates x t }
      s.fire x m = if t.state = .suspended then s2.report .standingSuspended (.number x) else s2)

/-- A re-examination walks the waiting list once, head to tail, and clears the owed indicator; while a sweep
is in progress it only sets that indicator (R74, R75). An entry that fails check 4 expires: it leaves the
list, EXPIRED, its mark set. One whose window passes checks 5 to 7, its own window not counted, takes its
reservation and leaves the list, CONFIRMED, its mark set. Any other stays as it was. -/
def Obligations.ReexaminationTestsEveryEntry : Prop :=
  ∀ s : State,
    (s.sweeping = true → s.startReexamination = { s with obk.owed := true }) ∧
    (s.sweeping = false →
      s.startReexamination =
        { s.obk.waiting.foldl (fun s h => s.reexamineEntry h) s with obk.owed := false }) ∧
    ∀ h i o p, s.obk.named? h = some (i, o) → s.point? o.point = some p →
      let s1 : State := { s with obk.waiting := s.obk.waiting.filter (fun x => x != h) }
      let late := o.start < lagOf s.cal.reaches p.reach + s.obk.slot + 1 + s.settings.lead ∨
        s.obk.slot + 672 < o.start + o.duration
      let window := s.tryWindow o.point p.reach o.account o.start o.duration o.flow (some i)
      (late → s.reexamineEntry h =
        (s1.putOrder i { o with state := .expired, closeReason := some .expiredWait }).markOrder i) ∧
      (¬late → ∀ r, window = .error r → s.reexamineEntry h = s) ∧
      (¬late → ∀ ring, window = .ok ring → s.reexamineEntry h =
        ((((s.withRing ring).leaveWaiting h).putOrder i { o with state := .confirmed }).markOrder i))

/-- Steps 1 to 3 of the boundary that makes slot t current (R62, R63, R64): a CLOSING order whose last
delivery slot is t − 2 or earlier is CLOSED; a RUNNING or SUSPENDED one whose end slot is t is CLOSING,
DELIVERED; a CONFIRMED one whose start is t is RUNNING in AUTO, else SUSPENDED with the reason of its
point's mode. The mark of each is set and no other order changes. Of the accounts, closing takes each closed
order's share from reserved outstanding and one from the live order count (R42, R62, R68), and ending and
starting change none. One notice follows per point whose due
order changed, naming the order it now has (R61). ORDER_BOOK_BOUNDARY takes the oldest boundary presented:
the Order Book's slot is t, and the six steps follow in their order (R61): closing, ending, starting, the
notices, the expiry of waiting orders that can no longer meet their head release (R77), the firing of the
standing orders whose occurrence now lies wholly within the horizon (R83), and a re-examination when step
1 freed allocation, step 4 expired an entry or one is owed (R78). The line then makes its choice. That the
oldest boundary is taken first is log entry 20; that with no boundary presented nothing changes, log entry 2. -/
def Obligations.OrderBookBoundaryRunsTheSixSteps : Prop :=
  (∀ (s : State) (t : Nat), risingKeys s.obk.orders = true →
     let closes := fun o : Order => o.state = .closing ∧ o.deliveryEnd + 1 ≤ t
     let ends := fun o : Order =>
       (o.state = .running ∨ o.state = .suspended) ∧ o.start + o.duration = t
     let starts := fun o : Order => o.state = .confirmed ∧ o.start = t
     let lifts := fun (s1 : State) (p : Order → Prop) =>
       ∀ i, i ∈ s1.obk.marks ↔ i ∈ s.obk.marks ∨ ∃ o, cell? s.obk.orders i = some o ∧ p o
     let only := fun s1 : State =>
       s1 = { s with obk.orders := s1.obk.orders, obk.marks := s1.obk.marks, accounts := s1.accounts }
     (
       let r := s.closeStep t
       only r.1 ∧ lifts r.1 closes ∧
       (∀ i o, cell? s.obk.orders i = some o →
         (closes o → cell? r.1.obk.orders i = some { o with state := .closed }) ∧
         (¬closes o → cell? r.1.obk.orders i = some o)) ∧
       (r.2 = true ↔
         ∃ i o, cell? s.obk.orders i = some o ∧ closes o ∧ o.delivered < o.ordered) ∧
       (risingKeys s.accounts = true → ∀ n, r.1.account? n = (s.account? n).map (fun a =>
         let done := s.obk.orders.filter (fun e =>
           decide (e.2.account = n ∧ e.2.state = .closing ∧ e.2.deliveryEnd + 1 ≤ t))
         { a with
           reserved := a.reserved - (done.map (fun e => e.2.ordered - e.2.delivered)).sum
           live := a.live - done.length }))) ∧
     (
       let r := s.endStep t
       only r ∧ lifts r ends ∧ (risingKeys s.accounts = true → ∀ n, r.account? n = s.account? n) ∧
       (∀ i o, cell? s.obk.orders i = some o →
         (ends o → cell? r.obk.orders i = some
           { o with state := .closing, closeReason := some .delivered, suspendReason := none }) ∧
         (¬ends o → cell? r.obk.orders i = some o))) ∧
     (
       let r := s.startStep t
       only r ∧ lifts r (fun o => starts o ∧ (s.point? o.point).isSome = true) ∧
       (risingKeys s.accounts = true → ∀ n, r.account? n = s.account? n) ∧
       (∀ i o p, cell? s.obk.orders i = some o → s.point? o.point = some p →
         (starts o → p.mode = .auto →
           cell? r.obk.orders i = some { o with state := .running, suspendReason := none }) ∧
         (starts o → p.mode = .localHold →
           cell? r.obk.orders i = some { o with state := .suspended, suspendReason := some .manual }) ∧
         (starts o → p.mode = .disabled →
           cell? r.obk.orders i = some { o with state := .suspended, suspendReason := some .disabled }) ∧
         (¬starts o → cell? r.obk.orders i = some o))) ∧
     (
       let ps := changedPoints t s.obk.orders
       ps.Nodup ∧ (∀ n, n ∈ ps ↔ ∃ e ∈ s.obk.orders, e.2.point = n ∧ (ends e.2 ∨ starts e.2)) ∧
       ∀ (s1 : State) (ns : List Nat), s1.noticeStep ns = { s1 with
         mail.notices := s1.mail.notices ++
           ns.map (fun n => { point := n, order := s1.obk.scheduledOf n }) })) ∧
  (∀ s : State,
     (s.mail.orderBook = [] → exec .orderBookBoundary s = .next s) ∧
     (∀ t rest, s.mail.orderBook = t :: rest →
       let s0 : State := { s with mail.orderBook := rest, obk.slot := t }
       let s1 := (s0.closeStep t).1
       let s3 := ((s1.endStep t).startStep t).noticeStep (changedPoints t s1.obk.orders)
       let expire := fun (u : State) (h : Nat) =>
         match u.obk.named? h with
         | none => u
         | some (i, o) =>
           if o.start < lagOf u.cal.reaches (u.reachOf o) + t + 1 + u.settings.lead then
             (({ u with obk.waiting := u.obk.waiting.filter (fun x => x != u.obk.handle i) } :
               State).putOrder i
                 { o with state := .expired, closeReason := some .expiredWait }).markOrder i
           else u
       let s4 := s3.obk.waiting.foldl (fun u h => u.expireEntry h) s3
       let s5 := s4.obk.templates.foldl
         (fun u e =>
           if e.2.state = .active ∧ e.2.next + e.2.duration = t + 672 then u.fire e.1 e.2 else u) s4
       let again := (s0.closeStep t).2 = true ∨ s4.obk.waiting.length < s3.obk.waiting.length ∨
         s5.obk.owed = true
       (∀ (u : State) (h : Nat), u.obk.slot = t → u.expireEntry h = expire u h) ∧
       (again → exec .orderBookBoundary s = .next s5.startReexamination.arbitrate) ∧
       (¬again → exec .orderBookBoundary s = .next s5.arbitrate)))

/-! ### Release control and frost protection (chapter 5) -/

/-- SCHEDULED_ORDER_NOTICE takes the oldest notice for the turnout: its scheduled order is the one named, in
frost the backup too; in AUTO the target is the order's flow, raised to the frost rate in frost (R89, R92,
R104), and the frost extra loads along its path follow (R101). That the oldest notice for the point is taken
first is log entry 20; that a notice is discarded when the point is a CHECK by then is log entry 42. With no
notice for the point nothing changes: the model's choice, log entry 2. -/
def Obligations.NoticeSetsTheScheduledOrder : Prop :=
  ∀ (s : State) (n : Nat),
    ((∀ y ∈ s.mail.notices, y.point ≠ n) → exec (.scheduledOrderNotice n) s = .next s) ∧
    (∀ before x after, s.mail.notices = before ++ { point := n, order := x } :: after →
      (∀ y ∈ before, y.point ≠ n) →
      let s0 : State := { s with mail.notices := before ++ after }
      ((∀ p, s.point? n = some p → p.kind ≠ .turnout) →
        exec (.scheduledOrderNotice n) s = .next s0.arbitrate) ∧
      (∀ p, s.point? n = some p → p.kind = .turnout →
        let flow := (x.map Scheduled.flow).getD 0
        let saved : Backup := { order := x.map Scheduled.handle, flow := flow }
        let s1 := s0.setPoint n
          { p with scheduled := x, backup := if p.backup.isSome then some saved else none }
        let s2 := if p.mode = .auto then
          s1.setTarget n (if p.backup.isSome then max flow p.frostRate else flow) else s1
        exec (.scheduledOrderNotice n) s =
          .next (if p.backup.isSome then s2.refreshPath p.reach else s2).arbitrate))

/-- CLOCK_SET is refused BUSY_SWEEP while a sweep is in progress and IN_USE while any order is live.
Otherwise the clock takes the minute, the rings are rebuilt, the Order Book's slot, the ACTIVE standing
orders and the SILENT stations follow, every check point in AUTO takes the target of the new slot, and the
answer is DONE with the minute and the slot (R33). That no boundary is then outstanding to the Order Book,
and that the other blocks keep theirs, is the model's choice, log entry 23.
The target of a check point in AUTO is its reach's committed flow for the calendar's current slot plus the
reach's frost extra load, limited to its rated flow (R93); a limited one sets the overload indicator and, when
that was clear, reports REACH_OVERLOAD with the reach; an unlimited one clears it (R94). A point that is no
check point in AUTO is left as it was. RELEASE_CONTROL_BOUNDARY recomputes every check point and changes
nothing but points, line and reports; with no boundary presented it changes nothing: log entry 2.
A change of a point's mode (R65, R90, R91): the mode is the new one; a turnout's RUNNING or SUSPENDED order
takes the state and the reason of the mode, marked when either changed; the target is recomputed on entry into
AUTO and kept otherwise; the frost extra loads along its path follow; entry into AUTO owes a resend; a point
that stops being sendable is withdrawn, and any other change that does not enter AUTO keeps its field side. The
target goes by the last notice taken, log entry 41. Latch, flag and backup are kept, and so are every account's
figures. -/
def Obligations.ClockBoundaryAndModeSetTheTargets : Prop :=
  (∀ (s : State) (m : Nat), s.handed (.clockSet m) = true → risingKeys s.points = true →
     let k := m / 15
     (s.sweeping = true → Refuses (.clockSet m) s .busySweep) ∧
     (s.sweeping = false → (∃ e ∈ s.obk.orders, e.2.live = true) → Refuses (.clockSet m) s .inUse) ∧
     (s.sweeping = false → (∀ e ∈ s.obk.orders, e.2.live = false) →
       ∃ t, Completes (.clockSet m) s t (answer .done (be32 m ++ be32 k)) ∧
         t = { s with
           cal := t.cal, points := t.points, line := t.line, obk := t.obk
           mail := { s.mail with orderBook := [], reports := t.mail.reports } } ∧
         t.cal = { s.cal with clock := m, committed := [], supply := t.cal.supply, heads := [] } ∧
         (∀ u, t.cal.supplyIn u = if k ≤ u ∧ u < k + 672 then s.cal.defaultSupply else 0) ∧
         t.obk = { s.obk with slot := k, templates := t.obk.templates } ∧
         (∀ x, cell? t.obk.templates x = (cell? s.obk.templates x).map (fun e =>
           if e.state = .active then { e with next := firstOccurrence k e.offset e.duration } else e)) ∧
         (∀ a, (t.station a).silentSince =
           if (s.station a).state = .silent then some k else (s.station a).silentSince) ∧
         (∀ n p, s.point? n = some p → p.kind = .check → p.mode = .auto →
           ∃ q, t.point? n = some q ∧ q.target = min (s.extraLoad p.reach) p.rated))) ∧
  (∀ (s : State) (n : Nat) (p : Point), s.point? n = some p →
    (p.kind ≠ .check ∨ p.mode ≠ .auto → s.recheck n = s) ∧
    (p.kind = .check → p.mode = .auto →
      let demand := s.cal.committedIn p.reach s.cal.slot + s.extraLoad p.reach
      let s1 := s.setPoint n { p with overload := decide (p.rated < demand) }
      let s2 := if p.rated < demand ∧ p.overload = false then
        s1.report .reachOverload (.number p.reach) else s1
      s.recheck n = s2.setTarget n (min demand p.rated))) ∧
  (∀ s : State, risingKeys s.points = true →
     (s.mail.release = [] → exec .releaseControlBoundary s = .next s) ∧
     (∀ u rest, s.mail.release = u :: rest → ∃ t : State,
       exec .releaseControlBoundary s = .next t ∧
       t = { s with
         points := t.points, line := t.line, mail.release := rest, mail.reports := t.mail.reports } ∧
       ∀ n p, s.point? n = some p → p.kind = .check → p.mode = .auto →
         let demand := s.cal.committedIn p.reach s.cal.slot + s.extraLoad p.reach
         ∃ q, t.point? n = some q ∧ q.target = min demand p.rated ∧
           q.overload = decide (p.rated < demand))) ∧
  ∀ (s : State) (n : Nat) (p : Point) (m : Mode),
    s.point? n = some p → risingKeys s.points = true → risingKeys s.obk.orders = true →
    let t := s.changeMode n m
    (∃ q, t.point? n = some q ∧ q.mode = m ∧ q.latch = p.latch ∧ q.backup = p.backup ∧
      q.closeOwed = p.closeOwed ∧ (m ≠ .auto → q.target = p.target ∧ q.overload = false) ∧
      (m = .auto → p.kind = .turnout → q.target =
        match p.backup with
        | some b => max b.flow p.frostRate
        | none => (p.scheduled.map Scheduled.flow).getD 0) ∧
      (m = .auto → p.kind = .check → q.target =
        min (s.cal.committedIn p.reach s.cal.slot + s.extraLoad p.reach) p.rated) ∧
      (m = .auto → q.field.resendOwed = true ∧
        (s.line.settingPoint n = false → q.field.sendPending = true)) ∧
      (m ≠ .auto → p.mode = .auto → p.closeOwed = false →
        q.field.sendPending = false ∧ q.field.resendOwed = false) ∧
      (m ≠ .auto → p.mode ≠ .auto ∨ p.closeOwed = true → q.field = p.field)) ∧
    (p.kind = .turnout → ∀ i o, s.obk.dueOrder n = some (i, o) →
      let st := match m with
        | .auto => (OrderState.running, (none : Option SuspendReason))
        | .localHold => (.suspended, some .manual)
        | .disabled => (.suspended, some .disabled)
      (o.state = st.1 ∧ o.suspendReason = st.2 → t.obk = s.obk) ∧
      (¬(o.state = st.1 ∧ o.suspendReason = st.2) →
        t.obk = { s.obk with orders := t.obk.orders, marks := addTo s.obk.marks i } ∧
        ∀ j, cell? t.obk.orders j =
          if j = i then some { o with state := st.1, suspendReason := st.2 }
          else cell? s.obk.orders j)) ∧
    (p.kind = .check ∨ s.obk.dueOrder n = none → t.obk = s.obk) ∧
    (p.kind = .turnout → p.backup.isSome = true →
      ∀ r ∈ pathOf s.cal.reaches p.reach, t.extraLoad r = t.frostSum r) ∧
    t = { s with
      points := t.points, obk := t.obk, accounts := t.accounts, frostLoad := t.frostLoad,
      mail.reports := t.mail.reports } ∧
    (∀ a, t.account? a = s.account? a)

/-- POINT_ENABLE makes its checks in order; then a staged calibration becomes active with its effects on
the meter record, close owed clears, and the mode becomes AUTO; the answer is DONE with the target (R98).
POINT_DISABLE with CLOSE takes the target to 0 L/s and owes a closing setpoint unless the switch is LOCAL;
with LEAVE it keeps the target; either leaves the point DISABLED and answers the mode and the target
(R99). LOCAL_ACK clears the local-hold latch of a point whose switch is REMOTE, answers with the mode and
changes nothing else (R97). -/
def Obligations.EnableDisableAndAckActOnThePoint : Prop :=
  (∀ (s : State) (n : Nat),
     (s.handed (.pointEnable n) = true →
       let c := Instr.pointEnable n
       (1023 < n → Refuses c s .badParam) ∧
       (n ≤ 1023 → s.point? n = none → Refuses c s .noSuchPoint) ∧
       (n ≤ 1023 → ∀ p, s.point? n = some p →
         (p.mode ≠ .disabled ∨ p.switch = .manual ∨ p.latch = true → Refuses c s .wrongState) ∧
         (p.mode = .disabled → p.switch = .remote → p.latch = false →
           let q : Point :=
             match p.staged with
             | none => { p with closeOwed := false }
             | some k =>
               { p with
                 closeOwed := false, active := k, staged := none
                 meter := { p.meter with
                   residual := 0, suspects := 0
                   state := if k.mantissa = 0 then .meterless else .rebase } }
           let t := (s.setPoint n q).changeMode n .auto
           ∃ u, t.point? n = some u ∧ Completes c s t.arbitrate (answer .done (be16 u.target))))) ∧
     (∀ act, s.handed (.pointDisable n act) = true →
       let c := Instr.pointDisable n act
       (1023 < n ∨ 1 < act → Refuses c s .badParam) ∧
       (n ≤ 1023 → act ≤ 1 → s.point? n = none → Refuses c s .noSuchPoint) ∧
       (n ≤ 1023 → ∀ p, s.point? n = some p →
         (act = 1 → p.mode = .disabled →
           Completes c s s.arbitrate (answer .done (be8 0 ++ be16 p.target))) ∧
         (act = 1 → p.mode ≠ .disabled →
           Completes c s (s.changeMode n .disabled).arbitrate
             (answer .done (be8 0 ++ be16 p.target))) ∧
         (act = 0 →
           let owed := p.mode = .auto ∨ p.mode = .disabled ∧ p.switch = .remote
           let s1 := s.setPoint n { p with target := 0, closeOwed := p.closeOwed || decide owed }
           let s2 := if p.mode = .disabled then s1 else s1.changeMode n .disabled
           Completes c s (if owed then s2.resend n else s2).arbitrate
             (answer .done (be8 0 ++ be16 0)))))) ∧
  (∀ (s : State) (n : Nat), s.handed (.localAck n) = true →
     let c := Instr.localAck n
     (1023 < n → Refuses c s .badParam) ∧
     (n ≤ 1023 → s.point? n = none → Refuses c s .noSuchPoint) ∧
     (n ≤ 1023 → ∀ p, s.point? n = some p →
       (p.switch = .manual → Refuses c s .wrongState) ∧
       (p.switch = .remote → ∃ t : State, Completes c s t (answer .done (be8 p.mode.code)) ∧
         t = { s with points := t.points } ∧
         ∀ m, t.point? m = if m = n then some { p with latch := false } else s.point? m)))

/-- GATE_REPORT takes an outstanding delivery of a channel: the switch by R95 or R96, the gate position (at
most 100) and the gate fault, a newly set one reported (R100). A LOCAL switch clears close owed; it takes a
point in AUTO to LOCAL_HOLD, latched and reported when its target was above 0 L/s or its frost flag set. A
REMOTE switch takes a point in LOCAL_HOLD to DISABLED when latched, else to AUTO. APPLIED_SETPOINT_REPORT of
0 L/s clears close owed (R91). What is not outstanding changes nothing: the model's choice, log entry 2. -/
def Obligations.GateAndAppliedReportsReachThePoint : Prop :=
  ∀ (s : State) (n : Nat),
    (∀ sw pos fault, ({ point := n, switch := sw, position := pos, fault := fault } : GateNews) ∉
      s.mail.gates → exec (.gateReport n sw pos fault) s = .next s) ∧
    (∀ sw pos fault before after,
      let g : GateNews := { point := n, switch := sw, position := pos, fault := fault }
      s.mail.gates = before ++ g :: after → g ∉ before →
      let s0 : State := { s with mail.gates := before ++ after }
      (s.point? n = none → exec (.gateReport n sw pos fault) s = .next s0.arbitrate) ∧
      (∀ p, s.point? n = some p →
        let closed : Point :=
          { p with
            switch := .manual, closeOwed := false
            field.sendPending := p.field.sendPending && !p.closeOwed
            field.resendOwed := p.field.resendOwed && !p.closeOwed }
        let taken := 0 < p.target ∨ p.backup.isSome = true
        let s1 := match sw, p.mode with
          | .manual, .auto =>
            let u := (s0.setPoint n
              { p with switch := .manual, closeOwed := false,
                       latch := p.latch || decide taken }).changeMode n .localHold
            if taken ∧ p.latch = false then u.report .localHoldFault (.number n) else u
          | .manual, _ => s0.setPoint n closed
          | .remote, .localHold =>
            (s0.setPoint n { p with switch := .remote }).changeMode n
              (if p.latch then .disabled else .auto)
          | .remote, _ => s0.setPoint n { p with switch := .remote }
        let s2 := s1.changePoint n (fun q => { q with position := min 100 pos, gateFault := fault })
        exec (.gateReport n sw pos fault) s = .next
          (if fault = true ∧ p.gateFault = false then s2.report .gateFault (.number n) else s2).arbitrate)) ∧
    (∀ v, ({ point := n, flow := v } : Applied) ∉ s.mail.applied →
      exec (.appliedSetpointReport n v) s = .next s) ∧
    (∀ v before after, s.mail.applied = before ++ { point := n, flow := v } :: after →
      ({ point := n, flow := v } : Applied) ∉ before →
      let s0 : State := { s with mail.applied := before ++ after }
      (0 < v → exec (.appliedSetpointReport n v) s = .next s0) ∧
      (v = 0 → (∀ p, s.point? n = some p → p.closeOwed = false) →
        exec (.appliedSetpointReport n v) s = .next s0.arbitrate) ∧
      (v = 0 → ∀ p, s.point? n = some p → p.closeOwed = true →
        let q : Point := { p with closeOwed := false }
        exec (.appliedSetpointReport n v) s = .next
          (s0.setPoint n (if p.mode = .auto then q
            else { q with field.sendPending := false, field.resendOwed := false })).arbitrate))

/-- FROST_CALL enters every eligible turnout of the scope into frost: its backup is its scheduled order, its
target the larger of that flow and its frost rate; others are left as they are, and the answer counts the
entered and the skipped (R102). FROST_END takes every turnout of the scope out of frost; in AUTO its target
is its scheduled order's flow (R103). After either, every configured reach's frost extra load is the sum of R101. A
refusal changes nothing. -/
def Obligations.FrostCallAndEndMoveTheTurnouts : Prop :=
  ∀ (s : State) (scope r : Nat), risingKeys s.points = true →
    let bad := 1 < scope ∨ scope = 1 ∧ 31 < r
    let inScope := fun p : Point =>
      p.kind = .turnout ∧ (scope = 0 ∨ r ∈ pathOf s.cal.reaches p.reach)
    let enters := fun p : Point =>
      inScope p ∧ 0 < p.frostRate ∧ p.mode = .auto ∧ p.backup = none
    let skipped := fun p : Point =>
      inScope p ∧ 0 < p.frostRate ∧ ¬(p.mode = .auto ∧ p.backup = none)
    let leaves := fun p : Point => inScope p ∧ p.backup.isSome = true
    let count := fun (k : Nat) (test : Point → Prop) => ∃ ns : List Nat, ns.Nodup ∧ ns.length = k ∧
      ∀ n, n ∈ ns ↔ ∃ p, s.point? n = some p ∧ test p
    let summed := fun t : State =>
      (∀ j, s.reach? j ≠ none → t.extraLoad j = t.frostSum j) ∧
      t = { s with
        points := t.points, frostLoad := t.frostLoad, line := t.line,
        mail.reports := t.mail.reports }
    (s.handed (.frostCall scope r) = true →
      (bad → Refuses (.frostCall scope r) s .badParam) ∧
      (¬bad → scope = 1 → s.reach? r = none → Refuses (.frostCall scope r) s .noSuchReach) ∧
      (¬bad → (scope = 1 → s.reach? r ≠ none) → ∃ t k l,
        Completes (.frostCall scope r) s t (answer .done (be16 k ++ be16 l)) ∧ summed t ∧
        count k enters ∧ count l skipped ∧
        ∀ n p, s.point? n = some p → p.kind = .turnout → ∃ q, t.point? n = some q ∧
          let flow := (p.scheduled.map Scheduled.flow).getD 0
          (enters p → q.target = max flow p.frostRate ∧
            q.backup = some { order := p.scheduled.map Scheduled.handle, flow := flow }) ∧
          (¬enters p → q.target = p.target ∧ q.backup = p.backup))) ∧
    (s.handed (.frostEnd scope r) = true →
      (bad → Refuses (.frostEnd scope r) s .badParam) ∧
      (¬bad → scope = 1 → s.reach? r = none → Refuses (.frostEnd scope r) s .noSuchReach) ∧
      (¬bad → (scope = 1 → s.reach? r ≠ none) → ∃ t k,
        Completes (.frostEnd scope r) s t (answer .done (be16 k)) ∧ summed t ∧ count k leaves ∧
        ∀ n p, s.point? n = some p → p.kind = .turnout → ∃ q, t.point? n = some q ∧
          (leaves p → q.backup = none ∧
            (p.mode = .auto → q.target = (p.scheduled.map Scheduled.flow).getD 0) ∧
            (p.mode ≠ .auto → q.target = p.target)) ∧
          (¬leaves p → q.target = p.target ∧ q.backup = p.backup)))

/-! ### The field line (chapter 6) -/

/-- FIELD_START in STOPPED makes the mode HOLD while the first-error record of severity 2 is filled, else RUN;
FIELD_STOP makes it STOPPED, cuts a SET in flight short and abandons a POLL, whose station is due again
(R110, R118). RESUME in HOLD, with that record empty, makes it RUN; a hold request in RUN makes it HOLD and
cuts a SET in flight short (R111). Elsewhere they are refused or change nothing; with no hold request
outstanding HOLD_REQUEST changes nothing (log entry 2). The answer of FIELD_STOP in STOPPED is log entry 27,
the coding of yes and no log entry 12. -/
def Obligations.FieldModeFollowsItsCommands : Prop :=
  ∀ s : State,
    let filled := s.faults.stop.first.isSome = true
    let mode := fun (m : FieldMode) (u : State) => ({ u with line.mode := m } : State)
    let cut := fun (u : State) =>
      match u.line.transaction with
      | some t =>
        match t.job with
        | .set _ _ _ => ({ u with line.transaction := some { t with lastAttempt := true } } : State)
        | .poll _ => u
      | none => u
    (s.handed .fieldStart = true →
      (s.line.mode ≠ .stopped → Refuses .fieldStart s .wrongState) ∧
      (s.line.mode = .stopped → filled →
        Completes .fieldStart s (mode .hold s).arbitrate (answer .done (be8 2))) ∧
      (s.line.mode = .stopped → ¬filled →
        Completes .fieldStart s (mode .run s).arbitrate (answer .done (be8 1)))) ∧
    (s.handed .fieldStop = true →
      let r := answer .done (be8 0 ++ yesNo s.line.transaction.isSome)
      (s.line.mode = .stopped → Completes .fieldStop s s r) ∧
      (s.line.mode ≠ .stopped → s.line.transaction = none →
        Completes .fieldStop s (mode .stopped s) r) ∧
      (s.line.mode ≠ .stopped → ∀ t, s.line.transaction = some t →
        (∀ n v x, t.job = .set n v x → Completes .fieldStop s (cut (mode .stopped s)) r) ∧
        (∀ a, t.job = .poll a →
          Completes .fieldStop s
            (({ s with line.mode := .stopped, line.transaction := none } : State).setStation a
              { s.station a with due := true }) r))) ∧
    (s.handed .resume = true →
      (s.line.mode ≠ .hold ∨ filled → Refuses .resume s .wrongState) ∧
      (s.line.mode = .hold → ¬filled →
        Completes .resume s (mode .run s).arbitrate doneReply)) ∧
    (s.mail.holds = 0 → exec .holdRequest s = .next s) ∧
    (∀ k, s.mail.holds = k + 1 →
      let s0 : State := { s with mail.holds := k }
      (s.line.mode ≠ .run → exec .holdRequest s = .next s0) ∧
      (s.line.mode = .run → exec .holdRequest s = .next (cut (mode .hold s0)).arbitrate))

/-- The line makes its choice while it is idle (R116): in RUN the lowest-numbered point with send pending set
whose station is polled and RESPONDING, whose SET carries its target as it stands (R114); failing that, and
in HOLD, the first due polled station after the rotation position, wrapping from 127 to 0; else, in STOPPED
and with a transaction in flight, nothing. The first attempt has the bit rate and timeout that stand. While an
attempt sends its frame, FTX carries the address, the kind, a SET's channel and value, and the CRC (R117,
R119), each byte as a start bit, eight data bits least significant first and a stop bit (R119); otherwise
nothing is sent. That the line chooses once, at the end of the event that lets a transaction begin, so that
meanings end in this choice, is log entry 8. -/
def Obligations.ArbitrationChoosesSetThenPoll : Prop :=
  ∀ s : State, risingKeys s.points = true → risingKeys s.line.stations = true →
    let due := fun a => (s.station a).due = true ∧ (s.station a).polled = true
    let ready := fun n => ∃ p, s.point? n = some p ∧ p.field.sendPending = true ∧
      (s.station (n / 8)).polled = true ∧ (s.station (n / 8)).state = .responding
    let start := fun j : Job =>
      some ({ job := j, attempt := 1, lastAttempt := false, phase := .sending,
              bitRate := s.settings.bitRate, timeout := s.settings.timeout } : Transaction)
    let polls := s.line.mode = .hold ∨ s.line.mode = .run ∧ ∀ n, ¬ready n
    (s.line.transaction.isSome = true ∨ s.line.mode = .stopped → s.arbitrate = s) ∧
    (s.line.transaction = none → s.line.mode = .run → ∀ n p, s.point? n = some p → ready n →
      (∀ m, m < n → ¬ready m) →
      let q : Point :=
        { p with
          field.inFlight := some p.target, field.sendPending := false, field.resendOwed := false }
      s.arbitrate =
        { s.setPoint n q with line.transaction := start (.set n p.target false) }) ∧
    (s.line.transaction = none → polls → ∀ a, due a →
      (s.line.rotation < a ∧ (∀ b, s.line.rotation < b → b < a → ¬due b) ∨
        (∀ b, s.line.rotation < b → ¬due b) ∧ ∀ b, b < a → ¬due b) →
      s.arbitrate =
        { s.setStation a { s.station a with due := false } with
          line.rotation := a, line.transaction := start (.poll a) }) ∧
    (s.line.transaction = none → polls → (∀ a, ¬due a) → s.arbitrate = s) ∧
    -- the bits on FTX
    (s.line.transaction = none → s.transmitted = []) ∧
    (∀ t, s.line.transaction = some t →
      (t.phase ≠ .sending → s.transmitted = []) ∧
      (t.phase = .sending →
        (∀ a, t.job = .poll a → s.transmitted = lineBits (framed (be8 a ++ [0x10#8]))) ∧
        (∀ n v removed, t.job = .set n v removed → s.transmitted =
          lineBits (framed (be8 (n / 8) ++ [0x21#8] ++ be8 (n % 8) ++ be16 v))))) ∧
    lineBits [] = [] ∧
    (∀ (b : Byte) (bs : List Byte), lineBits (b :: bs) =
      [.start, .data (b.getLsbD 0), .data (b.getLsbD 1), .data (b.getLsbD 2), .data (b.getLsbD 3),
        .data (b.getLsbD 4), .data (b.getLsbD 5), .data (b.getLsbD 6), .data (b.getLsbD 7), .stop] ++
      lineBits bs)

/-- Send pending (R91, R113). A changed target is recorded, and handed over while the point is sendable. With
a SET for the point on the line a re-evaluation changes nothing; otherwise send pending is set exactly when
the point is sendable and owes a resend or has a target that differs from both its acknowledged and its
declined setpoint. A resend request sets resend owed first; a withdrawal clears both. -/
def Obligations.SendPendingFollowsTheTarget : Prop :=
  ∀ (s : State) (n : Nat) (p : Point), s.point? n = some p →
    let sendable := p.mode = .auto ∨ p.closeOwed = true
    let wants := fun (target : Nat) (owed : Bool) => decide (sendable ∧
      (owed = true ∨ target ≠ p.field.acknowledged ∧ p.field.declined ≠ some target))
    (s.setTarget n p.target = s) ∧
    (∀ f, f ≠ p.target → (¬sendable ∨ s.line.settingPoint n = true) →
      s.setTarget n f = s.setPoint n { p with target := f }) ∧
    (∀ f, f ≠ p.target → sendable → s.line.settingPoint n = false →
      s.setTarget n f = s.setPoint n
        { p with target := f, field.sendPending := wants f p.field.resendOwed }) ∧
    (s.line.settingPoint n = true → s.reevaluate n = s) ∧
    (s.line.settingPoint n = false → s.reevaluate n =
      s.setPoint n { p with field.sendPending := wants p.target p.field.resendOwed }) ∧
    (s.line.settingPoint n = true →
      s.resend n = s.setPoint n { p with field.resendOwed := true }) ∧
    (s.line.settingPoint n = false → s.resend n =
      s.setPoint n { p with field.resendOwed := true, field.sendPending := wants p.target true }) ∧
    (s.withdraw n =
      s.setPoint n { p with field.sendPending := false, field.resendOwed := false })

/-- A polled station's timer reaches the poll interval (R108): a RESPONDING station is due; a SILENT one's
interval phase rises, and at 16 it is 0 and the station is due. The out frame's last byte begins the wait
for a reply; the kind byte of a reply fixes its length, and an unknown one fails the attempt with a
FRAME_ERROR report, whatever the address (R117, R119; the kinds known are log entry 19). Whether a final
attempt that fails so ends the transaction at once or waits for its deadline is left open, log entry 9: it
does one or the other. An attempt that reaches its deadline has failed (R117); one still sending has no
deadline yet, log entry 7. Unless it was the third, or the last attempt mark is set, the next attempt begins with the bit
rate and timeout that stand. Otherwise the transaction ends: a failed one counts at its station, which at
three is SILENT with a report (R107); a SET, failed or cut short, leaves its point with no setpoint in
flight and owing a resend while it is sendable, a failed one unconfirmed and reported (R115); one whose
point was removed changes no point and reports none, log entry 43. That a transaction with the last attempt mark ends cut short, even after
a third attempt, is log entry 18. -/
def Obligations.AttemptsRunToTheirDeadlines : Prop :=
  (∀ s : State,
     (∀ a, (s.station a).polled = false → exec (.pollIntervalElapsed a) s = .next s) ∧
     (∀ a, (s.station a).polled = true →
       let v := s.station a
       let w : Station :=
         if v.state = .responding then { v with due := true }
         else if v.interval + 1 < 16 then { v with interval := v.interval + 1 }
         else { v with interval := 0, due := true }
       exec (.pollIntervalElapsed a) s = .next (s.setStation a w).arbitrate) ∧
     (s.line.transaction = none →
       exec .outFrameSent s = .next s ∧ ∀ b k, exec (.replyKindByte b k) s = .next s) ∧
     (∀ t, s.line.transaction = some t →
       let phase := fun (x : Phase) (u : State) =>
         ({ u with line.transaction := some { t with phase := x } } : State)
       (t.phase = .sending → exec .outFrameSent s = .next (phase .waiting s)) ∧
       (t.phase ≠ .sending → exec .outFrameSent s = .next s) ∧
       (∀ b k, t.phase ≠ .waiting → exec (.replyKindByte b k) s = .next s) ∧
       (∀ b, t.phase = .waiting →
         exec (.replyKindByte b 0x90#8) s = .next (phase (.receiving 44) s) ∧
         exec (.replyKindByte b 0xA1#8) s = .next (phase (.receiving 7) s) ∧
         exec (.replyKindByte b 0xA2#8) s = .next (phase (.receiving 5) s)) ∧
       (∀ b k, t.phase = .waiting → k ≠ 0x90#8 → k ≠ 0xA1#8 → k ≠ 0xA2#8 →
         t.lastAttempt = false → t.attempt ≠ 3 →
         exec (.replyKindByte b k) s = .next
           (phase (.failed 0) (s.report .frameError (.number t.job.station))).arbitrate) ∧
       (∀ b k, t.phase = .waiting → k ≠ 0x90#8 → k ≠ 0xA1#8 → k ≠ 0xA2#8 →
         (t.lastAttempt = true ∨ t.attempt = 3) →
         let failed := phase (.failed 0) (s.report .frameError (.number t.job.station))
         exec (.replyKindByte b k) s = .next failed ∨
           exec (.replyKindByte b k) s = exec .attemptDeadline failed))) ∧
  (∀ s : State,
     (s.line.transaction = none → exec .attemptDeadline s = .next s) ∧
     (∀ t, s.line.transaction = some t →
       let final := t.lastAttempt = true ∨ t.attempt = 3
       let idle : State := { s with line.transaction := none }
       let fail := fun a : Nat =>
         let v := s.station a
         if v.state = .silent then idle
         else if v.failures + 1 < 3 then idle.setStation a { v with failures := v.failures + 1 }
         else
           (idle.setStation a
             { v with failures := 3, state := .silent, silentSince := some s.cal.slot }).report
               .stationSilent (.number a)
       let lost := fun (n : Nat) (p : Point) (u : State) =>
         let sendable := p.mode = .auto ∨ p.closeOwed = true
         let owed := p.field.resendOwed || decide sendable
         u.setPoint n
           { p with
             field.inFlight := none
             field.resendOwed := owed
             field.sendPending := decide (sendable ∧
               (owed = true ∨
                 p.target ≠ p.field.acknowledged ∧ p.field.declined ≠ some p.target)) }
       (t.phase = .sending → exec .attemptDeadline s = .next s) ∧
       (t.phase ≠ .sending → ¬final → exec .attemptDeadline s = .next { s with
         line.transaction := some
           { t with
             attempt := t.attempt + 1, phase := .sending, bitRate := s.settings.bitRate
             timeout := s.settings.timeout } }) ∧
       (t.phase ≠ .sending → final →
         (∀ a, t.job = .poll a → exec .attemptDeadline s = .next (fail a).arbitrate) ∧
         (∀ n v, t.job = .set n v true → t.lastAttempt = true →
           exec .attemptDeadline s = .next idle.arbitrate) ∧
         (∀ n v, t.job = .set n v true → t.lastAttempt = false →
           exec .attemptDeadline s = .next (fail (n / 8)).arbitrate) ∧
         (∀ n v p, t.job = .set n v false → s.point? n = some p → t.lastAttempt = true →
           exec .attemptDeadline s = .next (lost n p idle).arbitrate) ∧
         (∀ n v p, t.job = .set n v false → s.point? n = some p → t.lastAttempt = false →
           exec .attemptDeadline s = .next
             (lost n { p with field.unconfirmed := true }
               ((fail (n / 8)).report .setpointUnconfirmed (.number n))).arbitrate))))

/-- A complete reply to the attempt that awaits it (R117, R119). One whose CRC, address, kind and channel are
right ends the transaction and its station is RESPONDING (R107), that of a SET given no further attempt too
(log entry 45): a POLL_REPLY is delivered, channel by
channel, to the points that are not UNUSED (R120); a SET_ACK gives the point its acknowledged setpoint and
hands the applied one over, a differing one declined, unconfirmed and reported (R114; that the point is
re-evaluated before the applied setpoint is taken is log entry 40); a SET_LOCAL owes a
resend and reports the switch LOCAL (R115; of a point that is not sendable, log entry 35); a reply for a point that was removed is discarded. Any other is
a bad reply: FRAME_ERROR is reported and the attempt has failed; whether a final attempt that fails so ends
the transaction at once or waits for its deadline is left open, log entry 9. A frame whose kind byte fixes no
length fails the attempt as that byte does (log entry 19). A frame that arrives while no attempt awaits a
reply changes nothing (R118). -/
def Obligations.FieldReplyEndsTheTransaction : Prop :=
  ∀ (s : State) (frame : List Byte),
    (s.line.transaction = none → exec (.fieldReply frame) s = .next s) ∧
    (∀ t, s.line.transaction = some t →
      let k := byteAt frame 1
      let length := if k = 0x90#8 then 44 else if k = 0xA1#8 then 7 else 5
      let known := (k = 0x90#8 ∨ k = 0xA1#8 ∨ k = 0xA2#8) ∧ frame.length = length
      let a := t.job.station
      let v := s.station a
      let honest := frame = framed (frame.take (length - 2)) ∧ (byteAt frame 0).toNat = a
      let s1 := ({ s with line.transaction := none } : State).setStation a
        { v with
          state := .responding, failures := 0, lastReply := some s.cal.clock, silentSince := none,
          interval := 0 }
      let awaited := t.phase = .waiting ∨ t.phase = .receiving length
      let bad := (∃ b, t.job = .poll b ∧ k ≠ 0x90#8) ∨ (∃ n x y, t.job = .set n x y ∧
          (k = 0x90#8 ∨ (byteAt frame 2).toNat ≠ n % 8)) ∨ ¬honest
      (t.phase = .sending ∨ (∃ m, t.phase = .failed m) → exec (.fieldReply frame) s = .next s) ∧
      (known → awaited → honest → ∀ b, t.job = .poll b → k = 0x90#8 →
        let used := (List.range 8).filter (fun c => (s.point? (b * 8 + c)).isSome)
        let flags := fun c => byteAt frame (6 + 5 * c)
        exec (.fieldReply frame) s = .next ({ s1 with
          mail.gates := s.mail.gates ++ used.map (fun c =>
            { point := b * 8 + c
              switch := if (flags c).getLsbD 0 then .manual else .remote
              position := (byteAt frame (5 + 5 * c)).toNat
              fault := (flags c).getLsbD 2 })
          mail.readings := s.mail.readings ++ used.map (fun c =>
            { point := b * 8 + c
              totalizer := number ((frame.drop (2 + 5 * c)).take 3)
              fault := (flags c).getLsbD 1 }) } : State).arbitrate) ∧
      (known → awaited → honest → ∀ n x, t.job = .set n x true →
        k ≠ 0x90#8 → (byteAt frame 2).toNat = n % 8 →
        exec (.fieldReply frame) s = .next s1.arbitrate) ∧
      (known → awaited → honest → ∀ n x p, t.job = .set n x false → s.point? n = some p →
        (byteAt frame 2).toNat = n % 8 →
        (k = 0xA1#8 →
          let applied := number ((frame.drop 3).take 2)
          let declined := if applied = x then none else some x
          let q : Point :=
            { p with
              field.acknowledged := applied
              field.unconfirmed := decide (applied ≠ x)
              field.declined := declined
              field.inFlight := none
              field.sendPending := decide ((p.mode = .auto ∨ p.closeOwed = true) ∧
                (p.field.resendOwed = true ∨ p.target ≠ applied ∧ declined ≠ some p.target)) }
          let s2 := s1.setPoint n q
          let s3 := if applied = x then s2 else s2.report .setpointUnconfirmed (.number n)
          exec (.fieldReply frame) s = .next ({ s3 with
            mail.applied := s.mail.applied ++ [{ point := n, flow := applied }] } : State).arbitrate) ∧
        (k = 0xA2#8 →
          exec (.fieldReply frame) s = .next
            ((s1.setPoint n
              { p with field.inFlight := none, field.resendOwed := true }).switchLocal n).arbitrate)) ∧
      (known → awaited → bad → t.lastAttempt = false → t.attempt ≠ 3 →
        exec (.fieldReply frame) s = .next
          ({ s.report .frameError (.number a) with
            line.transaction := some { t with phase := .failed length } } : State).arbitrate) ∧
      (known → awaited → bad → (t.lastAttempt = true ∨ t.attempt = 3) →
        let failed : State :=
          { s.report .frameError (.number a) with
            line.transaction := some { t with phase := .failed length } }
        exec (.fieldReply frame) s = .next failed ∨
          exec (.fieldReply frame) s = exec .attemptDeadline failed) ∧
      (k ≠ 0x90#8 → k ≠ 0xA1#8 → k ≠ 0xA2#8 → 2 ≤ frame.length → t.phase = .waiting →
        exec (.fieldReply frame) s = exec (.replyKindByte (byteAt frame 0) k) s))

/-! ### Metering and attribution (chapter 7) -/

/-- METER_READING takes an outstanding delivery by the meter's state (R125). A meterless point and a missing
one discard it. A fault flag makes a meter that has not failed FAILED, reported. A REBASE or FAILED meter
takes the totalizer as its baseline (R130). Else the reading is converted (R126): a volume above the limit
is held and reported, at the third in a row FAILED (R127, R128); any other is accepted, and a volume above 0
is attributed and posted (R129). That the first posting made of the increment reports a full season counter of
the point, and that a point without an account reports nothing, is log entry 17. What is not outstanding changes
nothing: log entry 2. -/
def Obligations.MeterReadingFollowsTheMeterState : Prop :=
  ∀ (s : State) (n N : Nat) (fault : Bool),
    let g : Reading := { point := n, totalizer := N, fault := fault }
    let c := Instr.meterReading n N fault
    (g ∉ s.mail.readings → exec c s = .next s) ∧
    (∀ before after, s.mail.readings = before ++ g :: after → g ∉ before →
      let s0 : State := { s with mail.readings := before ++ after }
      (s.point? n = none → exec c s = .next s0) ∧
      (∀ p, s.point? n = some p →
        let m := p.meter
        let meter := fun m : Meter => s0.setPoint n { p with meter := m }
        let converted := m.state = .normal ∨ m.state = .suspect
        let product := (N + 16777216 - m.baseline) % 16777216 * p.active.mantissa + m.residual
        let v := product / 2 ^ p.active.shift
        let limit := p.rated * 75 * max 1 (s.cal.clock - m.lastMinute)
        let accepted := meter
          { m with
            baseline := N, residual := product % 2 ^ p.active.shift, lastMinute := s.cal.clock
            suspects := 0, state := .normal, seasonMetered := min 4294967295 (m.seasonMetered + v) }
        (m.state = .meterless ∨ m.state = .failed ∧ fault = true → exec c s = .next s0) ∧
        (m.state ≠ .meterless → m.state ≠ .failed → fault = true →
          exec c s = .next ((meter { m with state := .failed }).report .meterFailed (.number n))) ∧
        (m.state = .rebase ∨ m.state = .failed → fault = false →
          exec c s = .next (meter
            { m with
              baseline := N, residual := 0, suspects := 0, lastMinute := s.cal.clock
              state := .normal })) ∧
        (converted → fault = false → limit < v → m.suspects + 1 ≠ 3 →
          exec c s = .next ((meter
            { m with suspects := m.suspects + 1, state := .suspect }).report
              .meterImplausible (.number n))) ∧
        (converted → fault = false → limit < v → m.suspects + 1 = 3 →
          exec c s = .next (((meter { m with suspects := 3, state := .failed }).report
            .meterImplausible (.number n)).report .meterFailed (.number n))) ∧
        (converted → fault = false → v ≤ limit → (p.account = none ∨ v = 0) →
          exec c s = .next accepted) ∧
        (converted → fault = false → v ≤ limit → 0 < v → ∀ a, p.account = some a →
          exec c s = .next (accepted.postAll a false (accepted.measuredPlaces n p v)
            (decide (4294967295 < m.seasonMetered + v))))))

/-- Where an increment of v litres goes (R135, R136, R137). Measured: in frost it is split; else to the
point's RUNNING or SUSPENDED order; else to its closing order, as tail; else to the unordered bucket.
Estimated for slot u: in frost it is split by the slot order; else to the slot order; else unordered. A split
gives the order v × S ÷ T, rounded down, and the frost bucket the rest, in that order (log entry 37). The
share of a CLOSING slot order is tail water when the order was cut (R136), and not when its window ended, so that
it is the same before and after the boundary (R138; log entry 10). The due order is one of
the point's that is RUNNING or SUSPENDED; the closing order is the latest of its CLOSING ones, by start and
then by placement sequence (R43, R44); the slot order is one of the point's, RUNNING, SUSPENDED or CLOSING,
whose window contains slot u, at or before its cut slot if it has one (R137). There is none only when no
order of the point is such. -/
def Obligations.IncrementsAreAttributed : Prop :=
  (∀ (b : OrderBook) (n u : Nat),
    let due := fun o : Order => o.point = n ∧ (o.state = .running ∨ o.state = .suspended)
    let closing := fun o : Order => o.point = n ∧ o.state = .closing
    let ofSlot := fun o : Order =>
      (due o ∨ closing o) ∧ o.start ≤ u ∧ u < o.start + o.duration ∧ ∀ c, o.cut = some c → u ≤ c
    (∀ e, b.dueOrder n = some e → e ∈ b.orders ∧ due e.2) ∧
    (b.dueOrder n = none → ∀ e ∈ b.orders, ¬due e.2) ∧
    (∀ e, b.closingOrder n = some e → e ∈ b.orders ∧ closing e.2 ∧
      ∀ x ∈ b.orders, closing x.2 → x.2.start < e.2.start ∨
        x.2.start = e.2.start ∧ x.2.sequence ≤ e.2.sequence) ∧
    (b.closingOrder n = none → ∀ e ∈ b.orders, ¬closing e.2) ∧
    (∀ e, b.slotOrder n u = some e → e ∈ b.orders ∧ ofSlot e.2) ∧
    (b.slotOrder n u = none → ∀ e ∈ b.orders, ¬ofSlot e.2)) ∧
  ∀ (s : State) (n : Nat) (p : Point) (v u : Nat),
    let split := fun (flow : Nat) (place : Place) =>
      if max flow p.frostRate = 0 then [(v, Place.frost)]
      else
        let share := v * flow / max flow p.frostRate
        [(share, place), (v - share, Place.frost)]
    (p.backup = none →
      (∀ i o, s.obk.dueOrder n = some (i, o) → s.measuredPlaces n p v = [(v, .order i false)]) ∧
      (∀ i o, s.obk.dueOrder n = none → s.obk.closingOrder n = some (i, o) →
        s.measuredPlaces n p v = [(v, .order i true)]) ∧
      (s.obk.dueOrder n = none → s.obk.closingOrder n = none →
        s.measuredPlaces n p v = [(v, .unordered)]) ∧
      (∀ i o, s.obk.slotOrder n u = some (i, o) →
        s.estimatedPlaces n p u v = [(v, .order i false)]) ∧
      (s.obk.slotOrder n u = none → s.estimatedPlaces n p u v = [(v, .unordered)])) ∧
    (∀ b, p.backup = some b →
      (∀ h i o, b.order = some h → s.obk.named? h = some (i, o) → o.live = true →
        s.measuredPlaces n p v = split b.flow (.order i (decide (o.state = .closing)))) ∧
      ((∀ h i o, b.order = some h → s.obk.named? h = some (i, o) → o.live = false) →
        s.measuredPlaces n p v = split b.flow .unordered) ∧
      (∀ i o, s.obk.slotOrder n u = some (i, o) →
        s.estimatedPlaces n p u v =
          split o.flow (.order i (decide (o.state = .closing ∧ o.cut.isSome = true)))) ∧
      (s.obk.slotOrder n u = none → s.estimatedPlaces n p u v = split 0 .unordered))

/-- One posting of v litres for an account (R139 to R142, R152 to R156). The order's delivered, estimated
and tail volumes and its share follow; the bucket's season and period volumes, the estimated volumes and
the bucket's cents grow, each holding at its top; cents and residual come of residual plus product.
Ordered water is priced in four tiers from the used volume on, other water at its flat rate. The mark is
set when the reported standing changes, and a counter that cannot take its addition is reported. Nothing
else changes. The parts of an ordered posting in the four tiers sum to the posting, for a class whose
boundaries do not fall (R153). -/
def Obligations.PostingChargesTheAccount : Prop :=
  (∀ (s : State) (n v : Nat) (estimated short : Bool) (place : Place) (a : Account),
     s.account? n = some a →
     let t := s.tariff a.cls
     let top := fun x : Nat => min 4294967295 x
     let e := if estimated then v else 0
     let c := a.seasonOrdered + a.seasonUnordered
     let edge := fun b : Nat => top (a.effective * b / 10000)
     let part := fun lo hi : Nat => min (c + v) hi - max c lo
     let q := match place with
       | .order _ _ => part 0 (edge t.b1) * t.r0 + part (edge t.b1) (edge t.b2) * t.r1 +
           part (edge t.b2) (edge t.b3) * t.r2 + part (edge t.b3) (c + v) * t.r3
       | .unordered => v * t.unordered
       | .frost => v * t.frost
     let cents := (a.residual + q) / 100000
     let a1 : Account :=
       { a with
         seasonEstimated := top (a.seasonEstimated + e), periodEstimated := top (a.periodEstimated + e)
         residual := (a.residual + q) % 100000 }
     let a2 : Account := match place with
       | .order _ _ =>
         { a1 with
           seasonOrdered := top (a.seasonOrdered + v), periodOrdered := top (a.periodOrdered + v)
           centsOrdered := top (a.centsOrdered + cents) }
       | .unordered =>
         { a1 with
           seasonUnordered := top (a.seasonUnordered + v)
           periodUnordered := top (a.periodUnordered + v)
           centsUnordered := top (a.centsUnordered + cents) }
       | .frost =>
         { a1 with
           seasonFrost := top (a.seasonFrost + v), periodFrost := top (a.periodFrost + v)
           centsFrost := top (a.centsFrost + cents) }
     let a3 : Account := { a2 with mark := a.mark || decide (a.reported ≠ a2.reported) }
     let u := s.post n v estimated place short
     let past := fun x : Nat => decide (4294967295 < x)
     let held := past (a.seasonEstimated + e) || past (a.periodEstimated + e) ||
       (match place with
         | .order _ _ =>
           past (a.seasonOrdered + v) || past (a.periodOrdered + v) || past (a.centsOrdered + cents)
         | .unordered =>
           past (a.seasonUnordered + v) || past (a.periodUnordered + v) ||
             past (a.centsUnordered + cents)
         | .frost => past (a.seasonFrost + v) || past (a.periodFrost + v) || past (a.centsFrost + cents))
     let reported := fun full : Bool =>
       if full then [({ kind := .counterSaturated, ref := .number n } : Report)] else []
     (place = .unordered ∨ place = .frost →
       u.account? n = some a3 ∧ (∀ m, m ≠ n → u.account? m = s.account? m) ∧
       u = { s with
         accounts := u.accounts
         mail.reports := s.mail.reports ++
           reported (short || held) }) ∧
     (∀ i tail o, place = .order i tail → cell? s.obk.orders i = some o → o.account = n → o.live = true →
       o.state ≠ .pendingWait → o.ordered - o.delivered ≤ a.reserved →
       let o' : Order :=
         { o with
           delivered := top (o.delivered + v), estimated := top (o.estimated + e)
           tail := top (o.tail + (if tail then v else 0)) }
       let full := past (o.delivered + v) || past (o.estimated + e) ||
         past (o.tail + (if tail then v else 0))
       let share := fun o : Order => if o.state = .confirmed ∨ o.due = true ∨ o.state = .closing then
         o.ordered - o.delivered else 0
       (∀ j, cell? u.obk.orders j = if j = i then some o' else cell? s.obk.orders j) ∧
       u.account? n = some { a3 with reserved := a.reserved - share o + share o' } ∧
       (∀ m, m ≠ n → u.account? m = s.account? m) ∧
       u = { s with
         obk.orders := u.obk.orders, accounts := u.accounts
         mail.reports := s.mail.reports ++
           reported (short || full || held) })) ∧
  (∀ (effective b1 b2 b3 c v : Nat), b1 ≤ b2 → b2 ≤ b3 →
     let B1 := tierBoundary effective b1
     let B2 := tierBoundary effective b2
     let B3 := tierBoundary effective b3
     tierPart c v 0 B1 + tierPart c v B1 B2 + tierPart c v B2 B3 + tierPart c v B3 (c + v) = v)

/-- METER_REBASE makes a meter that has a calibration take its next reading as its baseline, and answers with
the state before (R132). METER_BOUNDARY takes the oldest boundary: unless the line is STOPPED, a NORMAL or
SUSPECT meter whose station has been SILENT since slot t − 2 or earlier is FAILED and reported (R131); then
every turnout that is meterless or FAILED is estimated at its acknowledged setpoint over slot t − 1, in point
order: log entry 36 (R134). The first posting made of an increment reports a season counter that holds (log
entry 17). With no boundary presented METER_BOUNDARY changes nothing: log entry 2. -/
def Obligations.RebaseAndBoundaryActOnTheMeters : Prop :=
  ∀ s : State,
    (∀ n, s.handed (.meterRebase n) = true →
      let c := Instr.meterRebase n
      (1023 < n → Refuses c s .badParam) ∧
      (n ≤ 1023 → s.point? n = none → Refuses c s .noSuchPoint) ∧
      (n ≤ 1023 → ∀ p, s.point? n = some p →
        (p.meter.state = .meterless → Refuses c s .wrongState) ∧
        (p.meter.state ≠ .meterless →
          Completes c s
            (s.setPoint n
              { p with meter := { p.meter with state := .rebase, residual := 0, suspects := 0 } })
            (answer .done (be8 p.meter.state.code))))) ∧
    (s.mail.meter = [] → exec .meterBoundary s = .next s) ∧
    (∀ t rest, s.mail.meter = t :: rest →
      let s0 : State := { s with mail.meter := rest }
      let points := s.points.map (fun e => e.1)
      let tested := if s.line.mode = .stopped then s0
        else points.foldl (fun u n => u.silentMeter t n) s0
      exec .meterBoundary s = .next
        ((tested.points.map (fun e => e.1)).foldl (fun u n => u.estimate (t - 1) n) tested)) ∧
    (∀ t n p, s.point? n = some p →
      let v := s.station (n / 8)
      let silent := (p.meter.state = .normal ∨ p.meter.state = .suspect) ∧ v.state = .silent ∧
        ∃ k, v.silentSince = some k ∧ k + 2 ≤ t
      (silent → s.silentMeter t n =
        (s.setPoint n { p with meter.state := .failed }).report .meterFailed (.number n)) ∧
      (¬silent → s.silentMeter t n = s)) ∧
    (∀ k n p, s.point? n = some p →
      let v := p.field.acknowledged * 900
      let estimated := p.kind = .turnout ∧ (p.meter.state = .meterless ∨ p.meter.state = .failed)
      let s1 := s.setPoint n
        { p with meter.seasonEstimated := min 4294967295 (p.meter.seasonEstimated + v) }
      (¬estimated → s.estimate k n = s) ∧
      (estimated → p.account = none → s.estimate k n = s1) ∧
      (estimated → ∀ a, p.account = some a → s.estimate k n =
        s1.postAll a true (s1.estimatedPlaces n p k v)
          (decide (4294967295 < p.meter.seasonEstimated + v)))) ∧
    (∀ (n : Nat) (est short : Bool) (v : Nat) (place : Place) (rest : List (Nat × Place)),
      s.postAll n est [] short = s ∧
      s.postAll n est ((v, place) :: rest) short =
        if v = 0 then s.postAll n est rest short
        else (s.post n v est place short).postAll n est rest false)

/-! ### Accounts (section 1.4, chapter 8) -/

/-- Effective allocation, standing and reported standing come of the record (R145, R148). ACCOUNT_SET opens a
VACANT account, reopens a CLOSED one, and replaces class and base (R14); a higher effective allocation of an
OPEN account starts a re-examination. ACCOUNT_SUSPEND cancels the CONFIRMED and waiting orders, first to last
in the chain, each marked (R15). ACCOUNT_RESUME opens (R16). ACCOUNT_CLOSE needs no live order and no turnout
(R17). A change of the reported standing sets the mark (R162). Refusals change nothing. Which of them starts
a re-examination is log entry 21: none when a CLOSED account reopens, one at ACCOUNT_SUSPEND only when
something was cancelled. -/
def Obligations.AccountRequestsMoveTheAccount : Prop :=
  (∀ a : Account,
    a.effective = min 4294967295
      (((a.base * a.curtailment / 10000 : Nat) : Int) + a.transferNet).toNat ∧
    a.reported =
      if a.state = .suspended then .suspended else if a.state = .closed then .closed
      else if a.effective < a.seasonOrdered + a.seasonUnordered then .over
      else if a.effective * 9000 ≤ (a.seasonOrdered + a.seasonUnordered) * 10000 then .near
      else .good) ∧
  ∀ (s : State) (n : Nat),
    let writes := fun (t : State) (b : Account) =>
      t = { s with accounts := t.accounts } ∧
        ∀ m, t.account? m = if m = n then some b else s.account? m
    (∀ cls base, s.handed (.accountSet n cls base) = true →
      let c := Instr.accountSet n cls base
      (767 < n ∨ 7 < cls → Refuses c s .badParam) ∧
      (n ≤ 767 → cls ≤ 7 → s.account? n = none →
        ∃ t, Completes c s t doneReply ∧ writes t
          { state := .opened, cls := cls, base := base, curtailment := 10000, transferNet := 0,
            seasonOrdered := 0, seasonUnordered := 0, seasonFrost := 0, seasonEstimated := 0,
            reserved := 0, periodOrdered := 0, periodUnordered := 0, periodFrost := 0,
            periodEstimated := 0, centsOrdered := 0, centsUnordered := 0, centsFrost := 0,
            residual := 0, period := 0, statement := none, live := 0, mark := true }) ∧
      (n ≤ 767 → cls ≤ 7 → ∀ a, s.account? n = some a →
        let b : Account :=
          { a with
            state := if a.state = .closed then .opened else a.state, cls := cls, base := base }
        ∃ t, writes t { b with mark := a.mark || decide (a.reported ≠ b.reported) } ∧
          Completes c s
            (if a.state = .opened ∧ a.effective < b.effective then t.startReexamination.arbitrate
              else t) doneReply)) ∧
    (s.handed (.accountSuspend n) = true →
      let c := Instr.accountSuspend n
      (767 < n → Refuses c s .badParam) ∧
      (n ≤ 767 → s.account? n = none → Refuses c s .noSuchAccount) ∧
      (n ≤ 767 → ∀ a, s.account? n = some a →
        (a.state ≠ .opened → Refuses c s .wrongState) ∧
        (a.state = .opened → ∃ t, writes t { a with state := .suspended, mark := true } ∧
          (let gone := (s.obk.accountChain n).filter
            (fun e => decide (e.2.state = .confirmed ∨ e.2.state = .pendingWait))
          let t' := gone.foldl (fun u e =>
            match cell? u.obk.orders e.1 with
            | none => u
            | some o => (u.cancelOrder e.1 o .accountSuspended).markOrder e.1) t
          Completes c s (if gone = [] then t' else t'.startReexamination).arbitrate
            (answer .done (be16 gone.length)))))) ∧
    (s.handed (.accountResume n) = true →
      let c := Instr.accountResume n
      (767 < n → Refuses c s .badParam) ∧
      (n ≤ 767 → s.account? n = none → Refuses c s .noSuchAccount) ∧
      (n ≤ 767 → ∀ a, s.account? n = some a →
        (a.state ≠ .suspended → Refuses c s .wrongState) ∧
        (a.state = .suspended → ∃ t, writes t { a with state := .opened, mark := true } ∧
          Completes c s t.startReexamination.arbitrate doneReply))) ∧
    (s.handed (.accountClose n) = true →
      let c := Instr.accountClose n
      let named := ∃ e ∈ s.points, e.2.kind = .turnout ∧ e.2.account = some n
      (767 < n → Refuses c s .badParam) ∧
      (n ≤ 767 → s.account? n = none → Refuses c s .noSuchAccount) ∧
      (n ≤ 767 → ∀ a, s.account? n = some a →
        (a.state = .closed → Refuses c s .wrongState) ∧
        (a.state ≠ .closed → (0 < a.live ∨ named) → Refuses c s .inUse) ∧
        (a.state ≠ .closed → a.live = 0 → ¬named → ∃ t, Completes c s t doneReply ∧
          writes t { a with state := .closed, mark := true })))

/-- TRANSFER makes its five checks in order, then moves the litres from one transfer net to the other, marks
an account whose reported standing changed, starts a re-examination and answers with both accounts' figures
(R149, R150). PERIOD_CLOSE with scope ACCOUNT replaces the statement, returns the period's volumes and cents
to 0, advances the period number and retires the account's finished orders (R159, R160).
NEXT_ACCOUNT_CHANGED answers the marked account with the lowest number and clears its mark, or NONE (R163).
That TRANSFER always starts a re-examination is log entry 21, that it answers the figures from before that
is log entry 27. -/
def Obligations.TransferCloseAndNextChangedActOnAccounts : Prop :=
  ∀ s : State,
    (∀ g t v, s.handed (.transfer g t v) = true →
      let c := Instr.transfer g t v
      let bad := 767 < g ∨ 767 < t ∨ g = t ∨ v < 1 ∨ 4294967295 < v
      (bad → Refuses c s .badParam) ∧
      (¬bad → s.account? g = none ∨ s.account? t = none → Refuses c s .noSuchAccount) ∧
      (¬bad → ∀ a b, s.account? g = some a → s.account? t = some b →
        let opened := a.state = .opened ∧ b.state = .opened
        let range := -4294967295 ≤ a.transferNet - v ∧ b.transferNet + v ≤ 4294967295
        (¬opened → Refuses c s .accountNotOpen) ∧
        (opened → a.available < v → Refuses c s .allocationShort) ∧
        (opened → (v : Int) ≤ a.available → ¬range → Refuses c s .badParam) ∧
        (opened → (v : Int) ≤ a.available → range →
          let moved := fun (x : Account) (net : Int) =>
            let y : Account := { x with transferNet := net }
            ({ y with mark := x.mark || decide (x.reported ≠ y.reported) } : Account)
          let a' := moved a (a.transferNet - v)
          let b' := moved b (b.transferNet + v)
          let figures := fun x : Account =>
            signed32 x.transferNet ++ be32 x.effective ++ signed40 x.available
          ∃ u : State, u = { s with accounts := u.accounts } ∧
            (∀ m, u.account? m = if m = g then some a' else if m = t then some b' else s.account? m) ∧
            Completes c s u.startReexamination.arbitrate
              (answer .done (figures a' ++ figures b'))))) ∧
    (∀ scope n, s.handed (.periodClose scope n) = true →
      let c := Instr.periodClose scope n
      (2 < scope → Refuses c s .badParam) ∧
      (scope = 0 → 767 < n → Refuses c s .badParam) ∧
      (scope = 0 → n ≤ 767 → s.sweeping = true → Refuses c s .busySweep) ∧
      (scope = 0 → n ≤ 767 → s.sweeping = false → s.account? n = none → Refuses c s .noSuchAccount) ∧
      (scope = 0 → n ≤ 767 → s.sweeping = false → ∀ a, s.account? n = some a →
        let total := min 4294967295 (a.centsOrdered + a.centsUnordered + a.centsFrost)
        let finished := (s.obk.accountChain n).filter (fun e => !e.2.live)
        ∃ u : State, u = { s with accounts := u.accounts } ∧
          (∀ m, u.account? m = if m = n then some
              { a with
                statement := some
                  { period := a.period, ordered := a.periodOrdered, unordered := a.periodUnordered,
                    frost := a.periodFrost, estimated := a.periodEstimated,
                    centsOrdered := a.centsOrdered, centsUnordered := a.centsUnordered,
                    centsFrost := a.centsFrost, total := total, standing := a.reported,
                    minute := s.cal.clock }
                periodOrdered := 0, periodUnordered := 0, periodFrost := 0, periodEstimated := 0,
                centsOrdered := 0, centsUnordered := 0, centsFrost := 0
                period := if a.period = 65535 then 0 else a.period + 1 }
            else s.account? m) ∧
          Completes c s (finished.foldl (fun u e => u.retireEntry e.1) u)
            (answer .done (be16 a.period ++ be32 total ++ be16 finished.length)))) ∧
    (s.handed .nextAccountChanged = true →
      let marked := s.accounts.filter (fun e => e.2.mark)
      (marked = [] → Completes .nextAccountChanged s s (answer .nothing [])) ∧
      (∀ n a rest, marked = (n, a) :: rest →
        ∃ u : State, u = { s with accounts := u.accounts } ∧
          (∀ m, u.account? m = if m = n then some { a with mark := false } else s.account? m) ∧
          Completes .nextAccountChanged s u (answer .done
            (be16 n ++ be8 (AccountState.code (some a.state)) ++ be8 a.reported.code ++
              be32 a.effective ++ be40 (a.seasonOrdered + a.seasonUnordered) ++ be16 rest.length))))

/-! ### District sweeps (chapter 9) -/

/-- CURTAIL, SEASON_OPEN and PERIOD_CLOSE with scope CLASS or DISTRICT make their checks, are refused
BUSY_SWEEP while a sweep is in progress, and else start their sweep: the status record is replaced whole and
the answer is ACCEPTED with it (R164, R165, R169, R177, R178). A CURTAIL whose actual scope is NONE answers
DONE and starts none. SEASON_OPEN takes its opening step at once. SWEEP_QUERY answers the record and clears
the done indication (R167). SWEEP_BOUNDARY moves the cursor of a supply bump in progress past slots that have
gone (R174); that it goes by the calendar's slot when it is taken is log entry 23, that it changes nothing
with no boundary presented log entry 2. The layout of ACCEPTED, with no parameter bytes for a sweep without
parameters, is log entry 13, that of SWEEP_QUERY before the first sweep log entry 27. -/
def Obligations.SweepsStartAndAreRead : Prop :=
  ∀ s : State,
    let sweep := fun (k : SweepKind) (asked actual : Scope) (q : Option Nat) (d : Option Drain)
        (cursor : Nat) =>
      ({ kind := k, requested := asked, actual := actual, share := q, drain := d, cursor := cursor,
         counts := { changed := 0, cancelled := 0, shortened := 0, ended := 0, bumped := 0,
                     requeued := 0 }
         state := .inProgress } : Sweep)
    let started := fun (w : Sweep) => ({ s with sweep := { status := some w, done := false } } : State)
    (∀ scope cls base size share drain, s.handed (.curtail scope cls base size share drain) = true →
      let c := Instr.curtail scope cls base size share drain
      let asked := if scope = 0 then Scope.district else if scope = 1 then .cls cls
        else .block base size
      let valid := ∃ k, k ≤ 10 ∧ size = 2 ^ k ∧ base % size = 0
      let q := min 10000 share
      let d := if drain = 0 then Drain.letRun else .stopRunning
      let starts := fun (actual : Scope) (first : Nat) =>
        let w := sweep .curtail asked actual (some q) (some d) first
        Completes c s (started w)
          (answer .accepted (be8 0 ++ asked.bytes ++ actual.bytes ++ be16 q ++ be8 drain))
      let nothing := Completes c s s (answer .done (asked.bytes ++ Scope.nowhere.bytes ++ be16 q))
      (2 < scope ∨ 1 < drain → Refuses c s .badParam) ∧
      (scope ≤ 2 → drain ≤ 1 → s.sweeping = true → Refuses c s .busySweep) ∧
      (drain ≤ 1 → s.sweeping = false →
        (scope = 0 → starts .district 0) ∧
        (scope = 1 → cls ≤ 7 → starts (.cls cls) 0) ∧
        (scope = 1 → 7 < cls → nothing) ∧
        (scope = 2 → ¬valid → nothing) ∧
        (scope = 2 → size = 1024 → base = 0 → starts .district 0) ∧
        (scope = 2 → valid → ¬(size = 1024 ∧ base = 0) → starts (.block base size) (min 768 base)))) ∧
    (s.handed .seasonOpen = true →
      let w := sweep .seasonOpen .district .district none none 0
      let raised := ∃ e ∈ s.accounts, e.2.curtailment < 10000
      (s.sweeping = true → Refuses .seasonOpen s .busySweep) ∧
      (s.sweeping = false → (∃ e ∈ s.obk.orders, e.2.live = true) →
        Refuses .seasonOpen s .inUse) ∧
      (s.sweeping = false → (∀ e ∈ s.obk.orders, e.2.live = false) →
        ∃ u : State, u = { started w with
            accounts := u.accounts, obk := { s.obk with owed := u.obk.owed } } ∧
          (∀ n, u.account? n = (s.account? n).map (fun a =>
            let b : Account := { a with transferNet := 0, curtailment := 10000 }
            { b with mark := a.mark || decide (a.reported ≠ b.reported) })) ∧
          (u.obk.owed = true ↔ s.obk.owed = true ∨ raised) ∧
          Completes .seasonOpen s u
            (answer .accepted (be8 3 ++ Scope.district.bytes ++ Scope.district.bytes)))) ∧
    (∀ scope n, s.handed (.periodClose scope n) = true →
      let c := Instr.periodClose scope n
      let starts := fun actual : Scope =>
        let w := sweep .periodClose actual actual none none 0
        Completes c s (started w) (answer .accepted (be8 2 ++ actual.bytes ++ actual.bytes))
      (scope = 1 → 7 < n % 256 → Refuses c s .badParam) ∧
      (scope = 1 → n % 256 ≤ 7 → s.sweeping = true → Refuses c s .busySweep) ∧
      (scope = 1 → n % 256 ≤ 7 → s.sweeping = false → starts (.cls (n % 256))) ∧
      (scope = 2 → s.sweeping = true → Refuses c s .busySweep) ∧
      (scope = 2 → s.sweeping = false → starts .district)) ∧
    (s.handed .sweepQuery = true →
      Completes .sweepQuery s { s with sweep.done := false }
        (answer .done (match s.sweep.status with
          | none => Sweep.bytes none
          | some w => be8 (sweepKindCode w.kind) ++ w.requested.bytes ++ w.actual.bytes ++
              opt16 w.share ++ opt8 (w.drain.map Drain.code) ++ be32 w.cursor ++ w.counts.bytes ++
              be8 w.state.code))) ∧
    (s.mail.sweep = [] → exec .sweepBoundary s = .next s) ∧
    (∀ t rest, s.mail.sweep = t :: rest →
      let s0 : State := { s with mail.sweep := rest }
      let passed := fun w : Sweep =>
        w.kind = .supplyBump ∧ w.state = .inProgress ∧ w.cursor < s.cal.slot
      (∀ w, s.sweep.status = some w → passed w →
        exec .sweepBoundary s =
          .next { s0 with sweep.status := some { w with cursor := s.cal.slot } }) ∧
      ((∀ w, s.sweep.status = some w → ¬passed w) → exec .sweepBoundary s = .next s0))

/-- A CURTAIL step visits the account at the cursor and moves the cursor on (R170). An account in scope takes
the sweep's curtailment. While its reserved outstanding exceeds the room, its CONFIRMED order nearest the end
of the account chain is trimmed by the fewest whole slots that bring it to the room, or cancelled CURTAILED
when that would take the whole order (R171); a trim releases these slots alone (R58; log entry 38). With STOP_RUNNING its RUNNING and SUSPENDED orders are then
ended, latest first, while an excess remains (R172). Both walks go on until no excess or no such order is
left. A step that changed the curtailment or an order marks and counts the account; one that freed capacity
or allocation owes a re-examination (R173). That an account passed over is a step event of its own, which
moves the cursor alone, and that the row changes nothing when there is no visit to make, is the model's reading,
log entry 24. -/
def Obligations.CurtailStepTrimsThenDrains : Prop :=
  let count := fun (f : Counts → Counts) (t : State) =>
    ({ t with sweep.status := t.sweep.status.map (fun w => { w with counts := f w.counts }) } : State)
  (∀ s : State, s.sweep.status = none → exec .curtailStep s = .next s) ∧
  (∀ (s : State) (w : Sweep), s.sweep.status = some w →
    let visits := w.kind = .curtail ∧ w.state = .inProgress ∧ w.cursor < w.actual.limit
    let n := w.cursor
    let inScope := fun a : Account => a.state ≠ .closed ∧ ∀ c, w.actual = .cls c → a.cls = c
    let moved := fun t : State =>
      ({ t with sweep.status := t.sweep.status.map (fun w => { w with cursor := n + 1 }) } : State)
    (¬visits → exec .curtailStep s = .next s) ∧
    (visits → (∀ a, s.account? n = some a → ¬inScope a) →
      exec .curtailStep s = .next (moved s).arbitrate) ∧
    (visits → ∀ a q d, s.account? n = some a → inScope a → w.share = some q → w.drain = some d →
      let b : Account := { a with curtailment := q }
      let s1 := s.setAccount n { b with mark := a.mark || decide (a.reported ≠ b.reported) }
      let r1 := State.trimLoop n s.obk.orders.length (s1, false)
      let r2 := if d = .letRun then r1 else State.drainLoop n s.obk.orders.length r1
      let u : State := if r2.2 = true ∨ a.curtailment < q then
        { r2.1 with obk.owed := true } else r2.1
      exec .curtailStep s = .next
        (moved (if r2.2 = true ∨ a.curtailment ≠ q then u.accountChanged n else u)).arbitrate)) ∧
  (∀ (t : State) (n : Nat) (b : Account), t.account? n = some b →
    t.accountChanged n =
      count (fun c => { c with changed := min 65535 (c.changed + 1) })
        (t.setAccount n { b with mark := true })) ∧
  (∀ (t : State) (n : Nat) (a : Account), t.account? n = some a →
    t.excess n = a.reserved - (a.effective - (a.seasonOrdered + a.seasonUnordered))) ∧
  -- the order that a walk takes next, and when the walk ends
  (∀ (t : State) (n fuel : Nat) (changed : Bool),
    let confirmed := (t.obk.accountChain n).reverse.find? (fun e => decide (e.2.state = .confirmed))
    let due := (t.obk.accountChain n).reverse.find?
      (fun e => decide (e.2.state = .running ∨ e.2.state = .suspended))
    (t.excess n = 0 → State.trimLoop n fuel (t, changed) = (t, changed) ∧
      State.drainLoop n fuel (t, changed) = (t, changed)) ∧
    (confirmed = none → State.trimLoop n fuel (t, changed) = (t, changed)) ∧
    (due = none → State.drainLoop n fuel (t, changed) = (t, changed)) ∧
    (∀ i o, 0 < t.excess n → confirmed = some (i, o) →
      State.trimLoop n (fuel + 1) (t, changed) =
        State.trimLoop n fuel (t.trimOne i o (t.excess n), true)) ∧
    (∀ i o, 0 < t.excess n → due = some (i, o) →
      State.drainLoop n (fuel + 1) (t, changed) = State.drainLoop n fuel (t.drainOne i o, true))) ∧
  (∀ (t : State) (n : Nat) (changed : Bool), t.booked →
    let drained := (State.drainLoop n t.obk.orders.length (t, changed)).1
    (drained.excess n = 0 ∨ ∀ e ∈ drained.obk.orders, e.2.account = n → e.2.due = false) ∧
    ((∀ e ∈ t.obk.orders, e.2.account = n → e.2.state = .confirmed →
        0 < e.2.flow ∧ e.2.delivered = 0 ∧ e.2.ordered = e.2.flow * 900 * e.2.duration) →
      let trimmed := (State.trimLoop n t.obk.orders.length (t, changed)).1
      trimmed.excess n = 0 ∨
        ∀ e ∈ trimmed.obk.orders, e.2.account = n → e.2.state ≠ .confirmed)) ∧
  -- what a walk does to the order
  (∀ (t : State) (i : Nat) (o : Order) (x k : Nat), o.state = .confirmed → 0 < o.flow →
    x ≤ o.flow * 900 * k → (∀ j, x ≤ o.flow * 900 * j → k ≤ j) →
    let frees := fun lo => t.withRing
      (t.cal.release (t.reachOf o) lo (o.start + o.duration) o.flow t.obk.slot)
    (k < o.duration → t.trimOne i o x =
      count (fun c => { c with shortened := min 65535 (c.shortened + 1) })
        (((frees (o.start + o.duration - k)).putOrder i
          { o with
            duration := o.duration - k
            ordered := o.flow * 900 * (o.duration - k) }).markOrder i)) ∧
    (o.duration ≤ k → t.trimOne i o x =
      count (fun c => { c with cancelled := min 65535 (c.cancelled + 1) })
        (((frees o.start).putOrder i
          { o with state := .cancelled, closeReason := some .curtailed }).markOrder i))) ∧
  (∀ (t : State) (i : Nat) (o : Order),
    let cut := t.obk.slot
    t.drainOne i o =
      count (fun c => { c with ended := min 65535 (c.ended + 1) })
        ((((t.withRing
            (t.cal.release (t.reachOf o) o.start (o.start + o.duration) o.flow (cut + 1))).putOrder i
          { o with
            state := .closing, closeReason := some .curtailed, suspendReason := none, cut := some cut
            ordered := o.flow * 900 * (cut + 1 - o.start) }).notify o.point none).markOrder i))

/-- A SUPPLY_BUMP step visits the slot at the cursor and moves the cursor on (R174). A slot that has passed or
is not BUMP_PENDING is passed over. A marked slot that fits its head capacity loses its mark. One that does
not has the CONFIRMED orders whose head window contains it bumped in descending placement sequence, until it
fits or none is left; then the mark becomes NONE, or SHORTFALL with a HEAD_SHORTFALL report (R175). A bumped
order is re-queued with a new placement sequence, or cancelled BUMPED, marked and counted, and owes a
re-examination (R176). That a slot passed over is a step event of its own, which
moves the cursor alone, and that the row changes nothing when there is no visit to make, is the model's reading,
log entry 24. -/
def Obligations.SupplyBumpStepBumpsTheNewestOrders : Prop :=
  let count := fun (f : Counts → Counts) (t : State) =>
    ({ t with sweep.status := t.sweep.status.map (fun w => { w with counts := f w.counts }) } : State)
  let overfull := fun (t : State) (k : Nat) => t.cal.capacityIn 0 k < t.cal.committedIn 0 k
  (∀ s : State, s.sweep.status = none → exec .supplyBumpStep s = .next s) ∧
  (∀ (s : State) (w : Sweep), s.sweep.status = some w →
    let visits := w.kind = .supplyBump ∧ w.state = .inProgress ∧ w.cursor < w.actual.limit
    let k := w.cursor
    let moved := fun t : State =>
      ({ t with sweep.status := t.sweep.status.map (fun w => { w with cursor := k + 1 }) } : State)
    let bumped := (s.bumpList k).foldl (bumpOne k) s
    let cleared := fun t : State => ({ t with cal := t.cal.setHeadMark k .unmarked } : State)
    (¬visits → exec .supplyBumpStep s = .next s) ∧
    (visits → (k < s.cal.slot ∨ s.cal.headMark k ≠ .bumpPending) →
      exec .supplyBumpStep s = .next (moved s).arbitrate) ∧
    (visits → s.cal.slot ≤ k → s.cal.headMark k = .bumpPending →
      (¬overfull s k → exec .supplyBumpStep s = .next (moved (cleared s)).arbitrate) ∧
      (overfull s k → ¬overfull bumped k →
        exec .supplyBumpStep s = .next (moved (cleared bumped)).arbitrate) ∧
      (overfull s k → overfull bumped k →
        exec .supplyBumpStep s = .next (moved
          { bumped with
            cal := bumped.cal.setHeadMark k .shortfall
            mail.reports := bumped.mail.reports ++
              [{ kind := .headShortfall, ref := .number k }] }).arbitrate))) ∧
  -- the orders to bump
  (∀ (s : State) (k : Nat),
    let covers := fun o : Order =>
      let shift := lagOf s.cal.reaches (s.reachOf o) - lagOf s.cal.reaches 0
      o.start ≤ k + shift ∧ k + shift < o.start + o.duration
    (s.bumpList k).Perm
      (s.obk.orders.filter (fun e => decide (e.2.state = .confirmed ∧ covers e.2))) ∧
    (s.bumpList k).Pairwise (fun x y => y.2.sequence ≤ x.2.sequence)) ∧
  -- one of them
  ∀ (t : State) (k i : Nat) (o : Order), o.state = .confirmed →
    let freed := t.withRing
      (t.cal.release (t.reachOf o) o.start (o.start + o.duration) o.flow t.obk.slot)
    let room := o.conflict = .queue ∧ t.obk.waiting.length < 96 ∧ t.obk.sequence < 4294967295
    let owing := fun u : State => ({ u with obk.owed := true } : State)
    (¬overfull t k → bumpOne k t (i, o) = t) ∧
    (overfull t k → room → bumpOne k t (i, o) =
      count (fun c => { c with
          bumped := min 65535 (c.bumped + 1), requeued := min 65535 (c.requeued + 1) })
        (owing (((({ freed with obk.sequence := t.obk.sequence + 1 } : State).putOrder i
            { o with state := .pendingWait, sequence := t.obk.sequence + 1 }).joinWaiting
          (t.obk.handle i)).markOrder i))) ∧
    (overfull t k → ¬room → bumpOne k t (i, o) =
      count (fun c => { c with
          bumped := min 65535 (c.bumped + 1), requeued := min 65535 c.requeued })
        (owing ((freed.putOrder i
          { o with state := .cancelled, closeReason := some .bumped }).markOrder i)))

/-- A PERIOD_CLOSE step closes the period of the account at the cursor, if it is in scope, retires its
finished orders, marks and counts it, and moves the cursor (R177, R160). A SEASON_OPEN step does the same for
every account that is not VACANT, returns its season volumes and charge residual to 0, and those of the
turnouts that name it (R179). SWEEP_END ends a sweep whose cursor has passed its scope: state DONE, done
indication set, one re-examination (R167). That an account passed over is a step event of its own, which
moves the cursor alone, and that the three rows change nothing when there is no visit or end to make, is the model's reading,
log entry 24. -/
def Obligations.CloseAndSeasonStepsAndTheSweepEnd : Prop :=
  (∀ s : State, s.sweep.status = none → exec .periodCloseStep s = .next s ∧
    exec .seasonOpenStep s = .next s ∧ exec .sweepEnd s = .next s) ∧
  (∀ b z f c : Nat, ∀ k, Scope.district.limit = 768 ∧ (Scope.cls k).limit = 768 ∧
    (Scope.block b z).limit = min 768 (b + z) ∧ (Scope.run f c).limit = f + c) ∧
  ∀ (s : State) (w : Sweep), s.sweep.status = some w →
    let n := w.cursor
    let visits := fun k : SweepKind =>
      w.kind = k ∧ w.state = .inProgress ∧ w.cursor < w.actual.limit
    let passed : State := { s with sweep.status := some { w with cursor := n + 1 } }
    let stepped := fun t : State =>
      { t with
        sweep.status := some
          { w with
            cursor := n + 1
            counts := { w.counts with changed := min 65535 (w.counts.changed + 1) } } }
    let finished := (s.obk.accountChain n).filter (fun e => !e.2.live)
    let closed := fun a : Account =>
      { a with
        statement := some
          { period := a.period, ordered := a.periodOrdered, unordered := a.periodUnordered,
            frost := a.periodFrost, estimated := a.periodEstimated,
            centsOrdered := a.centsOrdered, centsUnordered := a.centsUnordered,
            centsFrost := a.centsFrost,
            total := min 4294967295 (a.centsOrdered + a.centsUnordered + a.centsFrost),
            standing := a.reported, minute := s.cal.clock }
        periodOrdered := 0, periodUnordered := 0, periodFrost := 0, periodEstimated := 0,
        centsOrdered := 0, centsUnordered := 0, centsFrost := 0
        period := if a.period = 65535 then 0 else a.period + 1
        mark := true }
    (¬visits .periodClose → exec .periodCloseStep s = .next s) ∧
    (visits .periodClose →
      ((∀ a, s.account? n = some a → ∃ c, w.actual = .cls c ∧ a.cls ≠ c) →
        exec .periodCloseStep s = .next passed) ∧
      (∀ a, s.account? n = some a → (∀ c, w.actual = .cls c → a.cls = c) →
        exec .periodCloseStep s = .next
          (stepped (finished.foldl (fun u e => u.retireEntry e.1) (s.setAccount n (closed a)))))) ∧
    (¬visits .seasonOpen → exec .seasonOpenStep s = .next s) ∧
    (visits .seasonOpen →
      (s.account? n = none → exec .seasonOpenStep s = .next passed) ∧
      (∀ a, s.account? n = some a →
        let b : Account :=
          { closed a with
            seasonOrdered := 0, seasonUnordered := 0, seasonFrost := 0, seasonEstimated := 0
            residual := 0 }
        let t := finished.foldl (fun u e => u.retireEntry e.1) (s.setAccount n b)
        exec .seasonOpenStep s = .next (stepped
          { t with
            points := s.points.map (fun e => (e.1,
              if e.2.kind = .turnout ∧ e.2.account = some n then
                { e.2 with meter.seasonMetered := 0, meter.seasonEstimated := 0 }
              else e.2)) }))) ∧
    (w.state = .inProgress → w.actual.limit ≤ n →
      exec .sweepEnd s = .next
        ({ s with sweep := { status := some { w with state := .done }, done := true } } :
          State).reexamine.arbitrate) ∧
    (¬(w.state = .inProgress ∧ w.actual.limit ≤ n) → exec .sweepEnd s = .next s)

/-! ### Faults and attention (chapter 10) -/

/-- The Fault Unit takes an outstanding report (R183): the map's severity chooses the record; an empty one
takes kind, reference and district minute, a filled one has the kind join its set, once: a set by rising
kind code, which holds no kind twice, stays so (R184); the counter
counts the selected kind and holds at 65,535 (R186); a severity-2 report asks for the line to be held (R188).
Nothing else changes. A report that no block has made is not there to take: log entry 2. -/
def Obligations.ErrorReportFillsTheFirstRecord : Prop :=
  (∀ (s : State) (kind : ErrorKind) (ref : ErrorRef) (before after : List Report),
    let x : Report := { kind := kind, ref := ref }
    let code := errorCode kind
    let v := (s.faults.severities[code]?).getD 0
    let taken := fun (u : Nat) (e : Episode) =>
      if v = u then
        match e.first with
        | none => { e with first := some { kind := kind, ref := ref, minute := s.cal.clock } }
        | some _ => { e with next := addTo e.next code }
      else e
    s.mail.reports = before ++ x :: after → x ∉ before → v ≤ 2 →
      exec (.errorReport kind ref) s = .next
        { s with
          faults := { s.faults with
            note := taken 0 s.faults.note
            attend := taken 1 s.faults.attend
            stop := taken 2 s.faults.stop
            counter := if s.faults.selected = some code then min 65535 (s.faults.counter + 1)
              else s.faults.counter }
          mail := { s.mail with
            reports := before ++ after
            holds := if v = 2 then s.mail.holds + 1 else s.mail.holds } }) ∧
  (∀ (s : State) (kind : ErrorKind) (ref : ErrorRef),
    { kind := kind, ref := ref } ∉ s.mail.reports → exec (.errorReport kind ref) s = .next s) ∧
  (∀ (l : List Nat) (k m : Nat), m ∈ addTo l k ↔ m ∈ l ∨ m = k) ∧
  (∀ (l : List Nat) (k : Nat), l.Pairwise (· < ·) → (addTo l k).Pairwise (· < ·)) ∧
  ([ErrorKind.stationSilent, .frameError, .setpointUnconfirmed, .gateFault, .localHoldFault,
      .meterImplausible, .meterFailed, .reachOverload, .headShortfall, .counterSaturated,
      .standingSuspended, .sweepAborted, .commandOverrun].map errorCode = List.range 13)

/-- SEVERITY_SET writes its kind's entry of the severity map, a severity above 2 clamped to 2, and answers DONE
with the kind and the severity as stored; a kind code above 12 is refused BAD_PARAM. Every other entry, record,
set, counter and mode stays as it was, no hold is asked for, and it is taken whether or not a sweep is in
progress (R182). -/
def Obligations.SeveritySetWritesTheMap : Prop :=
  ∀ (s : State) (k v : Nat), s.handed (.severitySet k v) = true →
    (12 < k → Refuses (.severitySet k v) s .badParam) ∧
    (k ≤ 12 → s.faults.severities.length = 13 → ∃ t : State,
      Completes (.severitySet k v) s t (answer .done (be8 k ++ be8 (min v 2))) ∧
      t = { s with faults.severities := t.faults.severities } ∧
      ∀ j, t.faults.severityOf j = if j = k then min v 2 else s.faults.severityOf j)

/-- ERROR_QUERY answers the whole state of the Fault Unit and changes nothing (R187). ERROR_CLEAR empties one
severity's record and set and answers them as they stood (R185). SEVERITY_SET writes one entry of the map,
clamped to 2 (R182). COUNT_SELECT answers the selection and the counter as they stood, then selects and
restarts it (R186). ATTENTION_MASK writes the mask and changes no cause (R190). The codings of the answers
are the model's reading, log entry 12. -/
def Obligations.FaultRequestsReadAndWriteTheirRecords : Prop :=
  ∀ s : State,
    let f := s.faults
    let episode := fun e : Episode => ErrorRecord.bytes e.first ++ be16 (kindBits e.next)
    let empty : Episode := { first := none, next := [] }
    (s.handed .errorQuery = true →
      Completes .errorQuery s s (answer .done
        (episode f.note ++ episode f.attend ++ episode f.stop ++ opt8 f.selected ++ be16 f.counter ++
          f.severities.flatMap be8))) ∧
    (∀ v, s.handed (.errorClear v) = true →
      let c := Instr.errorClear v
      (2 < v → Refuses c s .badParam) ∧
      (v = 0 → Completes c s { s with faults.note := empty } (answer .done (episode f.note))) ∧
      (v = 1 → Completes c s { s with faults.attend := empty } (answer .done (episode f.attend))) ∧
      (v = 2 → Completes c s { s with faults.stop := empty } (answer .done (episode f.stop)))) ∧
    (∀ k v, s.handed (.severitySet k v) = true →
      let c := Instr.severitySet k v
      (12 < k → Refuses c s .badParam) ∧
      (k ≤ 12 → Completes c s { s with faults.severities := f.severities.set k (min v 2) }
        (answer .done (be8 k ++ be8 (min v 2))))) ∧
    (∀ k, s.handed (.countSelect k) = true →
      let c := Instr.countSelect k
      ((∃ j, k = some j ∧ 12 < j) → Refuses c s .badParam) ∧
      ((∀ j, k = some j → j ≤ 12) →
        Completes c s { s with faults.selected := k, faults.counter := 0 }
          (answer .done (opt8 f.selected ++ be16 f.counter)))) ∧
    (∀ a b c d, s.handed (.attentionMask a b c d) = true →
      let m : Mask :=
        { error := decide (a ≠ 0), sweepDone := decide (b ≠ 0), orderMarks := decide (c ≠ 0),
          accountMarks := decide (d ≠ 0) }
      Completes (.attentionMask a b c d) s { s with port.mask := m }
        (answer .done
          (enabled m.error ++ enabled m.sweepDone ++ enabled m.orderMarks ++ enabled m.accountMarks ++
            s.causeBytes)))

/-! ### Reset -/

/-- A warm reset, from RESET or from SOFT_RESET, acts on the port, the line and the sweep, and keeps every
other record: a waiting response is discarded and the order it named is marked (R71, R198); a command in
execution other than SOFT_RESET is orphaned; the overrun mark clears (R198); the transaction is abandoned, the
mode is STOPPED, polled stations start again, and sendable points are re-evaluated (R122); a sweep in progress
is ABORTED and reported (R168). The orphan's completion is the request's own effect, with its response
discarded (R198, R71); a PLACE makes its remaining tries in that one event, log entry 14. That RESET does nothing more during initialisation, without supply or once asserted is
log entry 26; that a SOFT_RESET which was not handed over and an orphan that is not there change nothing is
log entry 3; that an abandoned POLL makes its station due even where it is polled no more is log entry 16;
that the response of an AMEND which changed nothing names its order is log entry 22. -/
def Obligations.WarmResetActsOnPortLineAndSweep : Prop :=
  let resets := fun (s t : State) =>
    let orphan := decide (s.port.state = .executing ∧ s.port.executing? ≠ some .softReset)
    let named := fun r : Response => r.reply.names.bind s.obk.named?
    let asked : Option Nat := s.line.transaction.bind (fun x =>
      match x.job with
      | .poll a => some a
      | .set _ _ _ => none)
    let setting : Option Nat := s.line.transaction.bind (fun x =>
      match x.job with
      | .set n _ false => some n
      | .set _ _ true | .poll _ => none)
    t = { s with
      port := t.port, obk.marks := t.obk.marks, points := t.points, line := t.line, sweep := t.sweep,
      mail.reports := t.mail.reports } ∧
    t.port = { s.port with
      state := if orphan then .executing else .idle
      command := if orphan then s.port.command else none
      response := none, overrun := false, orphan := orphan } ∧
    (∀ r e, s.port.state = .responseWaiting → s.port.response = some r → named r = some e →
      t.obk.marks = addTo s.obk.marks e.1) ∧
    ((s.port.state = .responseWaiting → ∀ r, s.port.response = some r → named r = none) →
      t.obk.marks = s.obk.marks) ∧
    (t.line.mode = .stopped ∧ t.line.transaction = none ∧ t.line.rotation = s.line.rotation) ∧
    (∀ a, t.station a =
      let v := s.station a
      if v.polled then
        { v with state := .responding, failures := 0, silentSince := none, interval := 0, due := true }
      else { v with due := v.due || decide (asked = some a) }) ∧
    (∀ n, t.point? n = (s.point? n).map (fun p =>
      let q : Point :=
        if setting = some n then
          { p with field.inFlight := none, field.resendOwed := p.field.resendOwed || p.sendable }
        else p
      if p.sendable then
        { q with
          field.sendPending := q.field.resendOwed ||
            decide (q.target ≠ q.field.acknowledged ∧ q.field.declined ≠ some q.target) }
      else q)) ∧
    (s.sweeping = false → t.sweep = s.sweep ∧ t.mail.reports = s.mail.reports) ∧
    (∀ w, s.sweep.status = some w → w.state = .inProgress →
      t.sweep = { status := some { w with state := .aborted }, done := true } ∧
      t.mail.reports = s.mail.reports ++ [{ kind := .sweepAborted, ref := .sweep w.kind w.cursor }])
  ∀ s : State, risingKeys s.points = true →
    (s.resetAsserted = true → exec .resetAsserted s = .next s) ∧
    (s.resetAsserted = false → s.power = .on →
      ∃ t, exec .resetAsserted s = .next t ∧ resets { s with resetAsserted := true } t) ∧
    (s.resetAsserted = false → s.power ≠ .on →
      exec .resetAsserted s = .next { s with resetAsserted := true }) ∧
    (s.handed .softReset = true → ∃ t, exec .softReset s = .next t ∧ resets s t) ∧
    (s.handed .softReset = false → exec .softReset s = .next s) ∧
    exec .resetReleased s = .next { s with resetAsserted := false } ∧
    (∀ c, s.handed (onPort c) = true → c ≠ .softReset →
      match runRequest c s with
      | (t, some r) => Completes c s t r
      | (t, none) => exec c s = .next t) ∧
    ((s.port.orphan = false ∨ s.port.executing? = none) → exec .orphanCompletion s = .next s) ∧
    (∀ c, s.port.orphan = true → s.port.executing? = some c →
      match runRequest c s with
      | (t, some r) => ∃ marks, exec .orphanCompletion s = .next { t with
            port := { t.port with state := .idle, command := none, orphan := false }
            obk.marks := marks } ∧
          (∀ e, r.names.bind t.obk.named? = some e → marks = addTo t.obk.marks e.1) ∧
          (r.names.bind t.obk.named? = none → marks = t.obk.marks)
      | (t, none) => exec .orphanCompletion s = .next t)

/-! ### Invariants -/

/-- Every step keeps the records sound: the port's buffers and orphan indication fit its state (R194 to R198);
a next-kinds set is empty while its record is empty (R184); the map gives severities 0 to 2 (R181); a reach's
parent has a smaller number (section 1.2); ring, point and station records and change marks stand once, in
rising order. -/
def Obligations.StepKeepsTheRecordsSound : Prop :=
  ∀ s t : State, s.sound → step s = .next t → t.sound

/-- Every step keeps the sum of the transfer nets of all accounts at zero (R151). -/
def Obligations.StepKeepsTransferNetsBalanced : Prop :=
  ∀ s t : State, s.balanced → step s = .next t → t.balanced

/-- Every step keeps the books: each order belongs to an account that is not VACANT, each account's reserved
outstanding is the sum of its orders' shares (R68), and its live order count is the number of its live orders
(R42). -/
def Obligations.StepKeepsTheBookedFigures : Prop :=
  ∀ s t : State, s.booked → step s = .next t → t.booked

/-- Every step keeps the waiting list and the frost extra loads, and they are right after a power-on reset:
the waiting list holds each PENDING_WAIT order exactly once and nothing else, in ascending placement
sequence, and at most 96 (R72); and the frost extra load of every reach is the sum that R101 gives. -/
def Obligations.StepKeepsTheWaitingListAndTheFrostLoads : Prop :=
  (State.reset.queued ∧ ∀ s t : State, s.queued → step s = .next t → t.queued) ∧
  (State.reset.frostKept ∧ ∀ s t : State, s.frostKept → step s = .next t → t.frostKept)

/-- Every step keeps the capacity ring, and it is right after a power-on reset: in every reach and every slot
within horizon, the committed flow is the sum of the flows of the CONFIRMED, RUNNING, SUSPENDED and CLOSING
orders whose lag-shifted window contains the slot, a cut one up to its cut slot, and it does not exceed the
reach's capacity but in head reach slots with a head mark (R27, R28). Its premises are the ring so kept and the
waiting list of StepKeepsTheWaitingListAndTheFrostLoads: a re-examination or an expiry takes the orders on that
list to hold no flow (R72). -/
def Obligations.StepKeepsTheCapacityRing : Prop :=
  (State.reset.ringKept ∧ State.reset.queued) ∧
    ∀ s t : State, s.ringKept → s.queued → step s = .next t → t.ringKept

/-- Right after a power-on reset the records are sound, the transfer nets sum to zero, and the books agree. -/
def Obligations.InvariantsHoldAfterReset : Prop :=
  State.reset.sound ∧ State.reset.balanced ∧ State.reset.booked
end

