-- ==== Sys2Proof/Laws/Calendar.lean ====
section
/-! SUPPORT. What the reservation operations of the calendar can change: the committed flows alone. -/

namespace Sys2Proof.Machine

theorem Calendar.addFlow_only_committed (f : Nat) (es : List (Nat × Nat)) (c : Calendar) :
    c.addFlow f es = { c with committed := (c.addFlow f es).committed } := by
  induction es generalizing c with
  | nil => rfl
  | cons e es ih => exact ih (c.setCommitted e.1 e.2 (c.committedIn e.1 e.2 + f))

theorem Calendar.subFlow_only_committed (f : Nat) (es : List (Nat × Nat)) (c : Calendar) :
    c.subFlow f es = { c with committed := (c.subFlow f es).committed } := by
  induction es generalizing c with
  | nil => rfl
  | cons e es ih => exact ih (c.setCommitted e.1 e.2 (c.committedIn e.1 e.2 - f))

theorem Calendar.release_only_committed (r a b f g : Nat) (c : Calendar) :
    c.release r a b f g = { c with committed := (c.release r a b f g).committed } :=
  c.subFlow_only_committed f _

/-- A reservation that passes changes the committed flows alone. -/
theorem Calendar.reserveTested_pass {tested : Nat × Nat → Bool} {r a b f : Nat} {c k : Calendar}
    (h : c.reserveTested tested r a b f = .pass k) : k = { c with committed := k.committed } := by
  simp only [Calendar.reserveTested] at h
  split at h
  · cases h
  · split at h
    · cases h
    · cases h
      exact c.addFlow_only_committed f _

theorem Calendar.reserve_pass {r a b f : Nat} {c k : Calendar} (h : c.reserve r a b f = .pass k) :
    k = { c with committed := k.committed } :=
  Calendar.reserveTested_pass h

theorem Calendar.exchange_pass {r a b f a' b' f' : Nat} {c k : Calendar}
    (h : c.exchange r a b f a' b' f' = .pass k) : k = { c with committed := k.committed } := by
  rw [Calendar.reserveTested_pass h, Calendar.release_only_committed]

end Sys2Proof.Machine
end

