-- ==== Sys2Proof/Laws/State.lean ====
section
/-! SUPPORT. What each plain update of State leaves as it was: one lemma per field, true by rfl. -/

namespace Sys2Proof.Machine

/-! `State.setPoint` writes `points` alone. -/
@[simp] theorem State.setPoint_power (s : State) (p : Nat) (v : Point) : (s.setPoint p v).power = s.power := rfl
@[simp] theorem State.setPoint_resetAsserted (s : State) (p : Nat) (v : Point) : (s.setPoint p v).resetAsserted = s.resetAsserted := rfl
@[simp] theorem State.setPoint_port (s : State) (p : Nat) (v : Point) : (s.setPoint p v).port = s.port := rfl
@[simp] theorem State.setPoint_cal (s : State) (p : Nat) (v : Point) : (s.setPoint p v).cal = s.cal := rfl
@[simp] theorem State.setPoint_settings (s : State) (p : Nat) (v : Point) : (s.setPoint p v).settings = s.settings := rfl
@[simp] theorem State.setPoint_obk (s : State) (p : Nat) (v : Point) : (s.setPoint p v).obk = s.obk := rfl
@[simp] theorem State.setPoint_frostLoad (s : State) (p : Nat) (v : Point) : (s.setPoint p v).frostLoad = s.frostLoad := rfl
@[simp] theorem State.setPoint_line (s : State) (p : Nat) (v : Point) : (s.setPoint p v).line = s.line := rfl
@[simp] theorem State.setPoint_accounts (s : State) (p : Nat) (v : Point) : (s.setPoint p v).accounts = s.accounts := rfl
@[simp] theorem State.setPoint_tariffs (s : State) (p : Nat) (v : Point) : (s.setPoint p v).tariffs = s.tariffs := rfl
@[simp] theorem State.setPoint_sweep (s : State) (p : Nat) (v : Point) : (s.setPoint p v).sweep = s.sweep := rfl
@[simp] theorem State.setPoint_faults (s : State) (p : Nat) (v : Point) : (s.setPoint p v).faults = s.faults := rfl
@[simp] theorem State.setPoint_mail (s : State) (p : Nat) (v : Point) : (s.setPoint p v).mail = s.mail := rfl
@[simp] theorem State.setPoint_pending (s : State) (p : Nat) (v : Point) : (s.setPoint p v).pending = s.pending := rfl

/-! `State.setAccount` writes `accounts` alone. -/
@[simp] theorem State.setAccount_power (s : State) (n : Nat) (v : Account) : (s.setAccount n v).power = s.power := rfl
@[simp] theorem State.setAccount_resetAsserted (s : State) (n : Nat) (v : Account) : (s.setAccount n v).resetAsserted = s.resetAsserted := rfl
@[simp] theorem State.setAccount_port (s : State) (n : Nat) (v : Account) : (s.setAccount n v).port = s.port := rfl
@[simp] theorem State.setAccount_cal (s : State) (n : Nat) (v : Account) : (s.setAccount n v).cal = s.cal := rfl
@[simp] theorem State.setAccount_settings (s : State) (n : Nat) (v : Account) : (s.setAccount n v).settings = s.settings := rfl
@[simp] theorem State.setAccount_obk (s : State) (n : Nat) (v : Account) : (s.setAccount n v).obk = s.obk := rfl
@[simp] theorem State.setAccount_points (s : State) (n : Nat) (v : Account) : (s.setAccount n v).points = s.points := rfl
@[simp] theorem State.setAccount_frostLoad (s : State) (n : Nat) (v : Account) : (s.setAccount n v).frostLoad = s.frostLoad := rfl
@[simp] theorem State.setAccount_line (s : State) (n : Nat) (v : Account) : (s.setAccount n v).line = s.line := rfl
@[simp] theorem State.setAccount_tariffs (s : State) (n : Nat) (v : Account) : (s.setAccount n v).tariffs = s.tariffs := rfl
@[simp] theorem State.setAccount_sweep (s : State) (n : Nat) (v : Account) : (s.setAccount n v).sweep = s.sweep := rfl
@[simp] theorem State.setAccount_faults (s : State) (n : Nat) (v : Account) : (s.setAccount n v).faults = s.faults := rfl
@[simp] theorem State.setAccount_mail (s : State) (n : Nat) (v : Account) : (s.setAccount n v).mail = s.mail := rfl
@[simp] theorem State.setAccount_pending (s : State) (n : Nat) (v : Account) : (s.setAccount n v).pending = s.pending := rfl

/-! `State.setStation` writes `line` alone. -/
@[simp] theorem State.setStation_power (s : State) (a : Nat) (v : Station) : (s.setStation a v).power = s.power := rfl
@[simp] theorem State.setStation_resetAsserted (s : State) (a : Nat) (v : Station) : (s.setStation a v).resetAsserted = s.resetAsserted := rfl
@[simp] theorem State.setStation_port (s : State) (a : Nat) (v : Station) : (s.setStation a v).port = s.port := rfl
@[simp] theorem State.setStation_cal (s : State) (a : Nat) (v : Station) : (s.setStation a v).cal = s.cal := rfl
@[simp] theorem State.setStation_settings (s : State) (a : Nat) (v : Station) : (s.setStation a v).settings = s.settings := rfl
@[simp] theorem State.setStation_obk (s : State) (a : Nat) (v : Station) : (s.setStation a v).obk = s.obk := rfl
@[simp] theorem State.setStation_points (s : State) (a : Nat) (v : Station) : (s.setStation a v).points = s.points := rfl
@[simp] theorem State.setStation_frostLoad (s : State) (a : Nat) (v : Station) : (s.setStation a v).frostLoad = s.frostLoad := rfl
@[simp] theorem State.setStation_accounts (s : State) (a : Nat) (v : Station) : (s.setStation a v).accounts = s.accounts := rfl
@[simp] theorem State.setStation_tariffs (s : State) (a : Nat) (v : Station) : (s.setStation a v).tariffs = s.tariffs := rfl
@[simp] theorem State.setStation_sweep (s : State) (a : Nat) (v : Station) : (s.setStation a v).sweep = s.sweep := rfl
@[simp] theorem State.setStation_faults (s : State) (a : Nat) (v : Station) : (s.setStation a v).faults = s.faults := rfl
@[simp] theorem State.setStation_mail (s : State) (a : Nat) (v : Station) : (s.setStation a v).mail = s.mail := rfl
@[simp] theorem State.setStation_pending (s : State) (a : Nat) (v : Station) : (s.setStation a v).pending = s.pending := rfl

/-! `State.report` writes `mail` alone. -/
@[simp] theorem State.report_power (s : State) (k : ErrorKind) (r : ErrorRef) : (s.report k r).power = s.power := rfl
@[simp] theorem State.report_resetAsserted (s : State) (k : ErrorKind) (r : ErrorRef) : (s.report k r).resetAsserted = s.resetAsserted := rfl
@[simp] theorem State.report_port (s : State) (k : ErrorKind) (r : ErrorRef) : (s.report k r).port = s.port := rfl
@[simp] theorem State.report_cal (s : State) (k : ErrorKind) (r : ErrorRef) : (s.report k r).cal = s.cal := rfl
@[simp] theorem State.report_settings (s : State) (k : ErrorKind) (r : ErrorRef) : (s.report k r).settings = s.settings := rfl
@[simp] theorem State.report_obk (s : State) (k : ErrorKind) (r : ErrorRef) : (s.report k r).obk = s.obk := rfl
@[simp] theorem State.report_points (s : State) (k : ErrorKind) (r : ErrorRef) : (s.report k r).points = s.points := rfl
@[simp] theorem State.report_frostLoad (s : State) (k : ErrorKind) (r : ErrorRef) : (s.report k r).frostLoad = s.frostLoad := rfl
@[simp] theorem State.report_line (s : State) (k : ErrorKind) (r : ErrorRef) : (s.report k r).line = s.line := rfl
@[simp] theorem State.report_accounts (s : State) (k : ErrorKind) (r : ErrorRef) : (s.report k r).accounts = s.accounts := rfl
@[simp] theorem State.report_tariffs (s : State) (k : ErrorKind) (r : ErrorRef) : (s.report k r).tariffs = s.tariffs := rfl
@[simp] theorem State.report_sweep (s : State) (k : ErrorKind) (r : ErrorRef) : (s.report k r).sweep = s.sweep := rfl
@[simp] theorem State.report_faults (s : State) (k : ErrorKind) (r : ErrorRef) : (s.report k r).faults = s.faults := rfl
@[simp] theorem State.report_pending (s : State) (k : ErrorKind) (r : ErrorRef) : (s.report k r).pending = s.pending := rfl

/-! `State.notify` writes `mail` alone. -/
@[simp] theorem State.notify_power (s : State) (p : Nat) (o : Option Scheduled) : (s.notify p o).power = s.power := rfl
@[simp] theorem State.notify_resetAsserted (s : State) (p : Nat) (o : Option Scheduled) : (s.notify p o).resetAsserted = s.resetAsserted := rfl
@[simp] theorem State.notify_port (s : State) (p : Nat) (o : Option Scheduled) : (s.notify p o).port = s.port := rfl
@[simp] theorem State.notify_cal (s : State) (p : Nat) (o : Option Scheduled) : (s.notify p o).cal = s.cal := rfl
@[simp] theorem State.notify_settings (s : State) (p : Nat) (o : Option Scheduled) : (s.notify p o).settings = s.settings := rfl
@[simp] theorem State.notify_obk (s : State) (p : Nat) (o : Option Scheduled) : (s.notify p o).obk = s.obk := rfl
@[simp] theorem State.notify_points (s : State) (p : Nat) (o : Option Scheduled) : (s.notify p o).points = s.points := rfl
@[simp] theorem State.notify_frostLoad (s : State) (p : Nat) (o : Option Scheduled) : (s.notify p o).frostLoad = s.frostLoad := rfl
@[simp] theorem State.notify_line (s : State) (p : Nat) (o : Option Scheduled) : (s.notify p o).line = s.line := rfl
@[simp] theorem State.notify_accounts (s : State) (p : Nat) (o : Option Scheduled) : (s.notify p o).accounts = s.accounts := rfl
@[simp] theorem State.notify_tariffs (s : State) (p : Nat) (o : Option Scheduled) : (s.notify p o).tariffs = s.tariffs := rfl
@[simp] theorem State.notify_sweep (s : State) (p : Nat) (o : Option Scheduled) : (s.notify p o).sweep = s.sweep := rfl
@[simp] theorem State.notify_faults (s : State) (p : Nat) (o : Option Scheduled) : (s.notify p o).faults = s.faults := rfl
@[simp] theorem State.notify_pending (s : State) (p : Nat) (o : Option Scheduled) : (s.notify p o).pending = s.pending := rfl

/-! `State.markOrder` writes `obk` alone. -/
@[simp] theorem State.markOrder_power (s : State) (i : Nat) : (s.markOrder i).power = s.power := rfl
@[simp] theorem State.markOrder_resetAsserted (s : State) (i : Nat) : (s.markOrder i).resetAsserted = s.resetAsserted := rfl
@[simp] theorem State.markOrder_port (s : State) (i : Nat) : (s.markOrder i).port = s.port := rfl
@[simp] theorem State.markOrder_cal (s : State) (i : Nat) : (s.markOrder i).cal = s.cal := rfl
@[simp] theorem State.markOrder_settings (s : State) (i : Nat) : (s.markOrder i).settings = s.settings := rfl
@[simp] theorem State.markOrder_points (s : State) (i : Nat) : (s.markOrder i).points = s.points := rfl
@[simp] theorem State.markOrder_frostLoad (s : State) (i : Nat) : (s.markOrder i).frostLoad = s.frostLoad := rfl
@[simp] theorem State.markOrder_line (s : State) (i : Nat) : (s.markOrder i).line = s.line := rfl
@[simp] theorem State.markOrder_accounts (s : State) (i : Nat) : (s.markOrder i).accounts = s.accounts := rfl
@[simp] theorem State.markOrder_tariffs (s : State) (i : Nat) : (s.markOrder i).tariffs = s.tariffs := rfl
@[simp] theorem State.markOrder_sweep (s : State) (i : Nat) : (s.markOrder i).sweep = s.sweep := rfl
@[simp] theorem State.markOrder_faults (s : State) (i : Nat) : (s.markOrder i).faults = s.faults := rfl
@[simp] theorem State.markOrder_mail (s : State) (i : Nat) : (s.markOrder i).mail = s.mail := rfl
@[simp] theorem State.markOrder_pending (s : State) (i : Nat) : (s.markOrder i).pending = s.pending := rfl

/-! `State.retireEntry` writes `obk` alone. -/
@[simp] theorem State.retireEntry_power (s : State) (i : Nat) : (s.retireEntry i).power = s.power := rfl
@[simp] theorem State.retireEntry_resetAsserted (s : State) (i : Nat) : (s.retireEntry i).resetAsserted = s.resetAsserted := rfl
@[simp] theorem State.retireEntry_port (s : State) (i : Nat) : (s.retireEntry i).port = s.port := rfl
@[simp] theorem State.retireEntry_cal (s : State) (i : Nat) : (s.retireEntry i).cal = s.cal := rfl
@[simp] theorem State.retireEntry_settings (s : State) (i : Nat) : (s.retireEntry i).settings = s.settings := rfl
@[simp] theorem State.retireEntry_points (s : State) (i : Nat) : (s.retireEntry i).points = s.points := rfl
@[simp] theorem State.retireEntry_frostLoad (s : State) (i : Nat) : (s.retireEntry i).frostLoad = s.frostLoad := rfl
@[simp] theorem State.retireEntry_line (s : State) (i : Nat) : (s.retireEntry i).line = s.line := rfl
@[simp] theorem State.retireEntry_accounts (s : State) (i : Nat) : (s.retireEntry i).accounts = s.accounts := rfl
@[simp] theorem State.retireEntry_tariffs (s : State) (i : Nat) : (s.retireEntry i).tariffs = s.tariffs := rfl
@[simp] theorem State.retireEntry_sweep (s : State) (i : Nat) : (s.retireEntry i).sweep = s.sweep := rfl
@[simp] theorem State.retireEntry_faults (s : State) (i : Nat) : (s.retireEntry i).faults = s.faults := rfl
@[simp] theorem State.retireEntry_mail (s : State) (i : Nat) : (s.retireEntry i).mail = s.mail := rfl
@[simp] theorem State.retireEntry_pending (s : State) (i : Nat) : (s.retireEntry i).pending = s.pending := rfl

/-! `State.joinWaiting` writes `obk` alone. -/
@[simp] theorem State.joinWaiting_power (s : State) (h : Nat) : (s.joinWaiting h).power = s.power := rfl
@[simp] theorem State.joinWaiting_resetAsserted (s : State) (h : Nat) : (s.joinWaiting h).resetAsserted = s.resetAsserted := rfl
@[simp] theorem State.joinWaiting_port (s : State) (h : Nat) : (s.joinWaiting h).port = s.port := rfl
@[simp] theorem State.joinWaiting_cal (s : State) (h : Nat) : (s.joinWaiting h).cal = s.cal := rfl
@[simp] theorem State.joinWaiting_settings (s : State) (h : Nat) : (s.joinWaiting h).settings = s.settings := rfl
@[simp] theorem State.joinWaiting_points (s : State) (h : Nat) : (s.joinWaiting h).points = s.points := rfl
@[simp] theorem State.joinWaiting_frostLoad (s : State) (h : Nat) : (s.joinWaiting h).frostLoad = s.frostLoad := rfl
@[simp] theorem State.joinWaiting_line (s : State) (h : Nat) : (s.joinWaiting h).line = s.line := rfl
@[simp] theorem State.joinWaiting_accounts (s : State) (h : Nat) : (s.joinWaiting h).accounts = s.accounts := rfl
@[simp] theorem State.joinWaiting_tariffs (s : State) (h : Nat) : (s.joinWaiting h).tariffs = s.tariffs := rfl
@[simp] theorem State.joinWaiting_sweep (s : State) (h : Nat) : (s.joinWaiting h).sweep = s.sweep := rfl
@[simp] theorem State.joinWaiting_faults (s : State) (h : Nat) : (s.joinWaiting h).faults = s.faults := rfl
@[simp] theorem State.joinWaiting_mail (s : State) (h : Nat) : (s.joinWaiting h).mail = s.mail := rfl
@[simp] theorem State.joinWaiting_pending (s : State) (h : Nat) : (s.joinWaiting h).pending = s.pending := rfl

/-! `State.leaveWaiting` writes `obk` alone. -/
@[simp] theorem State.leaveWaiting_power (s : State) (h : Nat) : (s.leaveWaiting h).power = s.power := rfl
@[simp] theorem State.leaveWaiting_resetAsserted (s : State) (h : Nat) : (s.leaveWaiting h).resetAsserted = s.resetAsserted := rfl
@[simp] theorem State.leaveWaiting_port (s : State) (h : Nat) : (s.leaveWaiting h).port = s.port := rfl
@[simp] theorem State.leaveWaiting_cal (s : State) (h : Nat) : (s.leaveWaiting h).cal = s.cal := rfl
@[simp] theorem State.leaveWaiting_settings (s : State) (h : Nat) : (s.leaveWaiting h).settings = s.settings := rfl
@[simp] theorem State.leaveWaiting_points (s : State) (h : Nat) : (s.leaveWaiting h).points = s.points := rfl
@[simp] theorem State.leaveWaiting_frostLoad (s : State) (h : Nat) : (s.leaveWaiting h).frostLoad = s.frostLoad := rfl
@[simp] theorem State.leaveWaiting_line (s : State) (h : Nat) : (s.leaveWaiting h).line = s.line := rfl
@[simp] theorem State.leaveWaiting_accounts (s : State) (h : Nat) : (s.leaveWaiting h).accounts = s.accounts := rfl
@[simp] theorem State.leaveWaiting_tariffs (s : State) (h : Nat) : (s.leaveWaiting h).tariffs = s.tariffs := rfl
@[simp] theorem State.leaveWaiting_sweep (s : State) (h : Nat) : (s.leaveWaiting h).sweep = s.sweep := rfl
@[simp] theorem State.leaveWaiting_faults (s : State) (h : Nat) : (s.leaveWaiting h).faults = s.faults := rfl
@[simp] theorem State.leaveWaiting_mail (s : State) (h : Nat) : (s.leaveWaiting h).mail = s.mail := rfl
@[simp] theorem State.leaveWaiting_pending (s : State) (h : Nat) : (s.leaveWaiting h).pending = s.pending := rfl

/-! `State.owe` writes `obk` alone. -/
@[simp] theorem State.owe_power (s : State) : (s.owe).power = s.power := rfl
@[simp] theorem State.owe_resetAsserted (s : State) : (s.owe).resetAsserted = s.resetAsserted := rfl
@[simp] theorem State.owe_port (s : State) : (s.owe).port = s.port := rfl
@[simp] theorem State.owe_cal (s : State) : (s.owe).cal = s.cal := rfl
@[simp] theorem State.owe_settings (s : State) : (s.owe).settings = s.settings := rfl
@[simp] theorem State.owe_points (s : State) : (s.owe).points = s.points := rfl
@[simp] theorem State.owe_frostLoad (s : State) : (s.owe).frostLoad = s.frostLoad := rfl
@[simp] theorem State.owe_line (s : State) : (s.owe).line = s.line := rfl
@[simp] theorem State.owe_accounts (s : State) : (s.owe).accounts = s.accounts := rfl
@[simp] theorem State.owe_tariffs (s : State) : (s.owe).tariffs = s.tariffs := rfl
@[simp] theorem State.owe_sweep (s : State) : (s.owe).sweep = s.sweep := rfl
@[simp] theorem State.owe_faults (s : State) : (s.owe).faults = s.faults := rfl
@[simp] theorem State.owe_mail (s : State) : (s.owe).mail = s.mail := rfl
@[simp] theorem State.owe_pending (s : State) : (s.owe).pending = s.pending := rfl

/-! `State.startTransaction` writes `line` alone. -/
@[simp] theorem State.startTransaction_power (s : State) (j : Job) : (s.startTransaction j).power = s.power := rfl
@[simp] theorem State.startTransaction_resetAsserted (s : State) (j : Job) : (s.startTransaction j).resetAsserted = s.resetAsserted := rfl
@[simp] theorem State.startTransaction_port (s : State) (j : Job) : (s.startTransaction j).port = s.port := rfl
@[simp] theorem State.startTransaction_cal (s : State) (j : Job) : (s.startTransaction j).cal = s.cal := rfl
@[simp] theorem State.startTransaction_settings (s : State) (j : Job) : (s.startTransaction j).settings = s.settings := rfl
@[simp] theorem State.startTransaction_obk (s : State) (j : Job) : (s.startTransaction j).obk = s.obk := rfl
@[simp] theorem State.startTransaction_points (s : State) (j : Job) : (s.startTransaction j).points = s.points := rfl
@[simp] theorem State.startTransaction_frostLoad (s : State) (j : Job) : (s.startTransaction j).frostLoad = s.frostLoad := rfl
@[simp] theorem State.startTransaction_accounts (s : State) (j : Job) : (s.startTransaction j).accounts = s.accounts := rfl
@[simp] theorem State.startTransaction_tariffs (s : State) (j : Job) : (s.startTransaction j).tariffs = s.tariffs := rfl
@[simp] theorem State.startTransaction_sweep (s : State) (j : Job) : (s.startTransaction j).sweep = s.sweep := rfl
@[simp] theorem State.startTransaction_faults (s : State) (j : Job) : (s.startTransaction j).faults = s.faults := rfl
@[simp] theorem State.startTransaction_mail (s : State) (j : Job) : (s.startTransaction j).mail = s.mail := rfl
@[simp] theorem State.startTransaction_pending (s : State) (j : Job) : (s.startTransaction j).pending = s.pending := rfl

/-! `State.lineIdle` writes `line` alone. -/
@[simp] theorem State.lineIdle_power (s : State) : (s.lineIdle).power = s.power := rfl
@[simp] theorem State.lineIdle_resetAsserted (s : State) : (s.lineIdle).resetAsserted = s.resetAsserted := rfl
@[simp] theorem State.lineIdle_port (s : State) : (s.lineIdle).port = s.port := rfl
@[simp] theorem State.lineIdle_cal (s : State) : (s.lineIdle).cal = s.cal := rfl
@[simp] theorem State.lineIdle_settings (s : State) : (s.lineIdle).settings = s.settings := rfl
@[simp] theorem State.lineIdle_obk (s : State) : (s.lineIdle).obk = s.obk := rfl
@[simp] theorem State.lineIdle_points (s : State) : (s.lineIdle).points = s.points := rfl
@[simp] theorem State.lineIdle_frostLoad (s : State) : (s.lineIdle).frostLoad = s.frostLoad := rfl
@[simp] theorem State.lineIdle_accounts (s : State) : (s.lineIdle).accounts = s.accounts := rfl
@[simp] theorem State.lineIdle_tariffs (s : State) : (s.lineIdle).tariffs = s.tariffs := rfl
@[simp] theorem State.lineIdle_sweep (s : State) : (s.lineIdle).sweep = s.sweep := rfl
@[simp] theorem State.lineIdle_faults (s : State) : (s.lineIdle).faults = s.faults := rfl
@[simp] theorem State.lineIdle_mail (s : State) : (s.lineIdle).mail = s.mail := rfl
@[simp] theorem State.lineIdle_pending (s : State) : (s.lineIdle).pending = s.pending := rfl

/-! `State.setMode` writes `line` alone. -/
@[simp] theorem State.setMode_power (s : State) (m : FieldMode) : (s.setMode m).power = s.power := rfl
@[simp] theorem State.setMode_resetAsserted (s : State) (m : FieldMode) : (s.setMode m).resetAsserted = s.resetAsserted := rfl
@[simp] theorem State.setMode_port (s : State) (m : FieldMode) : (s.setMode m).port = s.port := rfl
@[simp] theorem State.setMode_cal (s : State) (m : FieldMode) : (s.setMode m).cal = s.cal := rfl
@[simp] theorem State.setMode_settings (s : State) (m : FieldMode) : (s.setMode m).settings = s.settings := rfl
@[simp] theorem State.setMode_obk (s : State) (m : FieldMode) : (s.setMode m).obk = s.obk := rfl
@[simp] theorem State.setMode_points (s : State) (m : FieldMode) : (s.setMode m).points = s.points := rfl
@[simp] theorem State.setMode_frostLoad (s : State) (m : FieldMode) : (s.setMode m).frostLoad = s.frostLoad := rfl
@[simp] theorem State.setMode_accounts (s : State) (m : FieldMode) : (s.setMode m).accounts = s.accounts := rfl
@[simp] theorem State.setMode_tariffs (s : State) (m : FieldMode) : (s.setMode m).tariffs = s.tariffs := rfl
@[simp] theorem State.setMode_sweep (s : State) (m : FieldMode) : (s.setMode m).sweep = s.sweep := rfl
@[simp] theorem State.setMode_faults (s : State) (m : FieldMode) : (s.setMode m).faults = s.faults := rfl
@[simp] theorem State.setMode_mail (s : State) (m : FieldMode) : (s.setMode m).mail = s.mail := rfl
@[simp] theorem State.setMode_pending (s : State) (m : FieldMode) : (s.setMode m).pending = s.pending := rfl

/-! `State.nextAttempt` writes `line` alone. -/
@[simp] theorem State.nextAttempt_power (s : State) (t : Transaction) : (s.nextAttempt t).power = s.power := rfl
@[simp] theorem State.nextAttempt_resetAsserted (s : State) (t : Transaction) : (s.nextAttempt t).resetAsserted = s.resetAsserted := rfl
@[simp] theorem State.nextAttempt_port (s : State) (t : Transaction) : (s.nextAttempt t).port = s.port := rfl
@[simp] theorem State.nextAttempt_cal (s : State) (t : Transaction) : (s.nextAttempt t).cal = s.cal := rfl
@[simp] theorem State.nextAttempt_settings (s : State) (t : Transaction) : (s.nextAttempt t).settings = s.settings := rfl
@[simp] theorem State.nextAttempt_obk (s : State) (t : Transaction) : (s.nextAttempt t).obk = s.obk := rfl
@[simp] theorem State.nextAttempt_points (s : State) (t : Transaction) : (s.nextAttempt t).points = s.points := rfl
@[simp] theorem State.nextAttempt_frostLoad (s : State) (t : Transaction) : (s.nextAttempt t).frostLoad = s.frostLoad := rfl
@[simp] theorem State.nextAttempt_accounts (s : State) (t : Transaction) : (s.nextAttempt t).accounts = s.accounts := rfl
@[simp] theorem State.nextAttempt_tariffs (s : State) (t : Transaction) : (s.nextAttempt t).tariffs = s.tariffs := rfl
@[simp] theorem State.nextAttempt_sweep (s : State) (t : Transaction) : (s.nextAttempt t).sweep = s.sweep := rfl
@[simp] theorem State.nextAttempt_faults (s : State) (t : Transaction) : (s.nextAttempt t).faults = s.faults := rfl
@[simp] theorem State.nextAttempt_mail (s : State) (t : Transaction) : (s.nextAttempt t).mail = s.mail := rfl
@[simp] theorem State.nextAttempt_pending (s : State) (t : Transaction) : (s.nextAttempt t).pending = s.pending := rfl

/-! `State.startSweep` writes `sweep` alone. -/
@[simp] theorem State.startSweep_power (s : State) (w : Sweep) : (s.startSweep w).power = s.power := rfl
@[simp] theorem State.startSweep_resetAsserted (s : State) (w : Sweep) : (s.startSweep w).resetAsserted = s.resetAsserted := rfl
@[simp] theorem State.startSweep_port (s : State) (w : Sweep) : (s.startSweep w).port = s.port := rfl
@[simp] theorem State.startSweep_cal (s : State) (w : Sweep) : (s.startSweep w).cal = s.cal := rfl
@[simp] theorem State.startSweep_settings (s : State) (w : Sweep) : (s.startSweep w).settings = s.settings := rfl
@[simp] theorem State.startSweep_obk (s : State) (w : Sweep) : (s.startSweep w).obk = s.obk := rfl
@[simp] theorem State.startSweep_points (s : State) (w : Sweep) : (s.startSweep w).points = s.points := rfl
@[simp] theorem State.startSweep_frostLoad (s : State) (w : Sweep) : (s.startSweep w).frostLoad = s.frostLoad := rfl
@[simp] theorem State.startSweep_line (s : State) (w : Sweep) : (s.startSweep w).line = s.line := rfl
@[simp] theorem State.startSweep_accounts (s : State) (w : Sweep) : (s.startSweep w).accounts = s.accounts := rfl
@[simp] theorem State.startSweep_tariffs (s : State) (w : Sweep) : (s.startSweep w).tariffs = s.tariffs := rfl
@[simp] theorem State.startSweep_faults (s : State) (w : Sweep) : (s.startSweep w).faults = s.faults := rfl
@[simp] theorem State.startSweep_mail (s : State) (w : Sweep) : (s.startSweep w).mail = s.mail := rfl
@[simp] theorem State.startSweep_pending (s : State) (w : Sweep) : (s.startSweep w).pending = s.pending := rfl

/-! `State.closeSweep` writes `sweep` alone. -/
@[simp] theorem State.closeSweep_power (s : State) (st : SweepState) : (s.closeSweep st).power = s.power := rfl
@[simp] theorem State.closeSweep_resetAsserted (s : State) (st : SweepState) : (s.closeSweep st).resetAsserted = s.resetAsserted := rfl
@[simp] theorem State.closeSweep_port (s : State) (st : SweepState) : (s.closeSweep st).port = s.port := rfl
@[simp] theorem State.closeSweep_cal (s : State) (st : SweepState) : (s.closeSweep st).cal = s.cal := rfl
@[simp] theorem State.closeSweep_settings (s : State) (st : SweepState) : (s.closeSweep st).settings = s.settings := rfl
@[simp] theorem State.closeSweep_obk (s : State) (st : SweepState) : (s.closeSweep st).obk = s.obk := rfl
@[simp] theorem State.closeSweep_points (s : State) (st : SweepState) : (s.closeSweep st).points = s.points := rfl
@[simp] theorem State.closeSweep_frostLoad (s : State) (st : SweepState) : (s.closeSweep st).frostLoad = s.frostLoad := rfl
@[simp] theorem State.closeSweep_line (s : State) (st : SweepState) : (s.closeSweep st).line = s.line := rfl
@[simp] theorem State.closeSweep_accounts (s : State) (st : SweepState) : (s.closeSweep st).accounts = s.accounts := rfl
@[simp] theorem State.closeSweep_tariffs (s : State) (st : SweepState) : (s.closeSweep st).tariffs = s.tariffs := rfl
@[simp] theorem State.closeSweep_faults (s : State) (st : SweepState) : (s.closeSweep st).faults = s.faults := rfl
@[simp] theorem State.closeSweep_mail (s : State) (st : SweepState) : (s.closeSweep st).mail = s.mail := rfl
@[simp] theorem State.closeSweep_pending (s : State) (st : SweepState) : (s.closeSweep st).pending = s.pending := rfl

/-! `State.changeSweep` writes `sweep` alone. -/
@[simp] theorem State.changeSweep_power (s : State) (f : Sweep → Sweep) : (s.changeSweep f).power = s.power := rfl
@[simp] theorem State.changeSweep_resetAsserted (s : State) (f : Sweep → Sweep) : (s.changeSweep f).resetAsserted = s.resetAsserted := rfl
@[simp] theorem State.changeSweep_port (s : State) (f : Sweep → Sweep) : (s.changeSweep f).port = s.port := rfl
@[simp] theorem State.changeSweep_cal (s : State) (f : Sweep → Sweep) : (s.changeSweep f).cal = s.cal := rfl
@[simp] theorem State.changeSweep_settings (s : State) (f : Sweep → Sweep) : (s.changeSweep f).settings = s.settings := rfl
@[simp] theorem State.changeSweep_obk (s : State) (f : Sweep → Sweep) : (s.changeSweep f).obk = s.obk := rfl
@[simp] theorem State.changeSweep_points (s : State) (f : Sweep → Sweep) : (s.changeSweep f).points = s.points := rfl
@[simp] theorem State.changeSweep_frostLoad (s : State) (f : Sweep → Sweep) : (s.changeSweep f).frostLoad = s.frostLoad := rfl
@[simp] theorem State.changeSweep_line (s : State) (f : Sweep → Sweep) : (s.changeSweep f).line = s.line := rfl
@[simp] theorem State.changeSweep_accounts (s : State) (f : Sweep → Sweep) : (s.changeSweep f).accounts = s.accounts := rfl
@[simp] theorem State.changeSweep_tariffs (s : State) (f : Sweep → Sweep) : (s.changeSweep f).tariffs = s.tariffs := rfl
@[simp] theorem State.changeSweep_faults (s : State) (f : Sweep → Sweep) : (s.changeSweep f).faults = s.faults := rfl
@[simp] theorem State.changeSweep_mail (s : State) (f : Sweep → Sweep) : (s.changeSweep f).mail = s.mail := rfl
@[simp] theorem State.changeSweep_pending (s : State) (f : Sweep → Sweep) : (s.changeSweep f).pending = s.pending := rfl

end Sys2Proof.Machine
end

