-- ==== Sys2Proof/Laws/Table.lean ====
section
/-! SUPPORT. Sparse tables: what a read gives after a write, and that every write keeps the canonical
form. -/

namespace Sys2Proof.Machine

variable {α : Type}

/-! ### Reads after writes -/

@[simp] theorem cell?_nil (k : Nat) : cell? ([] : Table α) k = none := rfl

theorem cell?_cons (j : Nat) (v : α) (t : Table α) (k : Nat) :
    cell? ((j, v) :: t) k = if j = k then some v else cell? t k := rfl

@[simp] theorem cell?_setCell_self (t : Table α) (k : Nat) (v : α) :
    cell? (setCell t k v) k = some v := by
  induction t with
  | nil => simp [setCell, cell?_cons]
  | cons c t ih =>
    obtain ⟨j, w⟩ := c
    by_cases hk : k < j
    · simp [setCell, hk, cell?_cons]
    · by_cases he : k = j
      · simp [setCell, he, cell?_cons]
      · simp [setCell, hk, he, cell?_cons, Ne.symm he, ih]

theorem cell?_setCell_other (t : Table α) {k n : Nat} (v : α) (h : n ≠ k) :
    cell? (setCell t k v) n = cell? t n := by
  induction t with
  | nil => simp [setCell, cell?_cons, Ne.symm h]
  | cons c t ih =>
    obtain ⟨j, w⟩ := c
    by_cases hk : k < j
    · simp [setCell, hk, cell?_cons, Ne.symm h]
    · by_cases he : k = j
      · subst he; simp [setCell, cell?_cons, Ne.symm h]
      · simp [setCell, hk, he, cell?_cons, ih]

/-- A read after a write: the value at the number written, the old value elsewhere. -/
theorem cell?_setCell (t : Table α) (k n : Nat) (v : α) :
    cell? (setCell t k v) n = if n = k then some v else cell? t n := by
  by_cases h : n = k
  · simp [h]
  · simp [h, cell?_setCell_other t v h]

theorem cell?_filter_of_key (t : Table α) (p : Nat → Bool) (k : Nat) :
    cell? (t.filter (fun c => p c.1)) k = if p k then cell? t k else none := by
  induction t with
  | nil => simp
  | cons c t ih =>
    obtain ⟨j, w⟩ := c
    by_cases hj : p j
    · by_cases he : j = k
      · subst he; simp [hj, cell?_cons]
      · simp [hj, cell?_cons, he, ih]
    · by_cases he : j = k
      · subst he; simp [hj, ih]
      · simp [hj, cell?_cons, he, ih]

/-- A read after a removal. -/
theorem cell?_delCell (t : Table α) (k n : Nat) :
    cell? (delCell t k) n = if n = k then none else cell? t n := by
  have h := cell?_filter_of_key t (fun j => j != k) n
  unfold delCell
  rw [h]
  by_cases hn : n = k <;> simp [hn]

/-- A read after a write of a value, in a table whose unlisted entries read d. -/
theorem valueAt_setValue [DecidableEq α] (d : α) (t : Table α) (k n : Nat) (v : α) :
    valueAt d (setValue d t k v) n = if n = k then v else valueAt d t n := by
  unfold setValue valueAt
  by_cases hv : v = d
  · by_cases hn : n = k <;> simp [hv, cell?_delCell, hn]
  · by_cases hn : n = k <;> simp [hv, cell?_setCell, hn]

/-! ### The canonical form -/

/-- Record numbers strictly rising, as a relation between any two entries. -/
theorem risingKeys_iff (t : Table α) :
    risingKeys t = true ↔ t.Pairwise (fun a b => a.1 < b.1) := by
  induction t with
  | nil => simp [risingKeys]
  | cons c t ih =>
    obtain ⟨j, w⟩ := c
    cases t with
    | nil => simp [risingKeys]
    | cons e t =>
      obtain ⟨k, x⟩ := e
      rw [show risingKeys ((j, w) :: (k, x) :: t) = (decide (j < k) && risingKeys ((k, x) :: t)) from rfl]
      rw [Bool.and_eq_true, ih, decide_eq_true_eq]
      constructor
      · rintro ⟨hjk, hp⟩
        refine List.pairwise_cons.2 ⟨?_, hp⟩
        intro a ha
        rcases List.mem_cons.1 ha with rfl | ha
        · exact hjk
        · exact lt_trans hjk ((List.pairwise_cons.1 hp).1 a ha)
      · intro hall
        obtain ⟨ha, hp⟩ := List.pairwise_cons.1 hall
        exact ⟨ha (k, x) (by simp), hp⟩

theorem mem_setCell {t : Table α} {k : Nat} {v : α} {c : Nat × α} (h : c ∈ setCell t k v) :
    c = (k, v) ∨ c ∈ t := by
  induction t with
  | nil => simp [setCell] at h; exact Or.inl h
  | cons e t ih =>
    obtain ⟨j, w⟩ := e
    by_cases hk : k < j
    · simp [setCell, hk] at h; simpa [or_assoc] using h
    · by_cases he : k = j
      · subst he
        simp [setCell] at h
        rcases h with h | h
        · exact Or.inl h
        · exact Or.inr (by simp [h])
      · simp [setCell, hk, he] at h
        rcases h with h | h
        · exact Or.inr (by simp [h])
        · rcases ih h with h | h
          · exact Or.inl h
          · exact Or.inr (by simp [h])

/-- Writing keeps the record numbers rising. -/
theorem risingKeys_setCell {t : Table α} (k : Nat) (v : α) (h : risingKeys t = true) :
    risingKeys (setCell t k v) = true := by
  rw [risingKeys_iff] at h ⊢
  induction t with
  | nil => simp [setCell]
  | cons e t ih =>
    obtain ⟨j, w⟩ := e
    have hc := List.pairwise_cons.1 h
    by_cases hk : k < j
    · simp only [setCell, hk, if_true]
      refine List.pairwise_cons.2 ⟨?_, h⟩
      intro a ha
      rcases List.mem_cons.1 ha with rfl | ha
      · exact hk
      · exact lt_trans hk (hc.1 a ha)
    · by_cases he : k = j
      · subst he
        simp only [setCell, lt_irrefl, if_false, if_true]
        exact List.pairwise_cons.2 ⟨fun a ha => hc.1 a ha, hc.2⟩
      · simp only [setCell, hk, he, if_false]
        refine List.pairwise_cons.2 ⟨?_, ih hc.2⟩
        intro a ha
        rcases mem_setCell ha with rfl | ha
        · show j < k
          omega
        · exact hc.1 a ha

/-- Leaving entries out keeps the record numbers rising. -/
theorem risingKeys_filter {t : Table α} (p : Nat × α → Bool) (h : risingKeys t = true) :
    risingKeys (t.filter p) = true := by
  rw [risingKeys_iff] at h ⊢
  exact h.filter p

theorem risingKeys_delCell {t : Table α} (k : Nat) (h : risingKeys t = true) :
    risingKeys (delCell t k) = true := risingKeys_filter _ h

/-- Changing values alone keeps the record numbers rising. -/
theorem risingKeys_map {t : Table α} {β : Type} (f : Nat × α → β) (h : risingKeys t = true) :
    risingKeys (t.map (fun e => (e.1, f e))) = true := by
  rw [risingKeys_iff] at h ⊢
  rw [List.pairwise_map]
  exact h

/-- Writing a value keeps the canonical form. -/
theorem canonical_setValue [DecidableEq α] {d : α} {t : Table α} (k : Nat) (v : α)
    (h : canonical d t = true) : canonical d (setValue d t k v) = true := by
  unfold canonical at *
  rw [Bool.and_eq_true, List.all_eq_true] at *
  obtain ⟨hr, ha⟩ := h
  unfold setValue
  by_cases hv : v = d
  · simp only [hv, if_true]
    exact ⟨risingKeys_delCell k hr, fun c hc => ha c (List.mem_filter.1 hc).1⟩
  · simp only [hv, if_false]
    refine ⟨risingKeys_setCell k v hr, fun c hc => ?_⟩
    rcases mem_setCell hc with rfl | hc
    · simpa using hv
    · exact ha c hc

theorem canonical_filter [DecidableEq α] {d : α} {t : Table α} (p : Nat × α → Bool)
    (h : canonical d t = true) : canonical d (t.filter p) = true := by
  unfold canonical at *
  rw [Bool.and_eq_true, List.all_eq_true] at *
  exact ⟨risingKeys_filter p h.1, fun c hc => h.2 c (List.mem_filter.1 hc).1⟩

/-- In a table with rising record numbers, an entry is what a read of its number gives. -/
theorem cell?_of_mem {t : Table α} {k : Nat} {v : α} (h : risingKeys t = true) (hm : (k, v) ∈ t) :
    cell? t k = some v := by
  rw [risingKeys_iff] at h
  induction t with
  | nil => simp at hm
  | cons e t ih =>
    obtain ⟨j, w⟩ := e
    have hc := List.pairwise_cons.1 h
    rcases List.mem_cons.1 hm with he | hm
    · injection he with h1 h2
      subst h1; subst h2
      simp [cell?_cons]
    · have hlt := hc.1 _ hm
      simp only at hlt
      rw [cell?_cons, if_neg (by omega)]
      exact ih hc.2 hm

/-- What a read gives is an entry. -/
theorem mem_of_cell? {t : Table α} {k : Nat} {v : α} (h : cell? t k = some v) : (k, v) ∈ t := by
  induction t with
  | nil => simp at h
  | cons e t ih =>
    obtain ⟨j, w⟩ := e
    rw [cell?_cons] at h
    by_cases hj : j = k
    · subst hj
      simp at h
      simp [h]
    · simp [hj] at h
      simp [ih h]

/-! ### Walks -/

/-- What every step of a walk keeps, the walk keeps. -/
theorem foldl_keeps {σ β γ : Type} (g : σ → γ) (f : σ → β → σ) (h : ∀ s x, g (f s x) = g s)
    (l : List β) (s : σ) : g (l.foldl f s) = g s := by
  induction l generalizing s with
  | nil => rfl
  | cons x l ih => rw [List.foldl_cons, ih, h]

/-- What holds of a state and is kept by every step of a walk holds after the walk. -/
theorem foldl_inv {σ β : Type} (P : σ → Prop) (f : σ → β → σ) (h : ∀ s x, P s → P (f s x))
    (l : List β) (s : σ) (hs : P s) : P (l.foldl f s) := by
  induction l generalizing s with
  | nil => exact hs
  | cons x l ih => exact ih _ (h s x hs)

end Sys2Proof.Machine
end

