-- ==== Sys2Proof/Laws/Fixed.lean ====
section
/-! SUPPORT. What the shared operations of the blocks leave as it was: the supply and reset levels, the
request port, the settings, the tariffs, the Fault Unit and the queue. -/

namespace Sys2Proof.Machine

set_option linter.unusedTactic false
set_option linter.unreachableTactic false

/-- The records no shared operation writes: only the commands named in their own rules do. -/
def State.fixed (s : State) :
    Power × Bool × Port × Settings × Table Tariff × Faults × List Instr :=
  (s.power, s.resetAsserted, s.port, s.settings, s.tariffs, s.faults, s.pending)

@[simp] theorem State.fixed_mk (s : State) (cal : Calendar) (obk : OrderBook) (points : Table Point)
    (load : Table Nat) (line : Line) (accounts : Table Account) (sweep : SweepEngine) (mail : Mail) :
    (State.mk s.power s.resetAsserted s.port cal s.settings obk points load line accounts s.tariffs
      sweep s.faults mail s.pending).fixed = s.fixed := rfl

/-- Equal fixed parts, field by field. -/
theorem State.fixed_fields {s t : State} (h : t.fixed = s.fixed) :
    t.power = s.power ∧ t.resetAsserted = s.resetAsserted ∧ t.port = s.port ∧
      t.settings = s.settings ∧ t.tariffs = s.tariffs ∧ t.faults = s.faults ∧
      t.pending = s.pending := by
  simpa [State.fixed] using h

/-! ### Ops -/

@[simp] theorem State.setPoint_fixed (s : State) (p : Nat) (v : Point) :
    (s.setPoint p v).fixed = s.fixed := rfl

@[simp] theorem State.setAccount_fixed (s : State) (n : Nat) (v : Account) :
    (s.setAccount n v).fixed = s.fixed := rfl

@[simp] theorem State.report_fixed (s : State) (k : ErrorKind) (r : ErrorRef) :
    (s.report k r).fixed = s.fixed := rfl

@[simp] theorem State.notify_fixed (s : State) (p : Nat) (o : Option Scheduled) :
    (s.notify p o).fixed = s.fixed := rfl

@[simp] theorem State.markOrder_fixed (s : State) (i : Nat) :
    (s.markOrder i).fixed = s.fixed := rfl

@[simp] theorem State.retireEntry_fixed (s : State) (i : Nat) :
    (s.retireEntry i).fixed = s.fixed := rfl

@[simp] theorem State.joinWaiting_fixed (s : State) (h : Nat) :
    (s.joinWaiting h).fixed = s.fixed := rfl

@[simp] theorem State.leaveWaiting_fixed (s : State) (h : Nat) :
    (s.leaveWaiting h).fixed = s.fixed := rfl

@[simp] theorem State.owe_fixed (s : State) :
    (s.owe).fixed = s.fixed := rfl

@[simp] theorem State.setStation_fixed (s : State) (a : Nat) (v : Station) :
    (s.setStation a v).fixed = s.fixed := rfl

@[simp] theorem State.startTransaction_fixed (s : State) (j : Job) :
    (s.startTransaction j).fixed = s.fixed := rfl

@[simp] theorem State.lineIdle_fixed (s : State) :
    (s.lineIdle).fixed = s.fixed := rfl

@[simp] theorem State.setMode_fixed (s : State) (m : FieldMode) :
    (s.setMode m).fixed = s.fixed := rfl

@[simp] theorem State.nextAttempt_fixed (s : State) (t : Transaction) :
    (s.nextAttempt t).fixed = s.fixed := rfl

@[simp] theorem State.startSweep_fixed (s : State) (w : Sweep) :
    (s.startSweep w).fixed = s.fixed := rfl

@[simp] theorem State.closeSweep_fixed (s : State) (st : SweepState) :
    (s.closeSweep st).fixed = s.fixed := rfl

@[simp] theorem State.changeSweep_fixed (s : State) (f : Sweep → Sweep) :
    (s.changeSweep f).fixed = s.fixed := rfl

@[simp] theorem State.tally_fixed (s : State) (f : Counts → Counts) :
    (s.tally f).fixed = s.fixed := rfl

@[simp] theorem State.moveCursor_fixed (s : State) (c : Nat) :
    (s.moveCursor c).fixed = s.fixed := rfl

@[simp] theorem State.changePoint_fixed (s : State) (p : Nat) (f : Point → Point) :
    (s.changePoint p f).fixed = s.fixed := by
  simp only [State.changePoint]
  repeat' split
  all_goals simp

@[simp] theorem State.reviseAccount_fixed (s : State) (n : Nat) (f : Account → Account) :
    (s.reviseAccount n f).fixed = s.fixed := by
  simp only [State.reviseAccount]
  repeat' split
  all_goals simp

@[simp] theorem State.putOrder_fixed (s : State) (i : Nat) (o : Order) :
    (s.putOrder i o).fixed = s.fixed := by
  simp only [State.putOrder]
  repeat' split
  all_goals simp

@[simp] theorem State.reevaluate_fixed (s : State) (n : Nat) :
    (s.reevaluate n).fixed = s.fixed := by
  simp only [State.reevaluate]
  repeat' split
  all_goals simp

@[simp] theorem State.resend_fixed (s : State) (n : Nat) :
    (s.resend n).fixed = s.fixed := by
  simp only [State.resend]
  repeat' split
  all_goals simp

@[simp] theorem State.withdraw_fixed (s : State) (n : Nat) :
    (s.withdraw n).fixed = s.fixed := by
  simp only [State.withdraw]
  repeat' split
  all_goals simp

@[simp] theorem State.setTarget_fixed (s : State) (n flow : Nat) :
    (s.setTarget n flow).fixed = s.fixed := by
  simp only [State.setTarget]
  repeat' split
  all_goals simp

@[simp] theorem State.beginSet_fixed (s : State) (n : Nat) (p : Point) :
    (s.beginSet n p).fixed = s.fixed := by
  simp only [State.beginSet]
  repeat' split
  all_goals simp

@[simp] theorem State.beginPoll_fixed (s : State) (a : Nat) :
    (s.beginPoll a).fixed = s.fixed := by
  simp only [State.beginPoll]
  repeat' split
  all_goals simp

@[simp] theorem State.offerPoll_fixed (s : State) :
    (s.offerPoll).fixed = s.fixed := by
  simp only [State.offerPoll]
  repeat' split
  all_goals simp

@[simp] theorem State.arbitrate_fixed (s : State) :
    (s.arbitrate).fixed = s.fixed := by
  simp only [State.arbitrate]
  repeat' split
  all_goals simp

/-! ### Release Control -/

@[simp] theorem State.recheck_fixed (s : State) (n : Nat) :
    (s.recheck n).fixed = s.fixed := by
  simp only [State.recheck]
  repeat' split
  all_goals simp

@[simp] theorem State.recheckReach_fixed (s : State) (r : Nat) :
    (s.recheckReach r).fixed = s.fixed := by
  simp only [State.recheckReach]
  repeat' split
  all_goals simp

@[simp] theorem State.recheckAll_fixed (s : State) :
    (s.recheckAll).fixed = s.fixed := by
  simp only [State.recheckAll]
  refine (foldl_keeps (fun s : State => s.fixed) _ (fun s x => by simp) _ _).trans ?_
  first | rfl | simp

@[simp] theorem State.retarget_fixed (s : State) (n : Nat) :
    (s.retarget n).fixed = s.fixed := by
  simp only [State.retarget]
  repeat' split
  all_goals simp

@[simp] theorem State.refreshFrost_fixed (s : State) (rs : List Nat) :
    (s.refreshFrost rs).fixed = s.fixed := by
  simp only [State.refreshFrost]
  refine (foldl_keeps (fun s : State => s.fixed) _ (fun s x => by simp) _ _).trans ?_
  first | rfl | simp

@[simp] theorem State.refreshPath_fixed (s : State) (r : Nat) :
    (s.refreshPath r).fixed = s.fixed := by
  simp only [State.refreshPath]
  repeat' split
  all_goals simp

@[simp] theorem State.withRing_fixed (s : State) (c : Calendar) :
    (s.withRing c).fixed = s.fixed := by
  simp only [State.withRing]
  refine (foldl_keeps (fun s : State => s.fixed) _ (fun s x => by simp) _ _).trans ?_
  first | rfl | simp

@[simp] theorem State.alignOrder_fixed (s : State) (n : Nat) (m : Mode) :
    (s.alignOrder n m).fixed = s.fixed := by
  simp only [State.alignOrder]
  repeat' split
  all_goals simp

@[simp] theorem State.changeMode_fixed (s : State) (n : Nat) (m : Mode) :
    (s.changeMode n m).fixed = s.fixed := by
  simp only [State.changeMode]
  repeat' split
  all_goals simp

@[simp] theorem State.clearCloseOwed_fixed (s : State) (n : Nat) :
    (s.clearCloseOwed n).fixed = s.fixed := by
  simp only [State.clearCloseOwed]
  repeat' split
  all_goals simp

@[simp] theorem State.switchLocal_fixed (s : State) (n : Nat) :
    (s.switchLocal n).fixed = s.fixed := by
  simp only [State.switchLocal]
  repeat' split
  all_goals simp

@[simp] theorem State.switchRemote_fixed (s : State) (n : Nat) :
    (s.switchRemote n).fixed = s.fixed := by
  simp only [State.switchRemote]
  repeat' split
  all_goals simp

/-! ### The Order Book -/

@[simp] theorem State.createOrder_fixed (s : State) (i : Nat) (q : Ask) (a b d : Nat) (st : OrderState) :
    (s.createOrder i q a b d st).fixed = s.fixed := by
  simp only [State.createOrder]
  repeat' split
  all_goals simp

@[simp] theorem State.releaseOrder_fixed (s : State) (o : Order) (g : Nat) :
    (s.releaseOrder o g).fixed = s.fixed := by
  simp only [State.releaseOrder]
  repeat' split
  all_goals simp

@[simp] theorem State.freeOrder_fixed (s : State) (i : Nat) (o : Order) :
    (s.freeOrder i o).fixed = s.fixed := by
  simp only [State.freeOrder]
  repeat' split
  all_goals simp

@[simp] theorem State.cancelOrder_fixed (s : State) (i : Nat) (o : Order) (w : CloseReason) :
    (s.cancelOrder i o w).fixed = s.fixed := by
  simp only [State.cancelOrder]
  repeat' split
  all_goals simp

@[simp] theorem State.expireOrder_fixed (s : State) (i : Nat) (o : Order) :
    (s.expireOrder i o).fixed = s.fixed := by
  simp only [State.expireOrder]
  repeat' split
  all_goals simp

@[simp] theorem State.cutOrder_fixed (s : State) (i : Nat) (o : Order) (w : CloseReason) :
    (s.cutOrder i o w).fixed = s.fixed := by
  simp only [State.cutOrder]
  repeat' split
  all_goals simp

@[simp] theorem State.trimOrder_fixed (s : State) (i : Nat) (o : Order) (k : Nat) :
    (s.trimOrder i o k).fixed = s.fixed := by
  simp only [State.trimOrder]
  repeat' split
  all_goals simp

@[simp] theorem State.bumpOrder_fixed (s : State) (i : Nat) (o : Order) :
    (s.bumpOrder i o).1.fixed = s.fixed := by
  simp only [State.bumpOrder]
  repeat' split
  all_goals simp

@[simp] theorem State.reexamineEntry_fixed (s : State) (h : Nat) :
    (s.reexamineEntry h).fixed = s.fixed := by
  simp only [State.reexamineEntry]
  repeat' split
  all_goals simp

@[simp] theorem State.reexamine_fixed (s : State) :
    (s.reexamine).fixed = s.fixed := by
  simp only [State.reexamine]
  refine (foldl_keeps (fun s : State => s.fixed) _ (fun s x => by simp) _ _).trans ?_
  first | rfl | simp

@[simp] theorem State.startReexamination_fixed (s : State) :
    (s.startReexamination).fixed = s.fixed := by
  simp only [State.startReexamination]
  repeat' split
  all_goals simp

@[simp] theorem State.admitOrder_fixed (s : State) (q : Ask) (a b d : Nat) (c : Calendar) (r : Result) :
    (s.admitOrder q a b d c r).1.fixed = s.fixed := by
  simp only [State.admitOrder]
  repeat' split
  all_goals simp

@[simp] theorem State.slideTries_fixed (s : State) (q : Ask) (a b : Nat) (e : Reply) (n k : Nat) :
    (s.slideTries q a b e n k).1.fixed = s.fixed := by
  induction n generalizing k with
  | zero =>
    simp only [State.slideTries]
    split <;> rfl
  | succ n ih =>
    simp only [State.slideTries]
    repeat' split
    all_goals first | rfl | simp [ih]

@[simp] theorem State.queueOrder_fixed (s : State) (q : Ask) (a : Nat) :
    (s.queueOrder q a).1.fixed = s.fixed := by
  simp only [State.queueOrder]
  repeat' split
  all_goals simp

@[simp] theorem State.placeFirst_fixed (s : State) (q : Ask) (n : Nat) :
    (s.placeFirst q n).1.fixed = s.fixed := by
  simp only [State.placeFirst]
  repeat' split
  all_goals simp

@[simp] theorem State.placeNext_fixed (s : State) (q : Ask) (n : Nat) (w : Search) :
    (s.placeNext q n w).1.fixed = s.fixed := by
  simp only [State.placeNext]
  repeat' split
  all_goals simp

@[simp] theorem State.cancelOne_fixed (b : Bool) (i : Nat) (acc : State × CancelCounts) :
    (State.cancelOne b i acc).1.fixed = acc.1.fixed := by
  unfold State.cancelOne
  repeat' split
  all_goals simp

@[simp] theorem State.cancelChain_fixed (s : State) (l : List (Nat × Order)) (b : Bool) :
    (s.cancelChain l b).1.fixed = s.fixed := by
  unfold State.cancelChain
  exact foldl_keeps (fun r : State × CancelCounts => r.1.fixed) _ (fun r x => by simp) _ _

/-! ### The boundary -/

@[simp] theorem State.markHandle_fixed (s : State) (h : Option Nat) :
    (s.markHandle h).fixed = s.fixed := by
  simp only [State.markHandle]
  repeat' split
  all_goals simp

@[simp] theorem State.closeStep_fixed (s : State) (t : Nat) :
    (s.closeStep t).1.fixed = s.fixed := by
  unfold State.closeStep
  refine foldl_keeps (fun r : State × Bool => r.1.fixed) _ (fun r x => ?_) _ _
  simp only [closeOne]
  repeat' split
  all_goals simp

@[simp] theorem State.endStep_fixed (s : State) (t : Nat) :
    (s.endStep t).fixed = s.fixed := by
  unfold State.endStep
  refine foldl_keeps (fun s : State => s.fixed) _ (fun s x => ?_) _ _
  simp only [endOne]
  repeat' split
  all_goals first | rfl | simp

@[simp] theorem State.startStep_fixed (s : State) (t : Nat) :
    (s.startStep t).fixed = s.fixed := by
  unfold State.startStep
  refine foldl_keeps (fun s : State => s.fixed) _ (fun s x => ?_) _ _
  simp only [startOne]
  repeat' split
  all_goals first | rfl | simp

@[simp] theorem State.noticeStep_fixed (s : State) (ps : List Nat) :
    (s.noticeStep ps).fixed = s.fixed := by
  simp only [State.noticeStep]
  refine (foldl_keeps (fun s : State => s.fixed) _ (fun s x => by simp) _ _).trans ?_
  first | rfl | simp

@[simp] theorem State.expireEntry_fixed (s : State) (h : Nat) :
    (s.expireEntry h).fixed = s.fixed := by
  simp only [State.expireEntry]
  repeat' split
  all_goals simp

@[simp] theorem State.expiryStep_fixed (s : State) :
    (s.expiryStep).fixed = s.fixed := by
  simp only [State.expiryStep]
  refine (foldl_keeps (fun s : State => s.fixed) _ (fun s x => by simp) _ _).trans ?_
  first | rfl | simp

@[simp] theorem State.fire_fixed (s : State) (x : Nat) (t : Template) :
    (s.fire x t).fixed = s.fixed := by
  simp only [State.fire]
  repeat' split
  all_goals simp

@[simp] theorem State.firingStep_fixed (s : State) (t : Nat) :
    (s.firingStep t).fixed = s.fixed := by
  unfold State.firingStep
  refine foldl_keeps (fun s : State => s.fixed) _ (fun s x => ?_) _ _
  repeat' split
  all_goals first | rfl | simp

@[simp] theorem State.bookBoundary_fixed (s : State) (t : Nat) :
    (s.bookBoundary t).fixed = s.fixed := by
  simp only [State.bookBoundary]
  repeat' split
  all_goals simp

@[simp] theorem State.takeNotice_fixed (s : State) (n : Notice) :
    (s.takeNotice n).fixed = s.fixed := by
  simp only [State.takeNotice]
  repeat' split
  all_goals simp

/-! ### Accounts and tables -/

@[simp] theorem State.retireFinished_fixed (s : State) (n : Nat) :
    (s.retireFinished n).fixed = s.fixed := by
  simp only [State.retireFinished]
  refine (foldl_keeps (fun s : State => s.fixed) _ (fun s x => by simp) _ _).trans ?_
  first | rfl | simp

@[simp] theorem State.closePeriod_fixed (s : State) (n : Nat) :
    (s.closePeriod n).fixed = s.fixed := by
  simp only [State.closePeriod]
  repeat' split
  all_goals simp

@[simp] theorem State.suspendOne_fixed (s : State) (e : Nat × Order) :
    (s.suspendOne e).fixed = s.fixed := by
  simp only [State.suspendOne]
  repeat' split
  all_goals simp

@[simp] theorem State.moveLitres_fixed (s : State) (a b v : Nat) :
    (s.moveLitres a b v).fixed = s.fixed := by
  simp only [State.moveLitres]
  repeat' split
  all_goals simp

@[simp] theorem State.reconfigure_fixed (s : State) (r : Nat) (a b : Reach) :
    (s.reconfigure r a b).fixed = s.fixed := by
  simp only [State.reconfigure]
  repeat' split
  all_goals simp

@[simp] theorem State.followPolling_fixed (s : State) (a : Nat) :
    (s.followPolling a).fixed = s.fixed := by
  simp only [State.followPolling]
  repeat' split
  all_goals simp

@[simp] theorem State.setCheck_fixed (s : State) (r : Nat) (c : Option Nat) :
    (s.setCheck r c).fixed = s.fixed := by
  simp only [State.setCheck]
  repeat' split
  all_goals simp

@[simp] theorem State.followCheck_fixed (s : State) (n : Nat) (a b : Option Point) :
    (s.followCheck n a b).fixed = s.fixed := by
  simp only [State.followCheck]
  repeat' split
  all_goals simp

@[simp] theorem State.removePoint_fixed (s : State) (n : Nat) (p : Point) :
    (s.removePoint n p).fixed = s.fixed := by
  simp only [State.removePoint]
  repeat' split
  all_goals simp

@[simp] theorem State.createPoint_fixed (s : State) (n : Nat) (a : Option Point) (b : Point) :
    (s.createPoint n a b).fixed = s.fixed := by
  simp only [State.createPoint]
  repeat' split
  all_goals simp

@[simp] theorem State.updatePoint_fixed (s : State) (n : Nat) (p : Point) (r : Nat) (a : Option Nat) (f g : Nat) (c : Calibration) :
    (s.updatePoint n p r a f g c).fixed = s.fixed := by
  simp only [State.updatePoint]
  repeat' split
  all_goals simp

/-! ### Time, control and metering -/

@[simp] theorem State.minute_fixed (s : State) :
    (s.minute).fixed = s.fixed := by
  simp only [State.minute]
  repeat' split
  all_goals simp

@[simp] theorem State.setClock_fixed (s : State) (m : Nat) :
    (s.setClock m).fixed = s.fixed := by
  simp only [State.setClock]
  repeat' split
  all_goals simp

@[simp] theorem State.enablePoint_fixed (s : State) (n : Nat) (p : Point) :
    (s.enablePoint n p).fixed = s.fixed := by
  simp only [State.enablePoint]
  repeat' split
  all_goals simp

@[simp] theorem State.closePoint_fixed (s : State) (n : Nat) (p : Point) :
    (s.closePoint n p).fixed = s.fixed := by
  simp only [State.closePoint]
  repeat' split
  all_goals simp

@[simp] theorem State.leavePoint_fixed (s : State) (n : Nat) (p : Point) :
    (s.leavePoint n p).fixed = s.fixed := by
  simp only [State.leavePoint]
  repeat' split
  all_goals simp

@[simp] theorem State.enterFrost_fixed (s : State) (e : Nat × Point) :
    (s.enterFrost e).fixed = s.fixed := by
  simp only [State.enterFrost]
  repeat' split
  all_goals simp

@[simp] theorem State.leaveFrost_fixed (s : State) (e : Nat × Point) :
    (s.leaveFrost e).fixed = s.fixed := by
  simp only [State.leaveFrost]
  repeat' split
  all_goals simp

@[simp] theorem State.takeGate_fixed (s : State) (g : GateNews) :
    (s.takeGate g).fixed = s.fixed := by
  simp only [State.takeGate]
  repeat' split
  all_goals simp

@[simp] theorem State.postOrder_fixed (s : State) (v : Nat) (b : Bool) (p : Place) :
    (s.postOrder v b p).fixed = s.fixed := by
  simp only [State.postOrder]
  repeat' split
  all_goals simp

@[simp] theorem State.post_fixed (s : State) (n v : Nat) (b : Bool) (p : Place) (q : Bool) :
    (s.post n v b p q).fixed = s.fixed := by
  simp only [State.post]
  repeat' split
  all_goals simp

@[simp] theorem State.postAll_fixed (s : State) (n : Nat) (b : Bool) (l : List (Nat × Place)) (q : Bool) :
    (s.postAll n b l q).fixed = s.fixed := by
  induction l generalizing s q with
  | nil => rfl
  | cons x l ih =>
    obtain ⟨v, place⟩ := x
    unfold State.postAll
    split
    · exact ih _ _
    · rw [ih]; simp

@[simp] theorem State.failMeter_fixed (s : State) (n : Nat) (p : Point) :
    (s.failMeter n p).fixed = s.fixed := by
  simp only [State.failMeter]
  repeat' split
  all_goals simp

@[simp] theorem State.convertReading_fixed (s : State) (n : Nat) (p : Point) (k : Nat) :
    (s.convertReading n p k).fixed = s.fixed := by
  simp only [State.convertReading]
  repeat' split
  all_goals simp

@[simp] theorem State.takeReading_fixed (s : State) (g : Reading) :
    (s.takeReading g).fixed = s.fixed := by
  simp only [State.takeReading]
  repeat' split
  all_goals simp

@[simp] theorem State.silentMeter_fixed (s : State) (t n : Nat) :
    (s.silentMeter t n).fixed = s.fixed := by
  simp only [State.silentMeter]
  repeat' split
  all_goals simp

@[simp] theorem State.silenceTest_fixed (s : State) (t : Nat) :
    (s.silenceTest t).fixed = s.fixed := by
  unfold State.silenceTest
  split
  · rfl
  · exact foldl_keeps (fun s : State => s.fixed) _ (fun s x => by simp) _ _

@[simp] theorem State.estimate_fixed (s : State) (u n : Nat) :
    (s.estimate u n).fixed = s.fixed := by
  simp only [State.estimate]
  repeat' split
  all_goals simp

@[simp] theorem State.meterBoundary_fixed (s : State) (t : Nat) :
    (s.meterBoundary t).fixed = s.fixed := by
  simp only [State.meterBoundary]
  refine (foldl_keeps (fun s : State => s.fixed) _ (fun s x => by simp) _ _).trans ?_
  first | rfl | simp

/-! ### The field line -/

@[simp] theorem State.stationAnswered_fixed (s : State) (a : Nat) :
    (s.stationAnswered a).fixed = s.fixed := by
  simp only [State.stationAnswered]
  repeat' split
  all_goals simp

@[simp] theorem State.stationFailed_fixed (s : State) (a : Nat) :
    (s.stationFailed a).fixed = s.fixed := by
  simp only [State.stationFailed]
  repeat' split
  all_goals simp

@[simp] theorem State.setAcknowledged_fixed (s : State) (n v a : Nat) :
    (s.setAcknowledged n v a).fixed = s.fixed := by
  simp only [State.setAcknowledged]
  repeat' split
  all_goals simp

@[simp] theorem State.setRefused_fixed (s : State) (n : Nat) :
    (s.setRefused n).fixed = s.fixed := by
  simp only [State.setRefused]
  repeat' split
  all_goals simp

@[simp] theorem State.setLost_fixed (s : State) (n : Nat) :
    (s.setLost n).fixed = s.fixed := by
  simp only [State.setLost]
  repeat' split
  all_goals simp

@[simp] theorem State.setFailed_fixed (s : State) (n : Nat) :
    (s.setFailed n).fixed = s.fixed := by
  simp only [State.setFailed]
  repeat' split
  all_goals simp

@[simp] theorem State.endUnanswered_fixed (s : State) (t : Transaction) :
    (s.endUnanswered t).fixed = s.fixed := by
  simp only [State.endUnanswered]
  repeat' split
  all_goals simp

@[simp] theorem State.badReply_fixed (s : State) (t : Transaction) (n : Nat) :
    (s.badReply t n).fixed = s.fixed := by
  simp only [State.badReply]
  repeat' split
  all_goals simp

@[simp] theorem State.deliverChannel_fixed (s : State) (a : Nat) (f : List Byte) (c : Nat) :
    (deliverChannel a f s c).fixed = s.fixed := by
  simp only [deliverChannel]
  split <;> simp

@[simp] theorem State.endAnswered_fixed (s : State) (t : Transaction) (f : List Byte) :
    (s.endAnswered t f).fixed = s.fixed := by
  simp only [State.endAnswered]
  split
  · refine (foldl_keeps (fun s : State => s.fixed) _ (fun s x => by simp) _ _).trans ?_
    simp
  · repeat' split
    all_goals simp

@[simp] theorem State.cutShort_fixed (s : State) :
    (s.cutShort).fixed = s.fixed := by
  simp only [State.cutShort]
  repeat' split
  all_goals simp

@[simp] theorem State.abandonPoll_fixed (s : State) :
    (s.abandonPoll).fixed = s.fixed := by
  simp only [State.abandonPoll]
  repeat' split
  all_goals simp

@[simp] theorem State.holdLine_fixed (s : State) :
    (s.holdLine).fixed = s.fixed := by
  simp only [State.holdLine]
  repeat' split
  all_goals simp

@[simp] theorem State.abandon_fixed (s : State) :
    (s.abandon).fixed = s.fixed := by
  simp only [State.abandon]
  repeat' split
  all_goals simp

@[simp] theorem State.reevaluateAll_fixed (s : State) :
    (s.reevaluateAll).fixed = s.fixed := by
  simp only [State.reevaluateAll]
  refine (foldl_keeps (fun s : State => s.fixed) _ (fun s x => by simp) _ _).trans ?_
  first | rfl | simp

@[simp] theorem State.resetLine_fixed (s : State) :
    (s.resetLine).fixed = s.fixed := by
  simp only [State.resetLine]
  repeat' split
  all_goals simp

/-! ### The sweeps -/

@[simp] theorem State.accountChanged_fixed (s : State) (n : Nat) :
    (s.accountChanged n).fixed = s.fixed := by
  simp only [State.accountChanged]
  repeat' split
  all_goals simp

@[simp] theorem State.trimOne_fixed (s : State) (i : Nat) (o : Order) (e : Nat) :
    (s.trimOne i o e).fixed = s.fixed := by
  simp only [State.trimOne]
  repeat' split
  all_goals simp

@[simp] theorem State.trimLoop_fixed (n k : Nat) (acc : State × Bool) :
    (State.trimLoop n k acc).1.fixed = acc.1.fixed := by
  induction k generalizing acc with
  | zero => rfl
  | succ k ih =>
    unfold State.trimLoop
    split
    · rfl
    · split
      · rfl
      · exact (ih _).trans (by simp)

@[simp] theorem State.drainOne_fixed (s : State) (i : Nat) (o : Order) :
    (s.drainOne i o).fixed = s.fixed := by
  simp only [State.drainOne]
  repeat' split
  all_goals simp

@[simp] theorem State.drainLoop_fixed (n k : Nat) (acc : State × Bool) :
    (State.drainLoop n k acc).1.fixed = acc.1.fixed := by
  induction k generalizing acc with
  | zero => rfl
  | succ k ih =>
    unfold State.drainLoop
    split
    · rfl
    · split
      · rfl
      · exact (ih _).trans (by simp)

@[simp] theorem State.curtailAccount_fixed (s : State) (n : Nat) (a : Account) (q : Nat) (d : Drain) :
    (s.curtailAccount n a q d).fixed = s.fixed := by
  simp only [State.curtailAccount]
  repeat' split
  all_goals simp

@[simp] theorem State.curtailVisit_fixed (s : State) (w : Sweep) :
    (s.curtailVisit w).fixed = s.fixed := by
  simp only [State.curtailVisit]
  repeat' split
  all_goals simp

@[simp] theorem State.bumpOne_fixed (s : State) (t : Nat) (e : Nat × Order) :
    (bumpOne t s e).fixed = s.fixed := by
  simp only [bumpOne]
  split <;> simp

@[simp] theorem State.bumpSlot_fixed (s : State) (t : Nat) :
    (s.bumpSlot t).fixed = s.fixed := by
  simp only [State.bumpSlot]
  have h := foldl_keeps (fun s : State => s.fixed) (bumpOne t) (fun s x => by simp) (s.bumpList t) s
  split <;> simp [h]

@[simp] theorem State.bumpVisit_fixed (s : State) (w : Sweep) :
    (s.bumpVisit w).fixed = s.fixed := by
  simp only [State.bumpVisit]
  repeat' split
  all_goals simp

@[simp] theorem State.skipPassed_fixed (s : State) :
    (s.skipPassed).fixed = s.fixed := by
  simp only [State.skipPassed]
  repeat' split
  all_goals simp

@[simp] theorem State.closeVisit_fixed (s : State) (w : Sweep) :
    (s.closeVisit w).fixed = s.fixed := by
  simp only [State.closeVisit]
  repeat' split
  all_goals simp

@[simp] theorem State.openSeason_fixed (s : State) :
    (s.openSeason).fixed = s.fixed := by
  simp only [State.openSeason]
  repeat' split
  all_goals simp

@[simp] theorem State.seasonAccount_fixed (s : State) (n : Nat) :
    (s.seasonAccount n).fixed = s.fixed := by
  simp only [State.seasonAccount]
  repeat' split
  all_goals simp

@[simp] theorem State.seasonVisit_fixed (s : State) (w : Sweep) :
    (s.seasonVisit w).fixed = s.fixed := by
  simp only [State.seasonVisit]
  repeat' split
  all_goals simp

@[simp] theorem State.abortSweep_fixed (s : State) :
    (s.abortSweep).fixed = s.fixed := by
  simp only [State.abortSweep]
  repeat' split
  all_goals simp

end Sys2Proof.Machine
end

