-- ==== Sys2Proof/Laws/Frames.lean ====
section
/-! SUPPORT. Bytes and frames on the field line, ten bit times a byte (R119), and bytes on the request port,
eight bits a byte (R192): what is sent reads back. -/

namespace Sys2Proof.Machine

@[simp] theorem lineBits_nil : lineBits [] = [] := rfl
theorem lineBits_cons (b : Byte) (bs : List Byte) : lineBits (b :: bs) = lineByte b ++ lineBits bs := rfl

/-- Ten bit times for each byte. -/
@[simp] theorem lineBits_length (bs : List Byte) : (lineBits bs).length = 10 * bs.length := by
  induction bs with
  | nil => rfl
  | cons b bs ih => simp [lineBits_cons, lineByte, ih]; omega

/-- The data bits of a byte give the byte. -/
theorem ofBoolListLE_getLsbD (b : Byte) :
    BitVec.ofBoolListLE [b.getLsbD 0, b.getLsbD 1, b.getLsbD 2, b.getLsbD 3, b.getLsbD 4, b.getLsbD 5,
      b.getLsbD 6, b.getLsbD 7] = b := by
  revert b; decide +kernel

/-- What is sent reads back. -/
@[simp] theorem lineRead_lineBits (bs : List Byte) : lineRead (lineBits bs) = some bs := by
  induction bs with
  | nil => rfl
  | cons b bs ih =>
    show (lineRead (lineBits bs)).map _ = _
    rw [ih]
    exact congrArg (fun x => some (x :: bs)) (ofBoolListLE_getLsbD b)

/-! ### The request port -/

@[simp] theorem spiBits_nil : spiBits [] = [] := rfl
theorem spiBits_cons (b : Byte) (bs : List Byte) : spiBits (b :: bs) = spiByte b ++ spiBits bs := rfl

/-- Eight bits for each byte. -/
@[simp] theorem spiBits_length (bs : List Byte) : (spiBits bs).length = 8 * bs.length := by
  induction bs with
  | nil => rfl
  | cons b bs ih => simp [spiBits_cons, spiByte, ih]; omega

/-- The bits of a byte, most significant first, give the byte. -/
theorem ofBoolListBE_getLsbD (b : Byte) :
    BitVec.ofBoolListBE [b.getLsbD 7, b.getLsbD 6, b.getLsbD 5, b.getLsbD 4, b.getLsbD 3, b.getLsbD 2,
      b.getLsbD 1, b.getLsbD 0] = b := by
  revert b; decide +kernel

/-- Fewer than eight bits make no byte. -/
theorem spiBytes_short (x : List Bool) (h : x.length < 8) : spiBytes x = [] := by
  unfold spiBytes
  split
  · simp only [List.length_cons] at h; omega
  · rfl

/-- What is sent reads back; bits of a byte that CS cut are no byte. -/
theorem spiBytes_spiBits (bs : List Byte) (x : List Bool) (h : x.length < 8) :
    spiBytes (spiBits bs ++ x) = bs := by
  induction bs with
  | nil => exact spiBytes_short x h
  | cons b bs ih =>
    exact (congrArg (fun y => y :: spiBytes (spiBits bs ++ x)) (ofBoolListBE_getLsbD b)).trans
      (congrArg (List.cons b) ih)

/-! ### Frames -/

/-- A frame is its bytes and two of CRC. -/
@[simp] theorem framed_length (bs : List Byte) : (framed bs).length = bs.length + 2 := by
  simp [framed, be16]

/-- A frame as built carries a correct CRC. -/
@[simp] theorem crcCorrect_framed (bs : List Byte) : crcCorrect (framed bs) = true := by
  have h : (framed bs).take bs.length = bs := by simp [framed]
  simp [crcCorrect, h]

end Sys2Proof.Machine
end

