-- ==== Sys2Proof/Laws/Requests.lean ====
section
/-! SUPPORT. What a request at its owning block leaves as it was, and how a request that has been handed
over is answered (R194). -/

namespace Sys2Proof.Machine

set_option linter.unusedTactic false
set_option linter.unreachableTactic false

/-! ### The request port -/

/-- What it is for a request to have been handed to its owning block. -/
theorem State.handed_iff (s : State) (c : Instr) :
    s.handed c = true ↔ s.power = .on ∧ s.port.orphan = false ∧ s.port.state = .executing ∧
      ∃ f, s.port.command = some f ∧ parseRequest f.code.toNat f.params = some c := by
  unfold State.handed Port.executing?
  cases s.port.state <;> cases hc : s.port.command <;> simp [and_assoc]

/-- The port after its owning block has completed the command in its buffer. -/
theorem Port.complete_of_command {p : Port} {f : Frame} (h : p.command = some f) (r : Reply) :
    p.complete r = { p with
      state := .responseWaiting
      command := none
      response := some { tag := f.tag, code := f.code, reply := r } } := by
  unfold Port.complete
  simp [h]

/-- A request that has been handed over makes its effects and is answered. -/
theorem State.takeRequest_handed {s : State} {c : Instr} (act : State → State × Reply)
    (h : s.handed c = true) :
    s.takeRequest c act = .next { (act s).1 with port := (act s).1.port.complete (act s).2 } := by
  simp [State.takeRequest, h]

/-- There is no request to take when none such has been handed over. -/
theorem State.takeRequest_not_handed {s : State} {c : Instr} (act : State → State × Reply)
    (h : s.handed c = false) : s.takeRequest c act = .next s := by
  simp [State.takeRequest, h]

/-- A request that has been handed over completes with what its owning block makes of the state. -/
theorem completes_of_handed {s s1 : State} {c : Instr} {r : Reply} {act : State → State × Reply}
    (he : exec c s = s.takeRequest c act) (h : s.handed c = true) (ha : act s = (s1, r))
    (hp : s1.port.command = s.port.command) : Completes c s s1 r := by
  obtain ⟨_, _, _, f, hf, _⟩ := (State.handed_iff s c).1 h
  refine ⟨f, hf, ?_⟩
  rw [he, State.takeRequest_handed act h, ha]
  simp [Port.complete_of_command (hp.trans hf) r]

/-! ### Requests that write none of the fixed records -/

@[simp] theorem State.configureReach_fixed (s : State) (r : Nat) (p : Option Nat) (c l : Nat) :
    (s.configureReach r p c l).1.fixed = s.fixed := by
  simp only [State.configureReach]
  repeat' split
  all_goals first | rfl | simp

@[simp] theorem State.unconfigureReach_fixed (s : State) (r : Nat) :
    (s.unconfigureReach r).1.fixed = s.fixed := by
  simp only [State.unconfigureReach]
  repeat' split
  all_goals first | rfl | simp

@[simp] theorem reqReachSet_fixed (s : State) (a r : Nat) (p : Option Nat) (c l : Nat) :
    (reqReachSet a r p c l s).1.fixed = s.fixed := by
  simp only [reqReachSet]
  repeat' split
  all_goals first | rfl | simp

@[simp] theorem reqReachQuery_fixed (s : State) (r : Nat) :
    (reqReachQuery r s).1.fixed = s.fixed := by
  simp only [reqReachQuery]
  repeat' split
  all_goals first | rfl | simp

@[simp] theorem State.givePoint_fixed (s : State) (n : Nat) (k : PointKind) (r : Nat) (a : Option Nat) (f g : Nat) (c : Calibration) :
    (s.givePoint n k r a f g c).1.fixed = s.fixed := by
  simp only [State.givePoint]
  repeat' split
  all_goals first | rfl | simp

@[simp] theorem State.clearPoint_fixed (s : State) (n : Nat) :
    (s.clearPoint n).1.fixed = s.fixed := by
  simp only [State.clearPoint]
  repeat' split
  all_goals first | rfl | simp

@[simp] theorem reqPointSet_fixed (s : State) (p k r a f q m h : Nat) :
    (reqPointSet p k r a f q m h s).1.fixed = s.fixed := by
  simp only [reqPointSet]
  repeat' split
  all_goals first | rfl | simp

@[simp] theorem reqPointQuery_fixed (s : State) (p : Nat) :
    (reqPointQuery p s).1.fixed = s.fixed := by
  simp only [reqPointQuery]
  repeat' split
  all_goals first | rfl | simp

@[simp] theorem reqAccountSet_fixed (s : State) (a c b : Nat) :
    (reqAccountSet a c b s).1.fixed = s.fixed := by
  simp only [reqAccountSet]
  repeat' split
  all_goals first | rfl | simp

@[simp] theorem reqAccountQuery_fixed (s : State) (a p : Nat) :
    (reqAccountQuery a p s).1.fixed = s.fixed := by
  simp only [reqAccountQuery]
  repeat' split
  all_goals first | rfl | simp

@[simp] theorem reqAccountSuspend_fixed (s : State) (a : Nat) :
    (reqAccountSuspend a s).1.fixed = s.fixed := by
  simp only [reqAccountSuspend]
  repeat' split
  all_goals first | rfl | skip
  all_goals
    have h := foldl_keeps (fun s : State => s.fixed) (fun s e => s.suspendOne e) (fun s x => by simp)
    simp [h]

@[simp] theorem reqAccountResume_fixed (s : State) (a : Nat) :
    (reqAccountResume a s).1.fixed = s.fixed := by
  simp only [reqAccountResume]
  repeat' split
  all_goals first | rfl | simp

@[simp] theorem reqAccountClose_fixed (s : State) (a : Nat) :
    (reqAccountClose a s).1.fixed = s.fixed := by
  simp only [reqAccountClose]
  repeat' split
  all_goals first | rfl | simp

@[simp] theorem reqTariffQuery_fixed (s : State) (c : Nat) :
    (reqTariffQuery c s).1.fixed = s.fixed := by
  simp only [reqTariffQuery]
  repeat' split
  all_goals first | rfl | simp

@[simp] theorem reqDistrictQuery_fixed (s : State) :
    (reqDistrictQuery s).1.fixed = s.fixed := by
  simp only [reqDistrictQuery]
  repeat' split
  all_goals first | rfl | simp

@[simp] theorem reqClockSet_fixed (s : State) (m : Nat) :
    (reqClockSet m s).1.fixed = s.fixed := by
  simp only [reqClockSet]
  repeat' split
  all_goals first | rfl | simp

@[simp] theorem reqClockQuery_fixed (s : State) :
    (reqClockQuery s).1.fixed = s.fixed := by
  simp only [reqClockQuery]
  repeat' split
  all_goals first | rfl | simp

@[simp] theorem reqCapacityQuery_fixed (s : State) (r f c : Nat) :
    (reqCapacityQuery r f c s).1.fixed = s.fixed := by
  simp only [reqCapacityQuery]
  repeat' split
  all_goals first | rfl | simp

@[simp] theorem State.writeSupplies_fixed (s : State) (a b c : Nat) :
    (s.writeSupplies a b c).1.fixed = s.fixed := by
  simp only [State.writeSupplies]
  repeat' split
  all_goals first | rfl | simp

@[simp] theorem reqSupplySet_fixed (s : State) (f c w : Nat) :
    (reqSupplySet f c w s).1.fixed = s.fixed := by
  simp only [reqSupplySet]
  repeat' split
  all_goals first | rfl | simp

@[simp] theorem placeEvent_fixed (s : State) (q : Ask) (n : Nat) :
    (placeEvent q n s).1.fixed = s.fixed := by
  simp only [placeEvent]
  repeat' split
  all_goals first | rfl | simp

@[simp] theorem reqPlace_fixed (s : State) (p t d f o l n : Nat) :
    (reqPlace p t d f o l n s).1.fixed = s.fixed := by
  simp only [reqPlace]
  repeat' split
  all_goals first | rfl | simp

@[simp] theorem State.amendConfirmed_fixed (s : State) (h i : Nat) (o : Order) (f e : Nat) :
    (s.amendConfirmed h i o f e).1.fixed = s.fixed := by
  simp only [State.amendConfirmed]
  repeat' split
  all_goals first | rfl | simp

@[simp] theorem State.amendDue_fixed (s : State) (h i : Nat) (o : Order) (e : Nat) :
    (s.amendDue h i o e).1.fixed = s.fixed := by
  simp only [State.amendDue]
  repeat' split
  all_goals first | rfl | simp

@[simp] theorem amendBook_fixed (s : State) (h : Nat) (f e : Option Nat) :
    (amendBook h f e s).1.fixed = s.fixed := by
  simp only [amendBook]
  repeat' split
  all_goals first | rfl | simp

@[simp] theorem reqAmend_fixed (s : State) (h : Nat) (f e : Option Nat) :
    (reqAmend h f e s).1.fixed = s.fixed := by
  simp only [reqAmend, State.settle]
  repeat' split
  all_goals first | rfl | simp

@[simp] theorem State.cancelMany_fixed (s : State) (l : List (Nat × Order)) (b : Bool) :
    (s.cancelMany l b).1.fixed = s.fixed := by
  simp only [State.cancelMany]
  repeat' split
  all_goals first | rfl | simp

@[simp] theorem State.cancelNamed_fixed (s : State) (h : Nat) :
    (s.cancelNamed h).1.fixed = s.fixed := by
  simp only [State.cancelNamed]
  repeat' split
  all_goals first | rfl | simp

@[simp] theorem cancelBook_fixed (s : State) (c r o : Nat) :
    (cancelBook c r o s).1.fixed = s.fixed := by
  simp only [cancelBook]
  repeat' split
  all_goals first | rfl | simp

@[simp] theorem reqCancel_fixed (s : State) (c r o : Nat) :
    (reqCancel c r o s).1.fixed = s.fixed := by
  simp only [reqCancel, State.settle]
  repeat' split
  all_goals first | rfl | simp

@[simp] theorem reqOrderQuery_fixed (s : State) (h : Nat) :
    (reqOrderQuery h s).1.fixed = s.fixed := by
  simp only [reqOrderQuery]
  repeat' split
  all_goals first | rfl | simp

@[simp] theorem reqRetire_fixed (s : State) (h : Nat) :
    (reqRetire h s).1.fixed = s.fixed := by
  simp only [reqRetire]
  repeat' split
  all_goals first | rfl | simp

@[simp] theorem reqNextChanged_fixed (s : State) :
    (reqNextChanged s).1.fixed = s.fixed := by
  simp only [reqNextChanged]
  repeat' split
  all_goals first | rfl | simp

@[simp] theorem reqWaitlistQuery_fixed (s : State) (p : Nat) :
    (reqWaitlistQuery p s).1.fixed = s.fixed := by
  simp only [reqWaitlistQuery]
  repeat' split
  all_goals first | rfl | simp

@[simp] theorem reqStandingSet_fixed (s : State) (x p o d f c : Nat) (n : Option Nat) :
    (reqStandingSet x p o d f c n s).1.fixed = s.fixed := by
  simp only [reqStandingSet]
  repeat' split
  all_goals first | rfl | simp

@[simp] theorem reqStandingResume_fixed (s : State) (x : Nat) :
    (reqStandingResume x s).1.fixed = s.fixed := by
  simp only [reqStandingResume]
  repeat' split
  all_goals first | rfl | simp

@[simp] theorem reqStandingClear_fixed (s : State) (x : Nat) :
    (reqStandingClear x s).1.fixed = s.fixed := by
  simp only [reqStandingClear]
  repeat' split
  all_goals first | rfl | simp

@[simp] theorem reqStandingQuery_fixed (s : State) (x : Nat) :
    (reqStandingQuery x s).1.fixed = s.fixed := by
  simp only [reqStandingQuery]
  repeat' split
  all_goals first | rfl | simp

@[simp] theorem reqPointEnable_fixed (s : State) (p : Nat) :
    (reqPointEnable p s).1.fixed = s.fixed := by
  simp only [reqPointEnable]
  repeat' split
  all_goals first | rfl | simp

@[simp] theorem reqPointDisable_fixed (s : State) (p a : Nat) :
    (reqPointDisable p a s).1.fixed = s.fixed := by
  simp only [reqPointDisable]
  repeat' split
  all_goals first | rfl | simp

@[simp] theorem reqLocalAck_fixed (s : State) (p : Nat) :
    (reqLocalAck p s).1.fixed = s.fixed := by
  simp only [reqLocalAck]
  repeat' split
  all_goals first | rfl | simp

@[simp] theorem reqFrostCall_fixed (s : State) (c r : Nat) :
    (reqFrostCall c r s).1.fixed = s.fixed := by
  simp only [reqFrostCall]
  repeat' split
  all_goals first | rfl | skip
  simp only [State.arbitrate_fixed, State.refreshFrost_fixed]
  exact foldl_keeps (fun s : State => s.fixed) _ (fun s x => by simp) _ _

@[simp] theorem reqFrostEnd_fixed (s : State) (c r : Nat) :
    (reqFrostEnd c r s).1.fixed = s.fixed := by
  simp only [reqFrostEnd]
  repeat' split
  all_goals first | rfl | skip
  simp only [State.arbitrate_fixed, State.refreshFrost_fixed]
  exact foldl_keeps (fun s : State => s.fixed) _ (fun s x => by simp) _ _

@[simp] theorem reqFieldStart_fixed (s : State) :
    (reqFieldStart s).1.fixed = s.fixed := by
  simp only [reqFieldStart]
  repeat' split
  all_goals first | rfl | simp

@[simp] theorem reqFieldStop_fixed (s : State) :
    (reqFieldStop s).1.fixed = s.fixed := by
  simp only [reqFieldStop]
  repeat' split
  all_goals first | rfl | simp

@[simp] theorem reqResume_fixed (s : State) :
    (reqResume s).1.fixed = s.fixed := by
  simp only [reqResume]
  repeat' split
  all_goals first | rfl | simp

@[simp] theorem reqStationQuery_fixed (s : State) (a : Nat) :
    (reqStationQuery a s).1.fixed = s.fixed := by
  simp only [reqStationQuery]
  repeat' split
  all_goals first | rfl | simp

@[simp] theorem reqMeterRebase_fixed (s : State) (p : Nat) :
    (reqMeterRebase p s).1.fixed = s.fixed := by
  simp only [reqMeterRebase]
  repeat' split
  all_goals first | rfl | simp

@[simp] theorem reqMeterQuery_fixed (s : State) (p : Nat) :
    (reqMeterQuery p s).1.fixed = s.fixed := by
  simp only [reqMeterQuery]
  repeat' split
  all_goals first | rfl | simp

@[simp] theorem reqTransfer_fixed (s : State) (g t v : Nat) :
    (reqTransfer g t v s).1.fixed = s.fixed := by
  simp only [reqTransfer]
  repeat' split
  all_goals first | rfl | simp

@[simp] theorem State.closeAccountPeriod_fixed (s : State) (a : Nat) :
    (s.closeAccountPeriod a).1.fixed = s.fixed := by
  simp only [State.closeAccountPeriod]
  repeat' split
  all_goals first | rfl | simp

@[simp] theorem State.closeScopePeriod_fixed (s : State) (sc : Scope) :
    (s.closeScopePeriod sc).1.fixed = s.fixed := by
  simp only [State.closeScopePeriod]
  repeat' split
  all_goals first | rfl | simp

@[simp] theorem reqPeriodClose_fixed (s : State) (c r : Nat) :
    (reqPeriodClose c r s).1.fixed = s.fixed := by
  simp only [reqPeriodClose]
  repeat' split
  all_goals first | rfl | simp

@[simp] theorem reqSeasonOpen_fixed (s : State) :
    (reqSeasonOpen s).1.fixed = s.fixed := by
  simp only [reqSeasonOpen]
  repeat' split
  all_goals first | rfl | simp

@[simp] theorem reqStatementQuery_fixed (s : State) (a : Nat) :
    (reqStatementQuery a s).1.fixed = s.fixed := by
  simp only [reqStatementQuery]
  repeat' split
  all_goals first | rfl | simp

@[simp] theorem reqNextAccountChanged_fixed (s : State) :
    (reqNextAccountChanged s).1.fixed = s.fixed := by
  simp only [reqNextAccountChanged]
  repeat' split
  all_goals first | rfl | simp

@[simp] theorem reqCurtail_fixed (s : State) (c k b z q d : Nat) :
    (reqCurtail c k b z q d s).1.fixed = s.fixed := by
  simp only [reqCurtail]
  repeat' split
  all_goals first | rfl | simp

@[simp] theorem reqSweepQuery_fixed (s : State) :
    (reqSweepQuery s).1.fixed = s.fixed := by
  simp only [reqSweepQuery]
  repeat' split
  all_goals first | rfl | simp

@[simp] theorem reqErrorQuery_fixed (s : State) :
    (reqErrorQuery s).1.fixed = s.fixed := by
  simp only [reqErrorQuery]
  repeat' split
  all_goals first | rfl | simp

@[simp] theorem reqAttentionQuery_fixed (s : State) :
    (reqAttentionQuery s).1.fixed = s.fixed := by
  simp only [reqAttentionQuery]
  repeat' split
  all_goals first | rfl | simp

end Sys2Proof.Machine
end

