-- ==== Sys2Proof/Tests/Slice0.lean ====
section
/-! SUPPORT. Tests of the model on small states: an ill-formed term for each check of WellFormed, what
each request answers at the edges of its checks, and a witness for the hypotheses of every statement. -/

namespace Sys2Proof.Tests

-- One test is checked after another: all at once, their threads outgrow the memory limit.
set_option Elab.async false

open Sys2Proof.Machine

/-! ### Small states -/

/-- A point that is a turnout with nothing scheduled. -/
def turnout (reach account rated frost : Nat) (mode : Mode) : Point :=
  { kind := .turnout, reach := reach, account := some account, rated := rated, frostRate := frost,
    mode := mode, switch := .remote, latch := false, target := 0, scheduled := none, backup := none,
    closeOwed := false, overload := false, position := 0, gateFault := false,
    active := { mantissa := 100, shift := 0 }, staged := none,
    field := { acknowledged := 0, inFlight := none, declined := none, sendPending := false,
               resendOwed := false, unconfirmed := false }
    meter := { state := .normal, baseline := 500, residual := 0, lastMinute := 14999, suspects := 0,
               seasonMetered := 0, seasonEstimated := 0 } }

/-- A check point in AUTO on reach 0. -/
def check : Point :=
  { turnout 0 0 9000 0 .auto with kind := .check, account := none, meter.state := .meterless }

/-- An open account of class 2 with a base allocation. -/
def account (base : Nat) : Account :=
  { state := .opened, cls := 2, base := base, curtailment := 10000, transferNet := 0,
    seasonOrdered := 0, seasonUnordered := 0, seasonFrost := 0, seasonEstimated := 0, reserved := 0,
    periodOrdered := 0, periodUnordered := 0, periodFrost := 0, periodEstimated := 0,
    centsOrdered := 0, centsUnordered := 0, centsFrost := 0, residual := 0, period := 0,
    statement := none, live := 0, mark := false }

/-- An order of account 5. -/
def order (point start duration flow sequence : Nat) (st : OrderState) : Order :=
  { account := 5, point := point, start := start, duration := duration, flow := flow,
    conflict := .queue, origin := .host, sequence := sequence, state := st, suspendReason := none,
    cut := none, ordered := flow * 900 * duration, delivered := 0, estimated := 0, tail := 0,
    slidBy := 0, closeReason := none }

/-- A polled station. -/
def polled : Station :=
  { polled := true, state := .responding, failures := 0, lastReply := none, silentSince := none,
    interval := 0, due := false }

/-- A district at minute 15,000, slot 1000: reaches 0 and 1; turnouts 0, 1 and 2 and check point 8;
accounts 5 to 8; a confirmed, a running, a waiting, a finished and a closing order; the line stopped. -/
def base : State :=
  { State.reset with
    cal :=
      { clock := 15000
        reaches := [(0, { parent := none, capacity := 10000, lag := 0, check := some 8 }),
                    (1, { parent := some 0, capacity := 200, lag := 2, check := none }),
                    (2, { parent := some 1, capacity := 100, lag := 3, check := none })]
        committed := [(1100 * 32, 100), (1101 * 32, 100)]
        supply := [(1012, 9000), (1013, 9000), (1014, 60), (1015, 9000), (1100, 9000), (1101, 9000),
                   (1102, 9000), (1103, 9000)]
        heads := []
        defaultSupply := 0 }
    obk :=
      { OrderBook.powerOn with
        orders := [(0, order 0 1100 2 100 1 .confirmed), (1, order 0 990 30 50 2 .running),
                   (2, order 1 1200 2 50 3 .pendingWait), (3, order 1 900 2 50 4 .closed),
                   (4, order 1 960 30 50 5 .closing)]
        marks := [3]
        waiting := [2]
        sequence := 5
        slot := 1000
        templates := [(4, { state := .active, point := 0, offset := 500, duration := 4, flow := 20,
                            conflict := .refuse, remaining := some 3, next := 1844, refusals := 0,
                            lastResult := none, lastOrder := none }),
                      (5, { state := .suspended, point := 0, offset := 500, duration := 4, flow := 20,
                            conflict := .refuse, remaining := none, next := 1844, refusals := 3,
                            lastResult := none, lastOrder := none })] }
    points := [(0, { turnout 0 5 300 40 .auto with scheduled := some { handle := 1, flow := 50 },
                                                   target := 50 }),
               (1, turnout 1 5 300 0 .disabled), (2, turnout 1 6 300 40 .disabled), (8, check)]
    line := { Line.powerOn with stations := [(0, polled), (1, polled)] }
    accounts := [(5, { account 12000000 with reserved := 180000 + 1350000 + 1350000, live := 4 }),
                 (6, account 100000), (7, { account 0 with state := .closed }),
                 (8, { account 0 with state := .suspended, mark := true })] }

/-- The request stands in the command buffer of s, handed to its owning block. -/
def asked (c : Instr) (s : State) : State :=
  match requestBytes c with
  | none => s
  | some (code, bytes) =>
    { s with
      port := { s.port with
        state := .executing
        command := some { code := BitVec.ofNat 8 code, tag := 7#8, params := bytes } } }
/-- The state that a command leaves. -/
def after (c : Instr) (s : State) : State :=
  match exec c s with
  | .next t => t
  | _ => s
/-- What a request is answered in s. -/
def resultOf (c : Instr) (s : State) : Option Result :=
  (after c (asked c s)).port.response.map (fun r => r.reply.result)
/-- Each request of a list is handed over in s and answered as given. -/
def answers (s : State) (l : List (Instr × Result)) : Bool :=
  l.all (fun e => (asked e.1 s).handed (onPort e.1) && decide (resultOf e.1 s = some e.2))

/-! ### WellFormed: an ill-formed term for each check -/

theorem test_wellformed_transactions :
    ([.command { bytes := [], bits := 8 }, .status { bytes := 0, bits := 8, ends := true },
      .status { bytes := 0, bits := 1, ends := false }, .ignoredTransaction { bytes := [], bits := 8 },
      .ignoredTransaction { bytes := [0xC1#8], bits := 0 },
      .ignoredTransaction { bytes := [0xF0#8, 0#8], bits := 0 },
      .ignoredTransaction { bytes := [0x5A#8], bits := 7 }] : List Instr).all
        (fun c => !WellFormed c) = true := by decide
theorem test_wellformed_byte_fields :
    ([.reachSet 256 0 none 0 0, .reachSet 0 256 none 0 0, .reachSet 0 0 none 0 256, .reachQuery 256,
      .pointSet 0 256 0 0 0 0 0 0, .pointSet 0 0 256 0 0 0 0 0, .pointSet 0 0 0 0 0 0 0 256,
      .accountSet 0 256 0, .accountQuery 0 256, .tariffSet 256 0 0 0 0 0 0 0 0 0, .tariffQuery 256,
      .districtSet 256 0 0 0 0, .capacityQuery 256 0 0, .capacityQuery 0 0 256, .place 0 0 256 0 0 0 0,
      .place 0 0 0 0 256 0 0, .place 0 0 0 0 0 256 0, .cancel 256 0 0, .cancel 0 0 256,
      .waitlistQuery 256, .standingSet 256 0 0 0 0 0 none, .standingSet 0 0 0 256 0 0 none,
      .standingSet 0 0 0 0 0 256 none, .standingResume 256, .standingClear 256, .standingQuery 256,
      .pointDisable 0 256, .frostCall 256 0, .frostCall 0 256, .frostEnd 256 0, .frostEnd 0 256,
      .stationQuery 256, .periodClose 256 0, .curtail 256 0 0 0 0 0, .curtail 0 256 0 0 0 0,
      .curtail 0 0 0 0 0 256, .errorClear 256, .severitySet 256 0, .severitySet 0 256,
      .attentionMask 256 0 0 0, .attentionMask 0 256 0 0, .attentionMask 0 0 256 0,
      .attentionMask 0 0 0 256, .gateReport 0 .remote 256 false] : List Instr).all
        (fun c => !WellFormed c) = true := by decide
theorem test_wellformed_two_byte_fields :
    ([.reachSet 0 0 none 65536 0, .pointSet 65536 0 0 0 0 0 0 0, .pointSet 0 0 0 65536 0 0 0 0,
      .pointSet 0 0 0 0 65536 0 0 0, .pointSet 0 0 0 0 0 65536 0 0, .pointSet 0 0 0 0 0 0 65536 0,
      .pointQuery 65536, .accountSet 65536 0 0, .accountQuery 65536 0, .accountSuspend 65536,
      .accountResume 65536, .accountClose 65536, .tariffSet 0 65536 0 0 0 0 0 0 0 0,
      .tariffSet 0 0 65536 0 0 0 0 0 0 0, .tariffSet 0 0 0 65536 0 0 0 0 0 0,
      .tariffSet 0 0 0 0 65536 0 0 0 0 0, .tariffSet 0 0 0 0 0 65536 0 0 0 0,
      .tariffSet 0 0 0 0 0 0 65536 0 0 0, .tariffSet 0 0 0 0 0 0 0 65536 0 0,
      .tariffSet 0 0 0 0 0 0 0 0 65536 0, .tariffSet 0 0 0 0 0 0 0 0 0 65536,
      .districtSet 0 65536 0 0 0, .districtSet 0 0 65536 0 0, .districtSet 0 0 0 65536 0,
      .districtSet 0 0 0 0 65536, .supplySet 0 65536 0, .supplySet 0 0 65536, .place 65536 0 0 0 0 0 0,
      .place 0 0 0 65536 0 0 0, .amend 65536 none none, .cancel 0 65536 0, .orderQuery 65536,
      .retire 65536, .standingSet 0 65536 0 0 0 0 none, .standingSet 0 0 65536 0 0 0 none,
      .standingSet 0 0 0 0 65536 0 none, .pointEnable 65536, .pointDisable 65536 0, .localAck 65536,
      .meterRebase 65536, .meterQuery 65536, .transfer 65536 0 0, .transfer 0 65536 0,
      .periodClose 0 65536, .statementQuery 65536, .curtail 0 0 65536 0 0 0, .curtail 0 0 0 65536 0 0,
      .curtail 0 0 0 0 65536 0, .appliedSetpointReport 0 65536] : List Instr).all
        (fun c => !WellFormed c) = true := by decide
theorem test_wellformed_four_byte_fields :
    ([.accountSet 0 0 4294967296, .clockSet 4294967296, .capacityQuery 0 4294967296 0,
      .supplySet 4294967296 0 0, .place 0 4294967296 0 0 0 0 0, .transfer 0 0 4294967296,
      .errorReport .gateFault (.number 4294967296)] : List Instr).all (fun c => !WellFormed c) = true := by
  decide
theorem test_wellformed_absent_codes :
    ([.reachSet 0 0 (some 255) 0 0, .amend 0 (some 65535) none, .amend 0 none (some 4294967295),
      .standingSet 0 0 0 0 0 0 (some 255), .countSelect (some 255)] : List Instr).all
        (fun c => !WellFormed c) = true := by decide
theorem test_wellformed_events :
    ([.scheduledOrderNotice 1024, .pollIntervalElapsed 128, .appliedSetpointReport 1024 0,
      .gateReport 1024 .remote 0 false, .meterReading 1024 0 false, .meterReading 0 16777216 false,
      .errorReport .sweepAborted .absent, .errorReport .commandOverrun (.number 0),
      .errorReport .gateFault .absent] : List Instr).all (fun c => !WellFormed c) = true := by decide

/-! ### What requests are answered, clause by clause, at the edges of their checks -/

theorem test_reach_requests : answers base
    [(.reachSet 0 32 (some 0) 100 0, .badParam), (.reachSet 0 31 (some 0) 60001 0, .badParam),
     (.reachSet 0 31 (some 0) 60000 49, .badParam), (.reachSet 0 0 none 60000 1, .badParam),
     (.reachSet 0 0 (some 0) 60000 0, .badParam), (.reachSet 0 1 none 60000 0, .badParam),
     (.reachSet 0 3 (some 3) 100 9, .badParam), (.reachSet 0 5 (some 4) 100 9, .noSuchReach),
     (.reachSet 0 3 (some 2) 100 2, .badParam), (.reachSet 0 1 (some 0) 100 4, .badParam),
     (.reachSet 0 31 (some 2) 60000 48, .done), (.reachSet 0 0 none 99 0, .inUse),
     (.reachSet 0 0 none 100 0, .done), (.reachSet 0 1 (some 0) 300 1, .inUse),
     (.reachSet 0 1 (some 0) 300 2, .done), (.reachSet 1 32 none 0 0, .badParam),
     (.reachSet 1 31 none 0 0, .noSuchReach), (.reachSet 1 1 none 0 0, .inUse),
     (.reachSet 1 2 none 0 0, .done), (.reachSet 2 2 none 0 0, .badParam), (.reachQuery 31, .done),
     (.reachQuery 1, .done), (.reachQuery 32, .badParam)] = true := by decide +kernel

theorem test_point_requests : answers base
    [(.pointSet 1024 0 0 0 0 0 0 0, .badParam), (.pointSet 0 3 0 0 0 0 0 0, .badParam),
     (.pointSet 1023 1 32 5 1 0 0 0, .badParam), (.pointSet 1023 1 0 768 1 0 0 0, .badParam),
     (.pointSet 1023 1 0 5 0 0 0 0, .badParam), (.pointSet 1023 1 0 5 2001 0 0 0, .badParam),
     (.pointSet 1023 1 0 5 2000 2001 0 0, .badParam), (.pointSet 1023 1 0 5 2000 0 0 16, .badParam),
     (.pointSet 1023 1 31 5 2000 0 0 0, .noSuchReach), (.pointSet 1023 1 0 767 1 0 0 0, .noSuchAccount),
     (.pointSet 1023 1 0 7 1 0 0 0, .accountNotOpen), (.pointSet 1023 1 0 5 2000 2000 65535 15, .done),
     (.pointSet 3 2 0 0 0 0 0 0, .badParam), (.pointSet 3 2 0 0 60001 0 0 0, .badParam),
     (.pointSet 3 2 0 0 60000 1 0 0, .badParam), (.pointSet 3 2 0 0 60000 0 0 0, .inUse),
     (.pointSet 3 2 1 0 60000 0 0 0, .done), (.pointSet 3 0 0 0 0 0 0 0, .done),
     (.pointSet 0 0 0 0 0 0 0 0, .wrongState), (.pointSet 1 0 0 0 0 0 0 0, .inUse),
     (.pointSet 2 0 0 0 0 0 0 0, .done), (.pointSet 0 1 1 5 300 40 100 0, .wrongState),
     (.pointSet 1 1 0 5 300 0 100 0, .inUse), (.pointSet 0 1 0 5 99 40 100 0, .inUse),
     (.pointSet 0 1 0 5 100 50 100 0, .done), (.pointSet 2 2 1 0 500 0 0 0, .done),
     (.pointSet 8 2 0 0 10 0 0 0, .done), (.pointQuery 0, .done), (.pointQuery 1023, .done),
     (.pointQuery 1024, .badParam)] = true := by decide +kernel

theorem test_account_requests : answers base
    [(.accountSet 768 0 0, .badParam), (.accountSet 767 8 0, .badParam), (.accountSet 767 7 9, .done),
     (.accountSet 7 1 9, .done), (.accountSet 5 1 4294967295, .done), (.accountSuspend 768, .badParam),
     (.accountSuspend 767, .noSuchAccount), (.accountSuspend 7, .wrongState), (.accountSuspend 5, .done),
     (.accountSuspend 6, .done), (.accountResume 768, .badParam), (.accountResume 0, .noSuchAccount),
     (.accountResume 5, .wrongState), (.accountResume 8, .done), (.accountClose 768, .badParam),
     (.accountClose 0, .noSuchAccount), (.accountClose 7, .wrongState), (.accountClose 5, .inUse),
     (.accountClose 6, .inUse), (.accountClose 8, .done), (.accountQuery 5 1, .done),
     (.accountQuery 767 0, .done), (.accountQuery 5 2, .badParam), (.accountQuery 768 0, .badParam),
     (.nextAccountChanged, .done), (.statementQuery 5, .done), (.statementQuery 767, .done),
     (.statementQuery 768, .badParam), (.periodClose 3 0, .badParam), (.periodClose 0 768, .badParam),
     (.periodClose 0 767, .noSuchAccount), (.periodClose 0 5, .done), (.periodClose 1 8, .badParam),
     (.periodClose 1 7, .accepted), (.periodClose 2 0, .accepted), (.transfer 5 5 1, .badParam),
     (.transfer 5 6 0, .badParam), (.transfer 768 6 1, .badParam), (.transfer 5 767 1, .noSuchAccount),
     (.transfer 5 7 1, .accountNotOpen), (.transfer 6 5 100001, .allocationShort),
     (.transfer 6 5 100000, .done)] = true := by decide +kernel

theorem test_table_requests : answers base
    [(.tariffSet 8 1 2 3 0 0 0 0 0 0, .badParam), (.tariffSet 7 0 2 3 0 0 0 0 0 0, .badParam),
     (.tariffSet 7 1 2 30001 0 0 0 0 0 0, .badParam), (.tariffSet 7 2 2 3 0 0 0 0 0 0, .badParam),
     (.tariffSet 7 1 2 30000 9 9 9 9 9 9, .done), (.tariffQuery 7, .done), (.tariffQuery 8, .badParam),
     (.districtSet 255 65535 0 0 0, .done), (.districtQuery, .done), (.clockSet 0, .inUse),
     (.clockQuery, .done), (.capacityQuery 32 1000 1, .badParam), (.capacityQuery 31 1000 1, .noSuchReach),
     (.capacityQuery 1 1000 0, .badParam), (.capacityQuery 1 1000 8, .badParam),
     (.capacityQuery 1 999 1, .beyondHorizon), (.capacityQuery 1 1671 1, .done),
     (.capacityQuery 1 1665 7, .done), (.capacityQuery 1 1666 7, .beyondHorizon),
     (.supplySet 1100 0 1, .badParam), (.supplySet 1100 673 1, .badParam),
     (.supplySet 1100 1 60001, .badParam), (.supplySet 999 1 1, .beyondHorizon),
     (.supplySet 1671 2 1, .beyondHorizon), (.supplySet 1100 1 100, .done),
     (.supplySet 1100 2 99, .accepted)] = true := by decide +kernel

theorem test_order_requests : answers base
    [(.place 1024 1100 1 1 0 0 96, .badParam), (.place 0 1100 0 1 0 0 96, .badParam),
     (.place 0 1100 193 1 0 0 96, .badParam), (.place 0 1100 1 0 0 0 96, .badParam),
     (.place 0 1100 1 2001 0 0 96, .badParam), (.place 0 1100 1 301 0 0 96, .badParam),
     (.place 0 1100 1 1 3 0 96, .badParam), (.place 0 1100 1 1 1 0 96, .badParam),
     (.place 0 1100 1 1 1 97 96, .badParam), (.place 8 1100 1 1 0 0 96, .noSuchPoint),
     (.place 0 1008 1 1 0 0 96, .tooSoon), (.place 0 1671 2 1 0 0 96, .beyondHorizon),
     (.place 0 1101 2 1 0 0 96, .overlap), (.place 0 1102 2 1 0 0 96, .done),
     (.place 2 1014 2 200 0 0 96, .allocationShort), (.place 2 1016 1 61 0 0 96, .capacityShort),
     (.place 2 1016 1 61 1 1 96, .slid), (.place 2 1016 1 61 2 0 96, .queued),
     (.place 2 1014 2 50 0 0 96, .done), (.amend 9 none none, .noSuchOrder),
     (.amend 0 (some 0) none, .badParam), (.amend 0 none (some 1100), .badParam),
     (.amend 0 none (some 1293), .badParam), (.amend 3 (some 1) none, .wrongState),
     (.amend 1 (some 49) none, .wrongState), (.amend 1 none (some 1000), .tooSoon),
     (.amend 1 none (some 1001), .done), (.amend 0 none (some 1101), .done), (.amend 0 none none, .done),
     (.amend 0 (some 300) none, .done), (.amend 0 none (some 1105), .capacityShort),
     (.cancel 3 0 0, .badParam), (.cancel 0 9 0, .noSuchOrder), (.cancel 0 0 0, .done),
     (.cancel 0 1 0, .done), (.cancel 0 2 0, .done), (.cancel 0 3 0, .wrongState),
     (.cancel 1 1024 0, .badParam), (.cancel 1 0 2, .badParam), (.cancel 1 8 0, .noSuchPoint),
     (.cancel 1 0 1, .done), (.cancel 2 768 0, .badParam), (.cancel 2 0 0, .noSuchAccount),
     (.cancel 2 5 1, .done), (.retire 9, .noSuchOrder), (.retire 0, .wrongState), (.retire 3, .done),
     (.orderQuery 0, .done), (.orderQuery 2048, .noSuchOrder), (.nextChanged, .done),
     (.waitlistQuery 95, .done), (.waitlistQuery 96, .badParam)] = true := by decide +kernel

theorem test_standing_requests : answers base
    [(.standingSet 192 0 0 1 1 0 none, .badParam), (.standingSet 0 0 672 1 1 0 none, .badParam),
     (.standingSet 0 0 0 193 1 0 none, .badParam), (.standingSet 0 0 0 1 301 0 none, .badParam),
     (.standingSet 0 0 0 1 1 0 (some 0), .badParam), (.standingSet 0 0 0 1 1 0 (some 251), .badParam),
     (.standingSet 0 8 0 1 1 0 none, .noSuchPoint), (.standingSet 191 0 671 192 300 2 (some 250), .done),
     (.standingResume 192, .badParam), (.standingResume 4, .wrongState), (.standingResume 0, .wrongState),
     (.standingResume 5, .done), (.standingClear 192, .badParam), (.standingClear 4, .done),
     (.standingQuery 191, .done), (.standingQuery 192, .badParam)] = true := by decide +kernel

theorem test_control_requests : answers base
    [(.pointEnable 1024, .badParam), (.pointEnable 1023, .noSuchPoint), (.pointEnable 0, .wrongState),
     (.pointEnable 1, .done), (.pointDisable 1024 0, .badParam), (.pointDisable 0 2, .badParam),
     (.pointDisable 1023 1, .noSuchPoint), (.pointDisable 0 0, .done), (.pointDisable 0 1, .done),
     (.pointDisable 1 1, .done), (.localAck 1024, .badParam), (.localAck 1023, .noSuchPoint),
     (.localAck 0, .done), (.frostCall 2 0, .badParam), (.frostCall 1 32, .badParam),
     (.frostCall 1 31, .noSuchReach), (.frostCall 0 0, .done), (.frostCall 1 1, .done),
     (.frostEnd 2 0, .badParam), (.frostEnd 1 31, .noSuchReach), (.frostEnd 0 0, .done),
     (.fieldStart, .done), (.fieldStop, .done), (.resume, .wrongState), (.stationQuery 127, .done),
     (.stationQuery 128, .badParam), (.meterRebase 1024, .badParam), (.meterRebase 1023, .noSuchPoint),
     (.meterRebase 8, .wrongState), (.meterRebase 0, .done), (.meterQuery 0, .done),
     (.meterQuery 1024, .badParam)] = true := by decide +kernel

theorem test_sweep_and_fault_requests : answers base
    [(.curtail 3 0 0 0 0 0, .badParam), (.curtail 0 0 0 0 0 2, .badParam), (.curtail 0 0 0 0 9999 1, .accepted),
     (.curtail 1 7 0 0 10001 0, .accepted), (.curtail 1 8 0 0 0 0, .done), (.curtail 2 0 0 1024 0 0, .accepted),
     (.curtail 2 0 4 3 0 0, .done), (.curtail 2 0 2 4 0 0, .done), (.curtail 2 0 1024 1024 0 0, .accepted),
     (.curtail 2 0 0 2048 0 0, .done), (.seasonOpen, .inUse), (.sweepQuery, .done), (.errorQuery, .done),
     (.errorClear 3, .badParam), (.errorClear 2, .done), (.severitySet 13 0, .badParam),
     (.severitySet 12 255, .done), (.countSelect (some 13), .badParam), (.countSelect (some 12), .done),
     (.countSelect none, .done), (.attentionQuery, .done), (.attentionMask 1 0 1 0, .done)] = true := by
  decide +kernel

/-! ### The manual's worked cases, one step each -/

/-- The branch of reaches 0, 3 and 7 (section 2.3), nothing committed but by others in reach 0. -/
def branch : Calendar :=
  { clock := 15000
    reaches := [(0, { parent := none, capacity := 6000, lag := 0, check := none }),
                (3, { parent := some 0, capacity := 1800, lag := 6, check := some 400 }),
                (7, { parent := some 3, capacity := 1200, lag := 14, check := some 416 })]
    committed := (List.range 16).map (fun t => ((1020 + t) * 32, 4850))
    supply := (List.range 40).map (fun t => (1010 + t, 5000))
    heads := []
    defaultSupply := 5000 }

theorem test_order_x_is_reserved_and_order_y_is_not :
    (match branch.reserve 7 1040 1048 120 with
      | .pass c =>
        decide (c.committedIn 0 1026 = 4970 ∧ c.committedIn 0 1025 = 4850 ∧ c.committedIn 0 1034 = 4850 ∧
          c.committedIn 3 1032 = 120 ∧ c.committedIn 3 1031 = 0 ∧ c.committedIn 7 1047 = 120 ∧
          c.committedIn 7 1048 = 0) &&
        (match c.reserve 7 1044 1048 50 with
          | .short 0 1030 => true
          | _ => false)
      | _ => false) = true := by decide +kernel

/-- A district that is made for a sweep of one account: its points on reach 0, its orders and accounts. -/
def swept (kind : SweepKind) (scope : Scope) (share : Option Nat) (cursor : Nat) (s : State) : State :=
  { s with
    sweep.done := false
    sweep.status := some
      ({ kind := kind, requested := scope, actual := scope, share := share,
         drain := some .stopRunning, cursor := cursor, counts := .zero, state := .inProgress } : Sweep) }

/-- Accounts 310 and 311 of section 9.2 in the sweep that reaches the first of them. -/
def curtailed (n : Nat) : State :=
  swept .curtail .district (some 7500) n
    { base with
      points := [(602, turnout 0 310 200 0 .auto), (603, turnout 0 311 200 0 .auto)]
      obk := { OrderBook.powerOn with
        orders := [(1, { order 602 1100 10 100 6010 .confirmed with account := 310 }),
                   (2, { order 602 1200 12 100 6022 .confirmed with account := 310 }),
                   (3, { order 602 1300 10 80 6031 .confirmed with account := 310 }),
                   (4, { order 603 1050 4 40 6040 .confirmed with account := 311 }),
                   (5, { order 603 990 20 50 6041 .running with
                         account := 311, delivered := 450000 })]
        slot := 1000 }
      accounts := [(310, { account 12000000 with
                             transferNet := 500000, seasonOrdered := 7900000, reserved := 2700000
                             live := 3 }),
                   (311, { account 8000000 with
                             seasonOrdered := 5950000, reserved := 594000, live := 2 })] }

/-- What a test of a curtailment looks at: state, duration and ordered volume of an order. -/
def looks (t : State) (i : Nat) : Option (OrderState × Nat × Nat) :=
  (cell? t.obk.orders i).map (fun o => (o.state, o.duration, o.ordered))

theorem test_curtail_step_trims_account_310 :
    (let t := after .curtailStep (curtailed 310)
    decide (looks t 1 = some (.confirmed, 10, 900000) ∧ looks t 2 = some (.confirmed, 7, 630000) ∧
      looks t 3 = some (.cancelled, 10, 720000) ∧ t.obk.marks = [2, 3] ∧ t.obk.owed = true ∧
      (t.account? 310).map Account.reserved = some 1530000 ∧
      (t.account? 310).map Account.mark = some true ∧
      t.sweep.status.map Sweep.cursor = some 311 ∧
      t.sweep.status.map Sweep.counts = some { Counts.zero with
        changed := 1, cancelled := 1, shortened := 1 })) = true := by decide +kernel

theorem test_curtail_step_drains_account_311 :
    (let t := after .curtailStep (curtailed 311)
    decide (looks t 4 = some (.cancelled, 4, 144000) ∧ looks t 5 = some (.closing, 20, 495000) ∧
      (t.account? 311).map Account.reserved = some 45000 ∧
      (t.account? 311).map Account.reported = some .near ∧
      t.mail.notices = [{ point := 603, order := none }] ∧
      t.sweep.status.map Sweep.counts = some { Counts.zero with
        changed := 1, cancelled := 1, ended := 1 })) = true := by decide +kernel

/-- Orders J, K and M of section 9.3 over slots 1030 and 1031 of reach 0. -/
def bumped : State :=
  swept .supplyBump (.run 1030 2) none 1030
    { base with
      cal := { branch with
        clock := 15180
        committed := [(1028 * 32, 550), (1029 * 32, 550), (1030 * 32, 8400), (1031 * 32, 8100)]
        supply := [(1030, 8000), (1031, 8000)]
        reaches := [(0, { parent := none, capacity := 10000, lag := 0, check := none }),
                    (3, { parent := some 0, capacity := 1800, lag := 6, check := none }),
                    (7, { parent := some 3, capacity := 1200, lag := 14, check := none })]
        heads := [(1030, .bumpPending), (1031, .bumpPending)] }
      points := [(1, turnout 0 5 300 0 .auto), (2, turnout 3 5 300 0 .auto), (3, turnout 7 5 300 0 .auto)]
      obk := { OrderBook.powerOn with
        orders := [(1, { order 1 1028 4 300 5512 .confirmed with conflict := .refuse }),
                   (2, order 2 1034 8 250 5530 .confirmed),
                   (3, { order 3 1044 2 120 5547 .confirmed with conflict := .slide })]
        sequence := 5610
        slot := 1012 }
      accounts := [(5, { account 12000000 with reserved := 1080000 + 1800000 + 216000, live := 3 })] }

theorem test_supply_bump_step_at_1030 :
    (let t := after .supplyBumpStep bumped
    decide (t.cal.committedIn 0 1030 = 7730 ∧ t.cal.committedIn 0 1031 = 7430 ∧
      t.cal.headMark 1030 = .unmarked ∧ t.cal.headMark 1031 = .bumpPending ∧ t.obk.waiting = [2] ∧
      (cell? t.obk.orders 2).map Order.sequence = some 5611 ∧ t.obk.marks = [1, 2, 3] ∧
      (cell? t.obk.orders 1).map Order.closeReason = some (some .bumped) ∧
      t.sweep.status.map Sweep.counts = some { Counts.zero with bumped := 3, requeued := 1 })) = true := by
  decide +kernel

theorem test_supply_bump_step_at_1031 :
    (let t := after .supplyBumpStep (after .supplyBumpStep bumped)
    decide (t.cal.headMark 1031 = .unmarked ∧ t.sweep.status.map Sweep.cursor = some 1032)) = true := by
  decide +kernel

/-- Point 421 of section 7.2 with a reading outstanding at a minute. -/
def metered (minute totalizer : Nat) : State :=
  { base with
    cal.clock := minute
    points := [(421, { turnout 0 5 60 0 .auto with
      active := { mantissa := 41000, shift := 12 }
      meter := { state := .normal, baseline := 16777100, residual := 1000, lastMinute := 30000,
                 suspects := 0, seasonMetered := 0, seasonEstimated := 0 } })]
    mail.readings := [{ point := 421, totalizer := totalizer, fault := false }] }

theorem test_meter_reading_across_the_wrap :
    (let t := after (.meterReading 421 250 false) (metered 30002 250)
    decide ((t.point? 421).map Point.meter = some
        { state := .normal, baseline := 250, residual := 3352, lastMinute := 30002, suspects := 0,
          seasonMetered := 3663, seasonEstimated := 0 } ∧
      (t.account? 5).map Account.seasonUnordered = some 3663)) = true := by decide +kernel

/-- Account 203 of section 8.3 with its class. -/
def charged : State :=
  { base with
    obk.orders := [(0, { order 0 990 30 50 1 .running with account := 203 })]
    accounts := [(203, { account 12000000 with
      seasonOrdered := 9550000, residual := 37000, reserved := 1350000, live := 1 })]
    tariffs := [(2, { b1 := 8000, b2 := 10000, b3 := 12000, r0 := 1850, r1 := 2600, r2 := 4800,
                      r3 := 9000, unordered := 5000, frost := 1234 })] }

theorem test_posting_is_priced_in_tiers :
    (let t := charged.post 203 120000 false (.order 0 false) false
    decide ((t.account? 203).map (fun a => (a.centsOrdered, a.residual, a.seasonOrdered, a.reserved)) =
        some (2745, 37000, 9670000, 1230000) ∧
      (t.account? 203).map Account.reported = some .good)) = true := by decide +kernel

/-- The district of the worked frost call on reach 7 (section 5.5). -/
def frosty : State :=
  { base with
    cal := { branch with
      clock := 15600
      committed := [(1040 * 32 + 3, 900), (1040 * 32 + 7, 210)] }
    obk := OrderBook.powerOn
    accounts := []
    points :=
      [(400, { check with reach := 3, rated := 2000, target := 900 }),
       (416, { check with reach := 7, rated := 300, target := 210 }),
       (421, { turnout 7 5 300 60 .auto with scheduled := some { handle := 1, flow := 40 }, target := 40 }),
       (422, turnout 7 5 300 150 .auto),
       (423, { turnout 7 5 300 0 .auto with scheduled := some { handle := 2, flow := 50 }, target := 50 }),
       (424, turnout 7 5 300 100 .disabled),
       (425, { turnout 7 5 300 80 .auto with
         scheduled := some { handle := 3, flow := 120 }, target := 120 })] }

theorem test_frost_call_on_reach_7 :
    (let t := after (.frostCall 1 7) (asked (.frostCall 1 7) frosty)
    decide (t.port.response.map (fun r => r.reply.data) = some (be16 3 ++ be16 1) ∧
      [421, 422, 423, 424, 425, 416, 400].map t.targetOf = [60, 150, 50, 0, 120, 300, 1070] ∧
      [0, 3, 7].map t.extraLoad = [170, 170, 170] ∧
      t.mail.reports = [{ kind := .reachOverload, ref := .number 7 }])) = true := by decide +kernel

/-- Points 73 and 74 of section 6.6 with the SET of point 73 on the line, carrying 0 L/s. -/
def setting : State :=
  { base with
    points := [(73, { turnout 0 5 300 60 .auto with
                        target := 60, field.acknowledged := 80, field.inFlight := some 0 }),
               (74, { turnout 0 5 300 0 .auto with target := 150, field.sendPending := true })]
    line := { Line.powerOn with
      mode := .run
      transaction := some
        { job := .set 73 0 false, attempt := 2, lastAttempt := false, phase := .receiving 7,
          bitRate := 19200, timeout := 40 }
      stations := [(9, polled)] } }

theorem test_set_ack_ends_the_set_and_the_next_begins :
    (let t := after (.fieldReply (framed [9#8, 0xA1#8, 1#8, 0#8, 0#8])) setting
    decide ((t.point? 73).map (fun p => (p.field.acknowledged, p.field.inFlight, p.field.sendPending)) =
        some (0, some 60, false) ∧
      t.line.transaction.map Transaction.job = some (.set 73 60 false) ∧
      t.mail.applied = [{ point := 73, flow := 0 }])) = true := by decide +kernel

/-- A POLL of station 9 on FTX, bit by bit: the address is 0x09, and the four bytes take forty bit times. -/
theorem test_poll_on_the_line :
    let s : State := { setting with
      line.transaction := some
        ({ job := .poll 9, attempt := 1, lastAttempt := false, phase := .sending, bitRate := 19200,
           timeout := 40 } : Transaction) }
    s.transmitted.take 10 =
        [.start, .data true, .data false, .data false, .data true, .data false, .data false, .data false,
          .data false, .stop] ∧
      s.transmitted.length = 40 ∧ lineRead s.transmitted = s.outFrame ∧ setting.transmitted = [] := by
  decide +kernel

theorem test_crc_of_nine_digits :
    crc [0x31#8, 0x32#8, 0x33#8, 0x34#8, 0x35#8, 0x36#8, 0x37#8, 0x38#8, 0x39#8] = 0x29B1#16 := by
  decide +kernel

/-! ### Witnesses: a concrete state and operands for the hypotheses of every statement -/

/-- base with a sweep in progress. -/
def busy : State := swept .curtail .district (some 7500) 5 base
/-- base with no live order. -/
def quiet : State := { base with obk := OrderBook.powerOn }
/-- base with CLOCK_QUERY answered. -/
def answered : State := after .clockQuery (asked .clockQuery base)

/-- Hypotheses of CommandIsHandedOverBadOrDiscarded. -/
theorem test_witness_transactions :
    base.power = .on ∧ base.resetAsserted = false ∧ base.port.state = .idle ∧
      paramLength (0x01#8).toNat ≠ none ∧ paramLength (0xFF#8).toNat = none ∧
      answered.power = .on ∧ answered.resetAsserted = false ∧ answered.port.state ≠ .idle := by
  decide +kernel
/-- Hypotheses of StatusAndIgnoredTransactionsChangeNothing: each of the states of the supply and of RESET,
with CS high and within a STATUS. -/
theorem test_witness_status :
    let piece : Piece := { bytes := 1, bits := 0, ends := false }
    let left := fun s : State =>
      ((after (.status piece) s).port.shift, spiBytes (after (.status piece) s).port.miso)
    let early : State := { base with power := .initialising, resetAsserted := true }
    let held : State := { base with resetAsserted := true }
    left base = (.status, [0x80#8, 0x80#8]) ∧ left early = (.zeros, [0x03#8, 0#8]) ∧
      left held = (.silent, []) ∧ left { base with power := .off } = (.silent, []) ∧
      left (after (.status piece) early) = (.zeros, [0x03#8, 0#8, 0#8]) ∧
      left { after (.status piece) early with power := .on, resetAsserted := false } =
        (.zeros, [0x03#8, 0#8, 0#8]) ∧
      left { after (.status piece) held with resetAsserted := false } = (.silent, []) ∧
      left { after (.status piece) base with resetAsserted := true } =
        (.status, [0x80#8, 0x80#8]) := by decide +kernel
/-- A request that completes between two pieces of a STATUS shows in the later bytes (R193); CS cuts the last
byte after two bits. -/
theorem test_status_shows_the_port_as_it_stands :
    (let s := after (.status { bytes := 1, bits := 0, ends := false }) (asked .clockQuery base)
    (after (.status { bytes := 1, bits := 2, ends := true }) (after .clockQuery s)).port.miso) =
      spiBits [0x00#8, 0x00#8, 0x40#8] ++ [false, true] := by decide +kernel
/-- A transaction cut after three bits carries three bits of the status byte (R192). -/
theorem test_a_cut_first_byte :
    selectTransaction [true, true, false] = .ignoredTransaction { bytes := [], bits := 3 } ∧
      (after (selectTransaction [true, true, false]) base).port.miso = [true, false, false] := by
  decide +kernel
/-- Hypotheses of FetchReturnsOrKeepsTheResponse: a response of 15 bytes waits. -/
theorem test_witness_fetch :
    answered.port.state = .responseWaiting ∧
      answered.port.response.map (fun r => ([r.tag, r.code, 0#8, 0#8] ++ r.reply.data).length) = some 15 ∧
      14 < 15 ∧ base.port.state ≠ .responseWaiting := by decide +kernel
/-- The frame of a DISTRICT_SET with its ten operands at their highest is handed over and answered. -/
theorem test_command_is_handed_over_and_answered :
    (match requestBytes (.districtSet 255 65535 65535 65535 65535) with
      | some (code, ps) =>
        let s := after (selectTransaction (spiBits
          (0xC1#8 :: BitVec.ofNat 8 code :: 9#8 :: BitVec.ofNat 8 ps.length :: ps))) base
        decide (s.port.state = .executing) &&
          (after (.districtSet 255 65535 65535 65535 65535) s).port.response.isSome
      | none => false) = true := by decide +kernel
/-- Hypotheses of StatusByteShowsThePort. -/
theorem test_witness_status_byte :
    base.power = .on ∧ base.statusByte = 0x80#8 ∧ answered.statusByte = 0x40#8 ∧ busy.statusByte = 0x88#8 ∧
      ({ base with power := .initialising } : State).power = .initialising := by decide +kernel
/-- Hypotheses of RequestBytesParseBack: operands at the top of their fields, and absent ones. -/
theorem test_witness_request_bytes :
    WellFormed (.place 65535 4294967295 255 65535 255 255 1) = true ∧
      (requestBytes (.place 65535 4294967295 255 65535 255 255 1)).isSome = true ∧
      WellFormed (.amend 65535 none (some 4294967294)) = true ∧
      (requestBytes (.amend 65535 none (some 4294967294))).isSome = true := by decide +kernel
/-- Hypotheses of HandedRequestIsAnswered and RefusedRequestChangesNothing. -/
theorem test_witness_handed_requests :
    (asked (.reachQuery 32) base).handed (.reachQuery 32) = true ∧
      (asked (.reachQuery 32) base).port.response = none ∧
      (after (.reachQuery 32) (asked (.reachQuery 32) base)).port.response.map
        (fun r => r.reply.result.code) = some 17 ∧
      (requestBytes (.reachQuery 32)).isSome = true ∧ base.handed (.reachQuery 32) = false := by
  decide +kernel
/-- Hypotheses of MinuteEdgeAdvancesTheClock, clause by clause. -/
theorem test_witness_minute_edge :
    ({ base with power := .off } : State).power = .off ∧ base.power ≠ .off ∧
      (base.cal.clock + 1) % 15 ≠ 0 ∧
      (({ base with cal.clock := 15014 } : State).cal.clock + 1) % 15 = 0 ∧
      ({ base with cal.clock := 4294967294 } : State).cal.clock < 4294967295 ∧
      4294967295 ≤ ({ base with cal.clock := 4294967295 } : State).cal.clock := by decide +kernel
/-- Hypotheses of the clauses that need a sweep in progress, or no live order. -/
theorem test_witness_busy_and_quiet :
    answers busy
        [(.clockSet 0, .busySweep), (.supplySet 1100 1 60000, .busySweep), (.curtail 0 0 0 0 0 0, .busySweep),
         (.seasonOpen, .busySweep), (.periodClose 0 5, .busySweep), (.periodClose 1 7, .busySweep),
         (.periodClose 2 0, .busySweep), (.accountSet 5 2 4294967295, .done), (.sweepQuery, .done)] = true ∧
      answers quiet
        [(.seasonOpen, .accepted), (.clockSet 4294967295, .done), (.supplySet 1671 1 60000, .done)] =
          true ∧
      busy.sweeping = true ∧ quiet.sweeping = false := by decide +kernel
/-- A raised supply: the clause of SupplySetWritesTheRun that re-examines. -/
theorem test_supply_set_raises_the_head : answers base [(.supplySet 1100 1 10000, .done)] = true := by
  decide +kernel

theorem test_witness_tree : treeSound base.cal.reaches := by
  intro r v h
  have hm := mem_of_cell? h
  simp only [base, List.mem_cons, List.not_mem_nil, Prod.mk.injEq, or_false] at hm
  rcases hm with ⟨rfl, rfl⟩ | ⟨rfl, rfl⟩ | ⟨rfl, rfl⟩ <;> simp
/-- Hypotheses of ReserveAddsAndReleaseSubtractsTheWindow: past the horizon, a full slot, room, a floor. -/
theorem test_witness_reserve :
    1672 - 672 = base.cal.slot ∧ base.cal.slot + 672 < 1673 ∧
      pathOf base.cal.reaches 1 = [0, 1] ∧ lagOf base.cal.reaches 1 - lagOf base.cal.reaches 0 = 2 ∧
      base.cal.capacityIn 0 1014 < base.cal.committedIn 0 1014 + 61 ∧
      ¬base.cal.capacityIn 0 1013 < base.cal.committedIn 0 1013 + 61 ∧
      (base.cal.release 0 1100 1102 100 1101).committedIn 0 1100 = 100 ∧
      (base.cal.release 0 1100 1102 100 1101).committedIn 0 1101 = 0 := by decide +kernel
/-- EXCHANGE in ReserveAddsAndReleaseSubtractsTheWindow: past the horizon, one litre too much, and two that pass
with the order's own flow not counted. -/
theorem test_witness_exchange :
    let left := fun a b f => match base.cal.exchange 0 1100 1102 100 a b f with
      | .pass c => some ([1099, 1100, 1101, 1102].map (c.committedIn 0))
      | .short _ _ => none
      | .beyond => none
    left 1100 1102 9000 = some [0, 9000, 9000, 0] ∧ left 1101 1103 50 = some [0, 0, 50, 50] ∧
      (match base.cal.exchange 0 1100 1102 100 1100 1102 9001 with
        | .short 0 1100 => true
        | _ => false) = true ∧
      (match base.cal.exchange 0 1100 1102 100 1100 1673 1 with | .beyond => true | _ => false) = true := by
  decide +kernel
/-- EXCHANGE over two over-committed slots: a lower flow and an earlier end pass; an end as it stood, a raised
flow and a slot that is added are tested (R31, R36). -/
theorem test_exchange_over_an_overfull_head :
    let cut : Calendar := { base.cal with supply := [] }
    let left : Nat → Nat → Except (Nat × Nat) (List Nat) := fun b f =>
      match cut.exchange 0 1100 1102 100 1100 b f with
      | .pass c => .ok ([1100, 1101, 1102].map (c.committedIn 0))
      | .short j t => .error (j, t)
      | .beyond => .error (0, 0)
    left 1102 60 = .ok [60, 60, 0] ∧ left 1101 100 = .ok [100, 0, 0] ∧ left 1101 60 = .ok [60, 0, 0] ∧
      left 1103 100 = .error (0, 1100) ∧ left 1103 60 = .error (0, 1102) ∧
      left 1101 101 = .error (0, 1100) := by decide +kernel
/-- The check targets in ReserveAddsAndReleaseSubtractsTheWindow: the committed flow of the current slot
changes, and that of a later slot. -/
theorem test_witness_ring_told :
    let ring := fun t f : Nat => base.withRing { base.cal with committed := [(t * 32, f)] }
    (ring 1000 9001).point? 8 ≠ base.point? 8 ∧ (ring 1000 9001).targetOf 8 = 9000 ∧
      (ring 1000 9001).mail.reports = [{ kind := .reachOverload, ref := .number 0 }] ∧
      (ring 1000 8999).targetOf 8 = 8999 ∧ (ring 1000 8999).mail.reports = [] ∧
      (ring 1001 9001).point? 8 = base.point? 8 := by decide +kernel
/-- The chains of CancelEndsOrders. -/
theorem test_chains_by_start :
    (base.obk.accountChain 5).map (fun e => e.1) = [3, 4, 1, 0, 2] ∧
      (base.obk.pointChain 1).map (fun e => e.1) = [4, 2] := by decide +kernel
/-- Hypotheses of ReachSetChecksThenWrites beside the requests above. -/
theorem test_witness_committed_keys : risingKeys base.cal.committed = true := by decide +kernel
/-- Hypotheses of PointSetCreatesOrUpdates: a new point, a turnout that stays, a check that stays. -/
theorem test_witness_point_updates :
    (asked (.pointSet 1023 1 0 5 2000 2000 65535 15) base).handed
        (.pointSet 1023 1 0 5 2000 2000 65535 15) = true ∧
      badPointRange 1023 1 0 5 2000 2000 65535 15 = false ∧
      base.pointRefused 1023 .turnout 0 (some 5) 2000 = none ∧ base.point? 1023 = none ∧
      badPointRange 0 1 0 5 100 50 100 0 = false ∧ base.pointRefused 0 .turnout 0 (some 5) 100 = none ∧
      badPointRange 8 2 0 0 60000 0 0 0 = false ∧ base.pointRefused 8 .check 0 none 60000 = none := by
  decide +kernel
/-- Hypotheses of PlaceAdmitsOrQueuesTheOrder: the requests of point 2 for slots 1014 and 1016. -/
theorem test_witness_place :
    (asked (.place 2 1014 2 50 0 0 96) base).handed (.place 2 1014 2 50 0 0 96) = true ∧
      base.obk.search = none ∧ (base.point? 2).map Point.kind = some .turnout ∧
      (base.account? 6).map Account.state = some .opened ∧ (base.account? 6).map Account.live = some 0 ∧
      cell? base.obk.orders 5 = none ∧ lagOf base.cal.reaches 1 + 1000 + 1 + 8 ≤ 1014 ∧
      (∀ e ∈ base.obk.orders, e.2.point ≠ 2) ∧
      (match base.cal.reserve 1 1014 1016 50 with | .pass _ => true | _ => false) = true ∧
      (match base.cal.reserve 1 1016 1017 61 with | .short 0 1014 => true | _ => false) = true := by
  decide +kernel
/-- Hypotheses of PlaceSlidesToALaterStart: a first event that slides, one that goes on, a later one, and one
whose tries boundaries have overtaken. -/
theorem test_witness_slide :
    let c := Instr.place 2 1016 1 61 1 96 0
    let s := after c (asked c base)
    s.obk.search = some { next := 1, failure := shortReply 0 1014 } ∧ s.port.state = .executing ∧
      (after (.place 2 1016 1 61 1 96 1) s).port.response.map (fun r => r.reply.result) = some .slid ∧
      (after (.place 2 1016 1 61 1 96 9) { s with obk.slot := 1020 }).obk.search =
        some { next := 10, failure := shortReply 0 1014 } ∧
      base.affords 6 54900 = true := by decide +kernel
/-- Hypotheses of AmendChecksThenRewrites, CancelEndsOrders and RetireFreesAndNextChangedReports beside the
requests above. -/
theorem test_witness_orders :
    base.obk.named? 0 = some (0, order 0 1100 2 100 1 .confirmed) ∧
      base.obk.named? 3 = some (3, order 1 900 2 50 4 .closed) ∧
      base.amendBadParam (order 0 1100 2 100 1 .confirmed) none (some 1101) = false ∧
      base.obk.overlapping 0 1100 1103 (some 0) = none ∧ base.obk.marks = [3] ∧
      ([1, 3].Pairwise (· < ·) ∧ ∀ j ∈ [1, 3], 1 ≤ j) ∧
      answers { base with accounts := [(5, { account 0 with state := .suspended })] }
        [(.amend 0 none none, .accountNotOpen), (.place 0 1100 1 1 0 0 96, .accountNotOpen),
         (.standingSet 0 0 0 1 1 0 none, .accountNotOpen)] = true ∧
      answers quiet [(.nextChanged, .nothing), (.cancel 1 0 0, .done)] = true := by decide +kernel
/-- Hypotheses of FirstOccurrenceIsTheEarliestBeyondTheHorizon at the top of its ranges. -/
theorem test_witness_occurrence :
    671 < 672 ∧ firstOccurrence 1000 671 192 = 2015 ∧ firstOccurrence 1000 500 4 = 1844 := by
  decide +kernel
/-- Hypotheses of FiringUpdatesTheTemplate: one firing admitted, one refused. -/
theorem test_witness_firing :
    (match base.placeFirst
        { point := 2, start := 1014, duration := 2, flow := 50, conflict := .refuse, limit := 96,
          origin := .standing 0 } 96 with
      | (s, .created .done h) => decide ((s.obk.named? h).isSome = true)
      | _ => false) = true ∧
      (match base.placeFirst
        { point := 0, start := 1844, duration := 4, flow := 20, conflict := .refuse, limit := 96,
          origin := .standing 4 } 96 with
      | (_, .refused a) => decide (a.result = .beyondHorizon)
      | _ => false) = true := by decide +kernel
/-- Hypotheses of ReexaminationTestsEveryEntry: an entry too late, one that stays, one that passes. -/
theorem test_witness_reexamination :
    base.obk.named? 2 = some (2, order 1 1200 2 50 3 .pendingWait) ∧ (base.point? 1).isSome = true ∧
      (match base.tryWindow 1 1 5 1200 2 50 (some 2) with | .error _ => true | .ok _ => false) = true ∧
      (match base.tryWindow 1 1 5 1014 2 50 (some 2) with | .ok _ => true | .error _ => false) = true ∧
      (let s := { base with obk.slot := 1190 }
      (s.point? 1).map (fun p => decide (1200 < lagOf s.cal.reaches p.reach + 1190 + 1 + 8)) =
        some true) := by decide +kernel
/-- Hypotheses of OrderBookBoundaryRunsTheSixSteps: slots at which orders end, start and close. -/
theorem test_witness_boundary :
    risingKeys base.obk.orders = true ∧ ({ base with mail.orderBook := [1020] } : State).mail.orderBook ≠ [] ∧
      base.mail.orderBook = [] ∧
      (looks (base.endStep 1020) 1, looks (base.startStep 1100) 0, looks (base.closeStep 991).1 4) =
        (some (.closing, 30, 1350000), some (.running, 2, 180000), some (.closed, 30, 1350000)) ∧
      risingKeys base.accounts = true ∧
      ((base.closeStep 991).1.account? 5).map (fun a => (a.reserved, a.live)) = some (1530000, 3) ∧
      changedPoints 1020 base.obk.orders = [0] := by decide +kernel
/-- Hypotheses of NoticeSetsTheScheduledOrder. -/
theorem test_witness_notice :
    (let s := after (.scheduledOrderNotice 0) { base with mail.notices := [{ point := 0, order := none }] }
    s.targetOf 0 = 0 ∧ s.mail.notices = []) ∧ base.mail.notices = [] ∧
      (base.point? 0).map Point.kind = some .turnout ∧ (base.point? 8).map Point.kind = some .check := by
  decide +kernel
/-- Hypotheses of ClockBoundaryAndModeSetTheTargets at the boundary: a check point, limited and not. -/
theorem test_witness_check :
    base.point? 8 = some check ∧ check.rated = 9000 ∧ ¬9000 < 0 + 9000 ∧ 9000 < 0 + 9001 ∧
      base.mail.release = [] ∧
      (let s := after .releaseControlBoundary
        { base with mail.release := [1000], frostLoad := [(0, 9001)] }
      s.targetOf 8 = 9000 ∧ s.mail.reports = [{ kind := .reachOverload, ref := .number 0 }]) := by
  decide +kernel
/-- Hypotheses of ClockBoundaryAndModeSetTheTargets at CLOCK_SET and at a change of mode, and of
FrostCallAndEndMoveTheTurnouts. -/
theorem test_witness_mode_change :
    (base.point? 0).isSome = true ∧ risingKeys base.points = true ∧ risingKeys base.obk.orders = true ∧
      (asked (.clockSet 9) quiet).handed (.clockSet 9) = true ∧ risingKeys quiet.points = true ∧
      (base.obk.dueOrder 0).map (fun e => e.1) = some 1 ∧ base.obk.dueOrder 1 = none ∧
      ((cell? (base.changeMode 0 .localHold).obk.orders 1).map Order.state = some .suspended) := by
  decide +kernel
/-- Hypotheses of EnableDisableAndAckActOnThePoint that base does not meet: a point in LOCAL. -/
theorem test_witness_local_point :
    answers { base with points := [(0, { turnout 0 5 300 40 .localHold with switch := .manual })] }
      [(.pointEnable 0, .wrongState), (.localAck 0, .wrongState), (.pointDisable 0 0, .done)] = true := by
  decide +kernel
/-- Hypotheses of GateAndAppliedReportsReachThePoint. -/
theorem test_witness_gate :
    (let g : GateNews := { point := 0, switch := .manual, position := 255, fault := true }
    let s := after (.gateReport 0 .manual 255 true) { base with mail.gates := [g] }
    (s.point? 0).map (fun p => (p.mode, p.latch, p.position, p.gateFault)) =
        some (.localHold, true, 100, true) ∧ s.mail.reports.length = 2 ∧ g ∉ base.mail.gates) ∧
      (let s := after (.appliedSetpointReport 1 0)
        { base with
          mail.applied := [{ point := 1, flow := 0 }]
          points := [(1, { turnout 1 5 300 0 .disabled with closeOwed := true })] }
      (s.point? 1).map Point.closeOwed = some false) := by decide +kernel
/-- Hypotheses of FieldModeFollowsItsCommands in RUN and HOLD, with a SET or a POLL in flight. -/
theorem test_witness_field_modes :
    answers setting [(.fieldStart, .wrongState), (.fieldStop, .done), (.resume, .wrongState)] = true ∧
      answers { setting with line.mode := .hold } [(.resume, .done)] = true ∧
      answers
        { base with
          line.mode := .hold
          faults.stop.first := some ({ kind := .gateFault, ref := .number 0, minute := 0 } : ErrorRecord) }
        [(.resume, .wrongState)] = true ∧
      (after .holdRequest { setting with mail.holds := 1 }).line.mode = .hold ∧
      setting.mail.holds = 0 := by decide +kernel
/-- Hypotheses of ArbitrationChoosesSetThenPoll: a point ready, a station due, nothing to begin. -/
theorem test_witness_arbitration :
    risingKeys setting.points = true ∧ risingKeys setting.line.stations = true ∧
      ({ setting with line.transaction := none } : State).arbitrate.line.transaction.map
        Transaction.job = some (.set 74 150 false) ∧
      ({ base with line.mode := .hold, line.stations := [(127, { polled with due := true })] } :
        State).arbitrate.line.transaction.map Transaction.job = some (.poll 127) ∧
      ({ base with line.mode := .run } : State).arbitrate.line.transaction = none := by decide +kernel
/-- Hypotheses of SendPendingFollowsTheTarget. -/
theorem test_witness_send_pending :
    (base.point? 0).map Point.sendable = some true ∧ (base.point? 1).map Point.sendable = some false ∧
      base.line.settingPoint 0 = false ∧ setting.line.settingPoint 73 = true ∧
      (setting.point? 73).isSome = true := by decide +kernel
/-- setting with a transaction in some phase of some attempt. -/
def attempting (j : Job) (attempt : Nat) (phase : Phase) : State :=
  { setting with
    line.transaction := some
      ({ job := j, attempt := attempt, lastAttempt := false, phase := phase, bitRate := 19200,
         timeout := 40 } : Transaction) }
/-- Hypotheses of AttemptsRunToTheirDeadlines: each phase, a final attempt, one with an unknown kind byte, a
station at its third failure. -/
theorem test_witness_attempts :
    (after (.pollIntervalElapsed 0) base).line.stations.map (fun e => e.2.due) = [true, false] ∧
      (base.station 127).polled = false ∧
      (after .outFrameSent (attempting (.poll 9) 3 .sending)).line.transaction.map Transaction.phase = some .waiting ∧
      (after (.replyKindByte 9#8 0x77#8) (attempting (.poll 9) 2 .waiting)).mail.reports = [{ kind := .frameError, ref := .number 9 }] ∧
      (attempting (.poll 9) 3 .waiting).line.transaction.map (fun t => (t.attempt, t.phase)) = some (3, .waiting) ∧
      (after .attemptDeadline setting).line.transaction.map Transaction.attempt = some 3 ∧
      (after .attemptDeadline { attempting (.set 73 0 false) 3 .waiting with
        line.stations := [(9, { polled with failures := 2 })] }).line.stations.map
          (fun e => (e.2.state, e.2.silentSince)) = [(.silent, some 1000)] := by decide +kernel
/-- Hypotheses of FieldReplyEndsTheTransaction: a POLL_REPLY, a SET_LOCAL, a bad reply, an unknown kind. -/
theorem test_witness_replies :
    (let poll := attempting (.poll 9) 1 .waiting
    let t := after (.fieldReply (framed ([9#8, 0x90#8] ++ List.replicate 40 0#8))) poll
    t.mail.gates.map GateNews.point = [73, 74] ∧ t.mail.readings.map Reading.point = [73, 74] ∧
      (after (.fieldReply [9#8, 0x90#8]) poll).line.transaction.map Transaction.phase = some .waiting) ∧
      ((after (.fieldReply (framed [9#8, 0xA2#8, 1#8]))
        (attempting (.set 73 0 false) 1 .waiting)).point? 73).map Point.mode = some .localHold ∧
      (after (.fieldReply [9#8, 0x21#8]) (attempting (.poll 9) 1 .waiting)).line.transaction.map
        Transaction.phase = some (.failed 0) ∧
      (after (.fieldReply (framed [9#8, 0xA1#8, 2#8, 0#8, 0#8])) setting).line.transaction.map
        Transaction.phase = some (.failed 7) := by decide +kernel
/-- Hypotheses of MeterReadingFollowsTheMeterState beside the worked case: a held reading. -/
theorem test_witness_readings :
    (let s := after (.meterReading 421 1600 false)
      { metered 30003 1600 with
        mail.readings := [{ point := 421, totalizer := 1600, fault := false }] }
    (s.point? 421).map (fun p => p.meter.state) = some .suspect ∧
      s.mail.reports = [{ kind := .meterImplausible, ref := .number 421 }]) ∧
      ({ point := 421, totalizer := 250, fault := false } : Reading) ∉ base.mail.readings := by
  decide +kernel
/-- Hypotheses of IncrementsAreAttributed: due, closing and no order, and a backup whose order lives. -/
theorem test_witness_attribution :
    (base.obk.dueOrder 0).isSome = true ∧ base.obk.dueOrder 1 = none ∧
      (base.obk.closingOrder 1).map (fun e => e.1) = some 4 ∧ base.obk.dueOrder 2 = none ∧
      base.obk.closingOrder 2 = none ∧ (base.obk.slotOrder 0 1000).isSome = true ∧
      base.obk.slotOrder 2 1000 = none ∧ (base.obk.named? 1).map (fun e => e.2.live) = some true := by
  decide +kernel
/-- An estimate's split for an order that was cut at the slot carries the tail flag (R136). -/
theorem test_cut_slot_order_takes_tail :
    let cut : Order := { order 0 999 4 60 1 .closing with cut := some 1000, closeReason := some .endedEarly }
    let p : Point := { turnout 0 5 300 120 .auto with backup := some { order := none, flow := 0 } }
    let s : State := { base with obk := { base.obk with orders := [(0, cut)] } }
    (s.obk.slotOrder 0 1000).map (fun e => e.2.cut) = some (some 1000) ∧
      s.estimatedPlaces 0 p 1000 900 = [(450, .order 0 true), (450, .frost)] := by decide +kernel
/-- An estimate's split is the same before and after the boundary that ends its slot order (R138). -/
theorem test_estimate_split_does_not_see_the_boundary :
    let p : Point := { turnout 0 5 300 120 .auto with backup := some { order := none, flow := 0 } }
    let s : OrderState → State := fun st =>
      { base with obk := { base.obk with orders := [(0, order 0 999 2 60 1 st)] } }
    ([OrderState.running, .suspended, .closing].map fun st => (s st).estimatedPlaces 0 p 1000 900) =
      List.replicate 3 [(450, .order 0 false), (450, .frost)] := by decide +kernel
/-- A point that was not sendable keeps its field side at a change of mode (R91). -/
theorem test_mode_change_outside_auto_keeps_the_field_side :
    let p : Point := { turnout 0 5 300 40 .localHold with field.resendOwed := true }
    let s : State := { base with points := [(0, p)] }
    ((s.changeMode 0 .disabled).point? 0).map (fun q => (q.mode, q.field.resendOwed)) =
      some (.disabled, true) := by decide +kernel
/-- Hypotheses of PostingChargesTheAccount for its three places. -/
theorem test_witness_posting :
    (charged.account? 203).isSome = true ∧
      (cell? charged.obk.orders 0).map (fun o => (o.account, o.live, o.ordered - o.delivered)) =
        some (203, true, 1350000) ∧
      (charged.account? 203).map Account.reserved = some 1350000 ∧
      ((charged.post 203 30000 false .unordered false).account? 203).map Account.centsUnordered =
        some 1500 ∧
      ((charged.post 203 40000 false .frost false).account? 203).map Account.centsFrost = some 493 := by
  decide +kernel
/-- Hypotheses of RebaseAndBoundaryActOnTheMeters: a silent station, a failed meter. -/
theorem test_witness_meter_boundary :
    (let s := after .meterBoundary
      { base with
        line.mode := .run
        mail.meter := [1002]
        line.stations := [(0, { polled with state := .silent, failures := 3, silentSince := some 1000 })]
        points := [(0, { turnout 0 5 300 40 .auto with field.acknowledged := 50 })] }
    (s.point? 0).map (fun p => (p.meter.state, p.meter.seasonEstimated)) = some (.failed, 45000) ∧
      (cell? s.obk.orders 1).map Order.estimated = some 45000) ∧ base.mail.meter = [] := by decide +kernel
/-- Hypotheses of CurtailStepTrimsThenDrains, SupplyBumpStepBumpsTheNewestOrders and
CloseAndSeasonStepsAndTheSweepEnd beside the worked cases: accounts passed over, steps, an end. -/
theorem test_witness_sweep_steps :
    base.sweep.status = none ∧
      (after .curtailStep (swept .curtail (.cls 3) (some 0) 5 base)).sweep.status.map
        (fun w => (w.cursor, w.counts.changed)) = some (6, 0) ∧
      (after .supplyBumpStep (swept .supplyBump (.run 999 1) none 999 base)).sweep.status.map
        Sweep.cursor = some 1000 ∧
      ((after .periodCloseStep (swept .periodClose (.cls 2) none 5 base)).account? 5).map
        (fun a => (a.period, a.mark)) = some (1, true) ∧
      (after .periodCloseStep (swept .periodClose (.cls 3) none 5 base)).accounts = base.accounts ∧
      ((after .seasonOpenStep (swept .seasonOpen .district none 6
        { base with accounts := [(6, { account 1 with seasonOrdered := 9 })] })).account? 6).map
          (fun a => (a.seasonOrdered, a.period, a.mark)) = some (0, 1, true) ∧
      (after .seasonOpenStep (swept .seasonOpen .district none 767 base)).sweep.status.map
        Sweep.cursor = some 768 ∧
      (after .sweepEnd (swept .seasonOpen .district none 768 base)).sweep.done = true ∧
      after .sweepEnd (swept .seasonOpen .district none 767 base) =
        swept .seasonOpen .district none 767 base ∧
      (after .sweepBoundary { swept .supplyBump (.run 999 4) none 999 base with
        mail.sweep := [1000] }).sweep.status.map Sweep.cursor = some 1000 := by decide +kernel
/-- A bump whose slots have all passed before SWEEP_END still has its cursor moved (R174). -/
theorem test_boundary_moves_the_cursor_of_a_bump_that_is_over :
    (after .sweepBoundary { swept .supplyBump (.run 990 4) none 994 base with
      mail.sweep := [1000] }).sweep.status.map Sweep.cursor = some 1000 := by decide +kernel
/-- Hypotheses of ErrorReportFillsTheFirstRecord at each severity, of FaultRequestsReadAndWriteTheirRecords and of
SeveritySetWritesTheMap. -/
theorem test_witness_reports :
    (let x : Report := { kind := .gateFault, ref := .number 3 }
    let s : State := { base with mail.reports := [x, x], faults.selected := some 3 }
    let t := after (.errorReport .gateFault (.number 3)) s
    let u := after (.errorReport .gateFault (.number 3)) t
    t.faults.attend.first = some { kind := .gateFault, ref := .number 3, minute := 15000 } ∧
      t.faults.counter = 1 ∧ u.faults.attend.next = [3] ∧ u.mail.reports = [] ∧
      (after (.errorReport .gateFault (.number 3))
        { s with faults.severities := [2, 2, 2, 2] }).mail.holds = 1) ∧
      severitiesSound base.faults.severities := by
  refine ⟨by decide +kernel, by decide, by decide⟩
/-- Hypotheses of WarmResetActsOnPortLineAndSweep: a waiting answer that names an order, an orphan, a
sweep in progress. -/
theorem test_witness_warm_reset :
    (let s := asked (.cancel 0 0 0) setting
    let t := after .resetAsserted s
    t.port.orphan = true ∧ t.port.executing? = some (.cancel 0 0 0) ∧ t.line.mode = .stopped ∧
      (t.point? 73).map (fun p => (p.field.inFlight, p.field.sendPending)) = some (none, true) ∧
      (after .orphanCompletion t).port.state = .idle ∧
      (after .orphanCompletion t).obk.marks = [0, 3]) ∧
      (after .resetAsserted (after (.cancel 0 0 0) (asked (.cancel 0 0 0) base))).obk.marks = [0, 3] ∧
      (after .softReset (asked .softReset busy)).sweep.status.map Sweep.state = some .aborted ∧
      (asked .softReset busy).handed .softReset = true ∧ risingKeys busy.points = true := by decide +kernel
/-- Hypotheses of StepKeepsTheRecordsSound: base is sound. -/
theorem test_witness_sound : base.sound := by
  refine ⟨⟨by decide, by decide, by decide⟩, ?_, ?_, ?_, ⟨by decide, by decide⟩, test_witness_tree,
    by decide, by decide, by decide⟩ <;> exact fun _ => rfl
/-- Hypotheses of StepKeepsTransferNetsBalanced: a district after a TRANSFER. -/
theorem test_witness_balanced : (after (.transfer 6 5 9) (asked (.transfer 6 5 9) base)).balanced := by
  refine ⟨by decide +kernel, by decide +kernel⟩
/-- Hypotheses of StepKeepsTheBookedFigures: base is booked. -/
theorem test_witness_booked : base.booked := by
  refine ⟨by decide, by decide, by decide +kernel, ?_⟩
  have h : ∀ e ∈ base.accounts,
      e.2.reserved = ((base.ordersOf e.1).map Order.share).sum ∧
        e.2.live = ((base.ordersOf e.1).map Order.liveCount).sum := by decide +kernel
  exact fun n a ha => h (n, a) (mem_of_cell? ha)

/-- A district of one reach, one turnout in frost and one confirmed order. -/
def tiny : State :=
  { State.reset with
    cal :=
      { clock := 15000, reaches := [(0, { parent := none, capacity := 100, lag := 0, check := none })]
        committed := [(1010 * 32, 50)], supply := [(1010, 100)], heads := [], defaultSupply := 0 }
    obk :=
      { OrderBook.powerOn with
        orders := [(0, order 0 1010 1 50 1 .confirmed)], sequence := 1, slot := 1000 }
    points := [(0, { turnout 0 5 300 60 .auto with backup := some { order := none, flow := 40 } })]
    frostLoad := [(0, 20)] }
theorem tiny_rooted : tiny.rooted := by
  refine ⟨fun r v p h hp => ?_, fun n p h => ?_⟩
  · have hm := mem_of_cell? h
    simp only [tiny, List.mem_cons, List.not_mem_nil, Prod.mk.injEq, or_false] at hm
    simp [hm.2] at hp
  · have hm := mem_of_cell? h
    simp only [tiny, List.mem_cons, List.not_mem_nil, Prod.mk.injEq, or_false] at hm
    rw [hm.2]
    decide
/-- Hypotheses of StepKeepsTheWaitingListAndTheFrostLoads: base's waiting list holds its one waiting order. -/
theorem test_witness_queued : base.queued := by
  have h : ∀ e ∈ base.obk.orders, e.1 < 2048 ∧ e.2.sequence ≤ base.obk.sequence := by decide
  have hw : ∀ e ∈ base.obk.orders, e.2.state = .pendingWait → e.1 = 2 := by decide
  refine ⟨by decide, fun i o hi => h (i, o) (mem_of_cell? hi), fun k => ⟨fun hk => ?_, ?_⟩, by decide,
    by decide⟩
  · have : k = 2 := by simpa [base] using hk
    exact ⟨2, order 1 1200 2 50 3 .pendingWait, rfl, rfl, this⟩
  · rintro ⟨i, o, hi, ho, rfl⟩
    have : i = 2 := hw (i, o) (mem_of_cell? hi) ho
    subst this
    decide
/-- Hypotheses of StepKeepsTheWaitingListAndTheFrostLoads: the load of tiny's reach is 20 L/s. -/
theorem test_witness_frost_kept : tiny.frostKept := by
  refine ⟨by decide, tiny_rooted, fun r => ?_⟩
  rcases Nat.eq_zero_or_pos r with rfl | hr
  · decide
  · have h0 : r ≠ 0 := by omega
    simp [State.extraLoad, State.frostOwed, valueAt, tiny, cell?, turnout, pathOf, pathUp, Config.reaches, h0,
      Ne.symm h0]
/-- Hypotheses of StepKeepsTheCapacityRing: tiny's order holds 50 L/s in slot 1010 of reach 0. -/
theorem test_witness_ring_kept : tiny.ringKept ∧ tiny.queued := by
  refine ⟨?_, by decide, fun i o h => ?_, fun k => ⟨nofun, ?_⟩, by decide, by decide⟩
  rotate_left
  · have hm := mem_of_cell? h
    simp only [tiny, List.mem_cons, List.not_mem_nil, Prod.mk.injEq, or_false] at hm
    rw [hm.1, hm.2]
    decide
  · rintro ⟨i, o, hi, ho, -⟩
    have hm := mem_of_cell? hi
    simp only [tiny, List.mem_cons, List.not_mem_nil, Prod.mk.injEq, or_false] at hm
    rw [hm.2] at ho
    cases ho
  refine ⟨fun r v h => ?_, by decide, by decide, tiny_rooted, fun i o h _ => ?_, by decide, by decide,
    fun j t hj _ _ => ?_⟩
  · have hm := mem_of_cell? h
    simp only [tiny, List.mem_cons, List.not_mem_nil, Prod.mk.injEq, or_false] at hm
    simp [hm.1, hm.2]
  · have hm := mem_of_cell? h
    simp only [tiny, List.mem_cons, List.not_mem_nil, Prod.mk.injEq, or_false] at hm
    rw [hm.2]
    decide
  · have hc : tiny.cal.committedIn j t = if j = 0 ∧ t = 1010 then 50 else 0 := by
      simp only [Calendar.committedIn, valueAt, tiny, cell?, ringKey, Config.reaches]
      split <;> split <;> first | rfl | omega
    have hf : tiny.flowHeld j t = if j = 0 ∧ t = 1010 then 50 else 0 := by
      by_cases h : j = 0 ∧ t = 1010
      · obtain ⟨rfl, rfl⟩ := h
        decide
      · have hn : tiny.holds (order 0 1010 1 50 1 .confirmed) j t = false := by
          simp [State.holds, order, tiny, turnout, State.reachOf, State.point?, lagOf, pathOf, pathUp, cell?,
            Config.reaches]
          omega
        have ho : tiny.obk.orders = [(0, order 0 1010 1 50 1 .confirmed)] := rfl
        simp [State.flowHeld, h, ho, hn]
    rw [hc, hf]
    refine ⟨rfl, Or.inl ?_⟩
    by_cases h : j = 0 ∧ t = 1010
    · obtain ⟨rfl, rfl⟩ := h
      decide
    · simp [h]

/-! ### The step and the queue -/

theorem test_step_takes_the_front_command :
    step { base with pending := [.minuteEdge, .sweepEnd] } =
      .next { base with cal.clock := 15001, pending := [.sweepEnd] } := by rfl
theorem test_step_idles_on_an_empty_queue : step State.reset = .next State.reset := by rfl

end Sys2Proof.Tests
end

section
/-! The district tables and the thirteen queries: what each request makes of the state (chapter 1). -/

namespace Sys2Proof.Machine

/-! ### Answers that leave the state as it was -/

/-- A request that answers and changes nothing. -/
theorem completes_unchanged {s : State} {c : Instr} {r : Reply} {act : State → State × Reply}
    (he : exec c s = s.takeRequest c act) (h : s.handed c = true) (ha : act s = (s, r)) :
    Completes c s s r :=
  completes_of_handed he h ha rfl

/-- A request whose check fails. -/
theorem refuses_of_handed {s : State} {c : Instr} {r : Result} {act : State → State × Reply}
    (he : exec c s = s.takeRequest c act) (h : s.handed c = true) (ha : act s = (s, refusal r)) :
    Refuses c s r :=
  completes_unchanged he h ha

/-! ### What each query answers -/

theorem reqReachQuery_eq (n : Nat) (s : State) :
    reqReachQuery n s = (s,
      if 31 < n then refusal .badParam
      else match s.reach? n with
        | none => answer .done (Reach.bytes none)
        | some v => answer .done
            (Reach.bytes (some v) ++ be8 (depthOf s.cal.reaches n) ++ padded 8 (pathOf s.cal.reaches n) ++
              be8 (childrenOf s.cal.reaches n).length ++
              be16 (s.points.filter (fun e => decide (e.2.reach = n))).length)) := by
  unfold reqReachQuery
  by_cases hn : 31 < n
  · rw [if_pos hn, if_pos (show 32 ≤ n from hn)]
  · rw [if_neg hn, if_neg (show ¬32 ≤ n from hn)]
    cases s.reach? n <;> rfl

theorem reqPointQuery_eq (n : Nat) (s : State) :
    reqPointQuery n s = (s,
      if 1023 < n then refusal .badParam
      else match s.point? n with
        | none => answer .done (be8 0)
        | some p => answer .done p.bytes) := by
  unfold reqPointQuery
  by_cases hn : 1023 < n
  · rw [if_pos hn, if_pos (show 1024 ≤ n from hn)]
  · rw [if_neg hn, if_neg (show ¬1024 ≤ n from hn)]
    cases s.point? n <;> rfl

theorem reqAccountQuery_eq (n part : Nat) (s : State) :
    reqAccountQuery n part s = (s,
      if 767 < n ∨ 1 < part then refusal .badParam
      else match s.account? n with
        | none => answer .done (be8 0)
        | some a => answer .done (if part = 0 then a.recordBytes else a.periodBytes)) := by
  unfold reqAccountQuery
  by_cases hn : 767 < n ∨ 1 < part
  · rw [if_pos hn, if_pos (show 768 ≤ n ∨ 1 < part from hn)]
  · rw [if_neg hn, if_neg (show ¬(768 ≤ n ∨ 1 < part) from hn)]
    cases s.account? n <;> rfl

theorem reqTariffQuery_eq (c : Nat) (s : State) :
    reqTariffQuery c s = (s, if 7 < c then refusal .badParam else answer .done (s.tariff c).bytes) := by
  unfold reqTariffQuery
  by_cases hc : 7 < c
  · rw [if_pos hc, if_pos (show 8 ≤ c from hc)]
  · rw [if_neg hc, if_neg (show ¬8 ≤ c from hc)]

theorem reqStatementQuery_eq (n : Nat) (s : State) :
    reqStatementQuery n s = (s,
      if 767 < n then refusal .badParam
      else match s.account? n with
        | none => answer .done (be8 0 ++ be16 0 ++ Statement.bytes none)
        | some a => answer .done
            (be8 (AccountState.code (some a.state)) ++ be16 a.period ++ Statement.bytes a.statement)) := by
  unfold reqStatementQuery
  by_cases hn : 767 < n
  · rw [if_pos hn, if_pos (show 768 ≤ n from hn)]
  · rw [if_neg hn, if_neg (show ¬768 ≤ n from hn)]
    cases s.account? n <;> rfl

/-- A run of at least one slot leaves the horizon when its first slot is past or its last is beyond. -/
theorem Calendar.outside_iff (c : Calendar) {first count : Nat} (h : 1 ≤ count) :
    c.outside first count = true ↔ first < c.slot ∨ c.slot + 671 < first + count - 1 := by
  rw [Calendar.outside, decide_eq_true_iff]
  change first < c.slot ∨ c.slot + 672 < first + count ↔ _
  omega

theorem reqCapacityQuery_eq (r first count : Nat) (s : State) :
    reqCapacityQuery r first count s = (s,
      if 31 < r ∨ count < 1 ∨ 7 < count then refusal .badParam
      else if s.reach? r = none then refusal .noSuchReach
      else if first < s.cal.slot ∨ s.cal.slot + 671 < first + count - 1 then refusal .beyondHorizon
      else answer .done
        (be8 r ++ be32 first ++ be8 count ++
          (List.range' first count).flatMap (s.cal.slotBytes r))) := by
  unfold reqCapacityQuery
  by_cases hr : 31 < r ∨ count < 1 ∨ 7 < count
  · rw [if_pos hr, if_pos (show 32 ≤ r ∨ count < 1 ∨ 7 < count from hr)]
  · rw [if_neg hr, if_neg (show ¬(32 ≤ r ∨ count < 1 ∨ 7 < count) from hr)]
    have hout := s.cal.outside_iff (first := first) (show 1 ≤ count by omega)
    simp only [Option.isNone_iff_eq_none, hout]
    split_ifs <;> rfl

theorem reqOrderQuery_eq (h : Nat) (s : State) :
    reqOrderQuery h s = (s,
      match s.obk.named? h with
      | none => refusal .noSuchOrder
      | some e => answer .done (e.2.bytes h)) := by
  unfold reqOrderQuery
  cases s.obk.named? h <;> rfl

theorem reqWaitlistQuery_eq (k : Nat) (s : State) :
    reqWaitlistQuery k s = (s,
      if 95 < k then refusal .badParam
      else answer .done
        (be8 s.obk.waiting.length ++ be8 k ++ be8 ((s.obk.waiting.drop k).take 4).length ++
          ((s.obk.waiting.drop k).take 4).flatMap s.obk.entryBytes)) := by
  unfold reqWaitlistQuery
  split <;> rfl

theorem reqStandingQuery_eq (x : Nat) (s : State) :
    reqStandingQuery x s = (s,
      if 191 < x then refusal .badParam
      else answer .done (Template.bytes (cell? s.obk.templates x))) := by
  unfold reqStandingQuery
  by_cases hx : 191 < x
  · rw [if_pos hx, if_pos (show 192 ≤ x from hx)]
  · rw [if_neg hx, if_neg (show ¬192 ≤ x from hx)]

theorem reqStationQuery_eq (a : Nat) (s : State) :
    reqStationQuery a s = (s,
      if 127 < a then refusal .badParam
      else answer .done
        (be8 s.line.mode.code ++ (s.station a).bytes s.cal.clock ++
          (List.range 8).flatMap (fun c => channelBytes (s.point? (a * 8 + c))))) := by
  unfold reqStationQuery
  by_cases ha : 127 < a
  · rw [if_pos ha, if_pos (show 128 ≤ a from ha)]
  · rw [if_neg ha, if_neg (show ¬128 ≤ a from ha)]

theorem reqMeterQuery_eq (n : Nat) (s : State) :
    reqMeterQuery n s = (s,
      if 1023 < n then refusal .badParam
      else match s.point? n with
        | none => answer .done (be8 0)
        | some p => answer .done (p.meterBytes s.cal.clock)) := by
  unfold reqMeterQuery
  by_cases hn : 1023 < n
  · rw [if_pos hn, if_pos (show 1024 ≤ n from hn)]
  · rw [if_neg hn, if_neg (show ¬1024 ≤ n from hn)]
    cases s.point? n <;> rfl

/-- Settles O13: each query's owning block answers with the record and hands the state back as it was. -/
theorem queriesAnswerTheRecords : Obligations.QueriesAnswerTheRecords := by
  refine ⟨fun s => ⟨?reach, ?point, ?account, ?tariff, ?district, ?statement⟩,
    fun s => ⟨?capacity, ?order, ?waitlist, ?standing, ?station, ?meter, ?attention⟩⟩
  case reach => exact fun n h => completes_unchanged rfl h (reqReachQuery_eq n s)
  case point => exact fun n h => completes_unchanged rfl h (reqPointQuery_eq n s)
  case account => exact fun n part h => completes_unchanged rfl h (reqAccountQuery_eq n part s)
  case tariff => exact fun c h => completes_unchanged rfl h (reqTariffQuery_eq c s)
  case district => exact fun h => completes_unchanged (act := reqDistrictQuery) rfl h rfl
  case statement => exact fun n h => completes_unchanged rfl h (reqStatementQuery_eq n s)
  case capacity =>
    exact fun r first count h => completes_unchanged rfl h (reqCapacityQuery_eq r first count s)
  case order => exact fun h hh => completes_unchanged rfl hh (reqOrderQuery_eq h s)
  case waitlist => exact fun k h => completes_unchanged rfl h (reqWaitlistQuery_eq k s)
  case standing => exact fun x h => completes_unchanged rfl h (reqStandingQuery_eq x s)
  case station => exact fun a h => completes_unchanged rfl h (reqStationQuery_eq a s)
  case meter => exact fun n h => completes_unchanged rfl h (reqMeterQuery_eq n s)
  case attention => exact fun h => completes_unchanged (act := reqAttentionQuery) rfl h rfl

/-! ### DISTRICT_SET and TARIFF_SET -/

theorem clampBitRate_eq (b : Nat) :
    clampBitRate b =
      if b < 19200 then 9600 else if b < 38400 then 19200 else if b < 57600 then 38400 else 57600 := by
  unfold clampBitRate
  split_ifs <;> omega

/-- The checks of R19: the class exists and the tier boundaries rise within 1 to 30,000 bp. -/
theorem tariff_refused_iff (c b1 b2 b3 : Nat) :
    (Config.classes ≤ c ∨ badBoundary b1 ∨ badBoundary b2 ∨ badBoundary b3 ∨ ¬(b1 < b2 ∧ b2 < b3)) ↔
      ¬(c ≤ 7 ∧ 1 ≤ b1 ∧ b1 < b2 ∧ b2 < b3 ∧ b3 ≤ 30000) := by
  simp only [Config.classes, badBoundary, decide_eq_true_eq]
  omega

/-- Settles O14: the clamps of R20 and the checks of R19, then one equation of the request each. -/
theorem districtAndTariffSetStoreTheirValues : Obligations.DistrictAndTariffSetStoreTheirValues := by
  refine fun s => ⟨fun lead supply rate timeout poll h => ?_,
    fun c b1 b2 b3 r0 r1 r2 r3 u f h => ⟨fun hbad => ?_, fun hfits => ?_⟩⟩
  · rw [← clampBitRate_eq]
    exact completes_of_handed (act := reqDistrictSet lead supply rate timeout poll) rfl h rfl rfl
  · refine refuses_of_handed (act := reqTariffSet c b1 b2 b3 r0 r1 r2 r3 u f) rfl h ?_
    exact if_pos ((tariff_refused_iff c b1 b2 b3).2 hbad)
  · refine ⟨_, completes_of_handed (act := reqTariffSet c b1 b2 b3 r0 r1 r2 r3 u f) rfl h
      (if_neg (fun hbad => (tariff_refused_iff c b1 b2 b3).1 hbad hfits)) rfl, fun k => ?_⟩
    exact valueAt_setValue _ _ _ _ _

end Sys2Proof.Machine
end

section
/-! REACH_SET: what its checks ask, and what a passing CONFIGURE or UNCONFIGURE writes (R3 to R5). -/

namespace Sys2Proof.Machine

/-! ### The checks of R3 -/

theorem badReachRange_iff (r cap lag : Nat) (parent : Option Nat) :
    badReachRange r parent cap lag = true ↔
      31 < r ∨ 60000 < cap ∨ 48 < lag ∨ (r = 0 ∧ (parent.isSome = true ∨ lag ≠ 0)) ∨
        (r ≠ 0 ∧ ∀ p, parent = some p → r ≤ p) := by
  unfold badReachRange
  rw [Bool.or_eq_true, Bool.or_eq_true, decide_eq_true_iff, decide_eq_true_iff]
  change ((32 ≤ r ∨ 60000 < cap ∨ 48 < lag) ∨ _) ∨ _ ↔ _
  cases parent with
  | none =>
    simp
    omega
  | some p =>
    simp
    omega

theorem parentMissing_iff (s : State) (parent : Option Nat) :
    parent.any (fun p => (s.reach? p).isNone) = true ↔ ∃ p, parent = some p ∧ s.reach? p = none := by
  simp [Option.any_eq_true]

/-- Some child of a reach passes a test. -/
theorem any_childrenOf_iff (rs : Table Reach) (r : Nat) (q : Nat × Reach → Bool) :
    (childrenOf rs r).any q = true ↔ ∃ e ∈ rs, e.2.parent = some r ∧ q e = true := by
  simp [childrenOf]

theorem badShape_iff (rs : Table Reach) (r lag : Nat) (parent : Option Nat) :
    badShape rs r parent lag = true ↔
      (∃ p, parent = some p ∧ (lag < lagOf rs p ∨ 8 < depthOf rs p + heightOf rs r)) ∨
        ∃ e ∈ rs, e.2.parent = some r ∧ e.2.lag < lag := by
  unfold badShape
  rw [Bool.or_eq_true, any_childrenOf_iff]
  cases parent <;> simp

/-! ### The check of R4 -/

theorem State.trafficBelow_iff (s : State) (r : Nat) :
    s.trafficBelow r = true ↔
      ∃ e ∈ s.obk.orders, e.2.live = true ∧ r ∈ pathOf s.cal.reaches (s.reachOf e.2) := by
  simp [State.trafficBelow, inSubtree]

theorem ringKey_mod {r : Nat} (t : Nat) (hr : r < 32) : ringKey r t % 32 = r := by
  change (t * 32 + r) % 32 = r
  omega

theorem ringKey_div {r : Nat} (t : Nat) (hr : r < 32) : ringKey r t / 32 = t := by
  change (t * 32 + r) / 32 = t
  omega

/-- Every key of the capacity ring spells a reach and a slot. -/
theorem ringKey_mod_div (k : Nat) : ringKey (k % 32) (k / 32) = k := Nat.div_add_mod' k 32

/-- A listed committed flow is that of the reach and the slot its key spells. -/
theorem Calendar.committedIn_of_mem {c : Calendar} {e : Nat × Nat} (hk : risingKeys c.committed = true)
    (he : e ∈ c.committed) : c.committedIn (e.1 % 32) (e.1 / 32) = e.2 := by
  rw [Calendar.committedIn, ringKey_mod_div, valueAt, cell?_of_mem hk he, Option.getD_some]

/-- A committed flow above 0 L/s is listed. -/
theorem Calendar.mem_of_committedIn {c : Calendar} {r t : Nat} (h : 0 < c.committedIn r t) :
    (ringKey r t, c.committedIn r t) ∈ c.committed := by
  unfold Calendar.committedIn valueAt at h ⊢
  cases hv : cell? c.committed (ringKey r t) with
  | none =>
    rw [hv] at h
    exact absurd h (Nat.lt_irrefl 0)
  | some f => exact mem_of_cell? hv

theorem State.committedAbove_iff {s : State} {r : Nat} (cap : Nat)
    (hk : risingKeys s.cal.committed = true) (hr : r < 32) :
    s.committedAbove r cap = true ↔
      ∃ t, s.cal.slot ≤ t ∧ t < s.cal.slot + 672 ∧ cap < s.cal.committedIn r t := by
  simp only [State.committedAbove, List.any_eq_true, Bool.and_eq_true, decide_eq_true_eq]
  constructor
  · rintro ⟨e, he, ⟨⟨rfl, hcap⟩, hlo⟩, hhi⟩
    exact ⟨e.1 / 32, hlo, hhi, hcap.trans_eq (Calendar.committedIn_of_mem hk he).symm⟩
  · rintro ⟨t, hlo, hhi, hcap⟩
    exact ⟨_, Calendar.mem_of_committedIn (Nat.zero_lt_of_lt hcap),
      ⟨⟨ringKey_mod t hr, hcap⟩, hlo.trans_eq (ringKey_div t hr).symm⟩, (ringKey_div t hr).trans_lt hhi⟩

theorem State.reachInUse_iff {s : State} {r : Nat} (old : Reach) (parent : Option Nat) (cap lag : Nat)
    (hk : risingKeys s.cal.committed = true) (hr : r < 32) :
    s.reachInUse r old parent cap lag = true ↔
      ((parent ≠ old.parent ∨ lag ≠ old.lag) ∧
        ∃ e ∈ s.obk.orders, e.2.live = true ∧ r ∈ pathOf s.cal.reaches (s.reachOf e.2)) ∨
      ∃ t, s.cal.slot ≤ t ∧ t < s.cal.slot + 672 ∧ cap < s.cal.committedIn r t := by
  rw [State.reachInUse, Bool.or_eq_true, State.committedAbove_iff cap hk hr, Bool.and_eq_true,
    s.trafficBelow_iff, Bool.or_eq_true, decide_eq_true_iff, decide_eq_true_iff]

/-! ### CONFIGURE -/

section Configure

variable {s : State} {r cap lag : Nat} {parent : Option Nat}

theorem State.configureReach_badRange (h : badReachRange r parent cap lag = true) :
    s.configureReach r parent cap lag = (s, refusal .badParam) :=
  if_pos h

theorem State.configureReach_noParent (hb : badReachRange r parent cap lag = false)
    (h : parent.any (fun p => (s.reach? p).isNone) = true) :
    s.configureReach r parent cap lag = (s, refusal .noSuchReach) := by
  simp [State.configureReach, hb, h]

/-- The checks of R3, all passed. -/
structure ReachFits (s : State) (r : Nat) (parent : Option Nat) (cap lag : Nat) : Prop where
  range : badReachRange r parent cap lag = false
  parents : parent.any (fun p => (s.reach? p).isNone) = false
  shape : badShape s.cal.reaches r parent lag = false

theorem State.configureReach_badShape (hb : badReachRange r parent cap lag = false)
    (hp : parent.any (fun p => (s.reach? p).isNone) = false)
    (h : badShape s.cal.reaches r parent lag = true) :
    s.configureReach r parent cap lag = (s, refusal .badParam) := by
  simp [State.configureReach, hb, hp, h]

theorem State.configureReach_new (h : ReachFits s r parent cap lag) (hr : s.reach? r = none) :
    s.configureReach r parent cap lag =
      ({ s with
          cal.reaches := setCell s.cal.reaches r
            { parent := parent, capacity := cap, lag := lag, check := none } }, doneReply) := by
  simp [State.configureReach, h.range, h.parents, h.shape, hr]

theorem State.configureReach_inUse {old : Reach} (h : ReachFits s r parent cap lag)
    (hr : s.reach? r = some old) (hu : s.reachInUse r old parent cap lag = true) :
    s.configureReach r parent cap lag = (s, refusal .inUse) := by
  simp [State.configureReach, h.range, h.parents, h.shape, hr, hu]

theorem State.configureReach_changed {old : Reach} (h : ReachFits s r parent cap lag)
    (hr : s.reach? r = some old) (hu : s.reachInUse r old parent cap lag = false) :
    s.configureReach r parent cap lag =
      (s.reconfigure r old { old with parent := parent, capacity := cap, lag := lag }, doneReply) := by
  simp [State.configureReach, h.range, h.parents, h.shape, hr, hu]

end Configure

/-- What is made of a state when a configured reach takes a new record: the record, the frost extra loads
when its parent changes (R105), the re-examination when its capacity rises (R4), the line's choice. -/
theorem State.reconfigure_eq (s : State) (r : Nat) (old new : Reach) :
    s.reconfigure r old new =
      (let s1 : State := { s with cal.reaches := setCell s.cal.reaches r new }
       let s2 := if new.parent = old.parent then s1
         else s1.refreshFrost (s1.cal.reaches.map (fun e => e.1))
       let s3 := if old.capacity < new.capacity then s2.startReexamination else s2
       s3.arbitrate) :=
  (apply_ite State.arbitrate _ _ _).symm

/-! ### UNCONFIGURE -/

/-- A reach with a child or a point (R5). -/
theorem reach_used_iff (s : State) (r : Nat) :
    (!(childrenOf s.cal.reaches r).isEmpty ∨ s.points.any (fun e => decide (e.2.reach = r))) ↔
      (∃ e ∈ s.cal.reaches, e.2.parent = some r) ∨ ∃ e ∈ s.points, e.2.reach = r := by
  simp [childrenOf]

section Unconfigure

variable {s : State} {r : Nat}

theorem State.unconfigureReach_badParam (h : 31 < r) :
    s.unconfigureReach r = (s, refusal .badParam) :=
  if_pos h

theorem State.unconfigureReach_noReach (h : r ≤ 31) (hr : s.reach? r = none) :
    s.unconfigureReach r = (s, refusal .noSuchReach) := by
  simp [State.unconfigureReach, show ¬32 ≤ r by omega, hr]

theorem State.unconfigureReach_eq (h : r ≤ 31) (hr : s.reach? r ≠ none) :
    s.unconfigureReach r =
      if !(childrenOf s.cal.reaches r).isEmpty ∨ s.points.any (fun e => decide (e.2.reach = r)) then
        (s, refusal .inUse)
      else ({ s with cal.reaches := delCell s.cal.reaches r }, doneReply) := by
  rw [State.unconfigureReach, if_neg (show ¬32 ≤ r by omega), if_neg (by simpa using hr)]

end Unconfigure

/-! ### The request -/

/-- A reach record read after one was written. -/
theorem State.reach?_setCell (s : State) (r k : Nat) (v : Reach) :
    ({ s with cal.reaches := setCell s.cal.reaches r v } : State).reach? k =
      if k = r then some v else s.reach? k :=
  cell?_setCell _ _ _ _

/-- Settles O19: the checks of the model are those of R3, R4 and R5, and each way through them is one
equation of configureReach or unconfigureReach. -/
theorem reachSetChecksThenWrites : Obligations.ReachSetChecksThenWrites := by
  intro s act r parent cap lag hh hk c rs badRange noParent badShape' inUse
  have hrange : badReachRange r parent cap lag = true ↔ badRange := badReachRange_iff r cap lag parent
  have hparent := parentMissing_iff s parent
  have hshape : badShape s.cal.reaches r parent lag = true ↔ badShape' :=
    badShape_iff s.cal.reaches r lag parent
  have hfits : ¬badRange → ¬noParent → ¬badShape' → ReachFits s r parent cap lag := fun hb hp hs =>
    ⟨eq_false_of_ne_true (mt hrange.1 hb), eq_false_of_ne_true (mt hparent.1 hp),
      eq_false_of_ne_true (mt hshape.1 hs)⟩
  have hcfg : act = 0 → ∀ {t a}, s.configureReach r parent cap lag = (t, a) →
      t.port.command = s.port.command → Completes c s t a := by
    rintro rfl t a he hp
    exact completes_of_handed (act := reqReachSet 0 r parent cap lag) rfl hh he hp
  have hunc : act = 1 → ∀ {t a}, s.unconfigureReach r = (t, a) →
      t.port.command = s.port.command → Completes c s t a := by
    rintro rfl t a he hp
    exact completes_of_handed (act := reqReachSet 1 r parent cap lag) rfl hh he hp
  refine ⟨?range, ?parent, ?shape, ?new, ?old, ?uncRange, ?uncNone, ?unconfigure, ?action⟩
  case range =>
    intro h0 hb
    exact hcfg h0 (State.configureReach_badRange (hrange.2 hb)) rfl
  case parent =>
    intro h0 hb hp
    exact hcfg h0 (State.configureReach_noParent (eq_false_of_ne_true (mt hrange.1 hb)) (hparent.2 hp)) rfl
  case shape =>
    intro h0 hb hp hs
    exact hcfg h0 (State.configureReach_badShape (eq_false_of_ne_true (mt hrange.1 hb))
      (eq_false_of_ne_true (mt hparent.1 hp)) (hshape.2 hs)) rfl
  case new =>
    intro h0 hb hp hs hr
    exact ⟨_, hcfg h0 (State.configureReach_new (hfits hb hp hs) hr) rfl, rfl,
      fun k => s.reach?_setCell r k _⟩
  case old =>
    intro h0 hb hp hs old hr
    have hr32 : r < 32 := by
      by_contra hlt
      exact hb (Or.inl (by omega))
    have huse : s.reachInUse r old parent cap lag = true ↔ inUse old :=
      State.reachInUse_iff old parent cap lag hk hr32
    refine ⟨fun hu => hcfg h0 (State.configureReach_inUse (hfits hb hp hs) hr (huse.2 hu)) rfl,
      fun hu => ⟨{ s with cal.reaches := (setCell s.cal.reaches r
        { old with parent := parent, capacity := cap, lag := lag }) }, rfl,
        fun k => s.reach?_setCell r k _, ?_⟩⟩
    have he := State.configureReach_changed (hfits hb hp hs) hr (eq_false_of_ne_true (mt huse.1 hu))
    have hport := (State.fixed_fields (s.reconfigure_fixed r old
      { old with parent := parent, capacity := cap, lag := lag })).2.2.1
    rw [State.reconfigure_eq] at he hport
    exact hcfg h0 he (congrArg Port.command hport)
  case uncRange => exact fun h1 hr => hunc h1 (State.unconfigureReach_badParam hr) rfl
  case uncNone => exact fun h1 hr hn => hunc h1 (State.unconfigureReach_noReach hr hn) rfl
  case unconfigure =>
    intro h1 hr hn used
    have he := State.unconfigureReach_eq hr hn
    refine ⟨fun hu => hunc h1 (he.trans (if_pos ((reach_used_iff s r).2 hu))) rfl, fun hu => ?_⟩
    exact ⟨_, hunc h1 (he.trans (if_neg (mt (reach_used_iff s r).1 hu))) rfl, rfl,
      fun k => cell?_delCell _ _ _⟩
  case action =>
    intro h1
    obtain ⟨n, rfl⟩ : ∃ n, act = n + 2 := ⟨act - 2, by omega⟩
    exact refuses_of_handed (act := reqReachSet (n + 2) r parent cap lag) rfl hh rfl

end Sys2Proof.Machine
end

section
/-! POINT_SET: the check point fields and the poll rotation follow a point, and what each way through its
checks answers (R7 to R11, R106, R115). -/

namespace Sys2Proof.Machine

/-! ### Stations -/

/-- A station record read after one was written. -/
theorem State.setStation_station (s : State) (a b : Nat) (v : Station) :
    (s.setStation a v).station b = if b = a then v else s.station b :=
  valueAt_setValue _ _ _ _ _

/-- The poll rotation's update writes the station records alone. -/
theorem State.followPolling_frame (s : State) (a : Nat) :
    s.followPolling a = { s with line.stations := (s.followPolling a).line.stations } := by
  unfold State.followPolling
  dsimp only
  split_ifs <;> rfl

theorem State.followPolling_points (s : State) (a : Nat) : (s.followPolling a).points = s.points := by
  rw [State.followPolling_frame]

theorem State.followPolling_other (s : State) {a b : Nat} (h : b ≠ a) :
    (s.followPolling a).station b = s.station b := by
  unfold State.followPolling
  dsimp only
  split_ifs
  · rfl
  · rw [State.setStation_station, if_neg h]
  · rw [State.setStation_station, if_neg h]

/-- A station that serves a point is in the rotation; it enters if it was not (R7, R106). -/
theorem State.followPolling_used {s : State} {a : Nat} (h : ∃ e ∈ s.points, stationOf e.1 = a) :
    (s.followPolling a).station a =
      if (s.station a).polled = true then s.station a else (s.station a).enter := by
  have hu : s.points.any (fun e => decide (stationOf e.1 = a)) = true := by simpa using h
  unfold State.followPolling
  rw [hu]
  cases hp : (s.station a).polled
  · exact (s.setStation_station a a _).trans (if_pos rfl)
  · rfl

/-- A station that serves no point is out of the rotation; it leaves if it was in it (R7, R106). -/
theorem State.followPolling_unused {s : State} {a : Nat} (h : ∀ e ∈ s.points, stationOf e.1 ≠ a) :
    (s.followPolling a).station a =
      if (s.station a).polled = true then (s.station a).leave else s.station a := by
  have hu : s.points.any (fun e => decide (stationOf e.1 = a)) = false := by simpa using h
  unfold State.followPolling
  rw [hu]
  cases hp : (s.station a).polled
  · rfl
  · exact (s.setStation_station a a _).trans (if_pos rfl)

/-! ### Check point fields (R10) -/

theorem State.setCheck_frame (s : State) (r : Nat) (c : Option Nat) :
    s.setCheck r c = { s with cal.reaches := (s.setCheck r c).cal.reaches } := by
  unfold State.setCheck
  split <;> rfl

theorem State.setCheck_reach? (s : State) (r j : Nat) (c : Option Nat) :
    (s.setCheck r c).reach? j =
      (s.reach? j).map (fun v => if j = r then { v with check := c } else v) := by
  unfold State.setCheck
  split
  · next h =>
    by_cases hj : j = r
    · rw [hj, h]
      rfl
    · simp [hj]
  · next v h =>
    rw [State.reach?_setCell]
    by_cases hj : j = r
    · simp [hj, h]
    · simp [hj]

/-- What the check point fields become when a point is lost: that of its reach is absent. -/
theorem State.followCheck_lost_reach? (s : State) (n j : Nat) (p : Point) :
    (s.followCheck n (some p) none).reach? j =
      (s.reach? j).map (fun v => if p.kind = .check ∧ j = p.reach then { v with check := none } else v) := by
  by_cases hk : p.kind = .check
  · simpa [State.followCheck, hk] using s.setCheck_reach? p.reach j none
  · simp [State.followCheck, hk]

/-- What the check point fields become when a point comes: that of its reach holds its number. -/
theorem State.followCheck_come_reach? (s : State) (n j : Nat) (q : Point) :
    (s.followCheck n none (some q)).reach? j =
      (s.reach? j).map (fun v => if q.kind = .check ∧ j = q.reach then { v with check := some n } else v) := by
  by_cases hk : q.kind = .check
  · simpa [State.followCheck, hk] using s.setCheck_reach? q.reach j (some n)
  · simp [State.followCheck, hk]

/-- A point that gives way to another is lost, and then the other comes. -/
theorem State.followCheck_replaced (s : State) (n : Nat) (p q : Point) :
    s.followCheck n (some p) (some q) =
      (s.followCheck n (some p) none).followCheck n none (some q) := rfl

/-- What the check point fields become when a point comes in the place of another, or of none. -/
theorem State.followCheck_reach? (s : State) (n j : Nat) (old : Option Point) (q : Point) :
    (s.followCheck n old (some q)).reach? j = (s.reach? j).map (fun v =>
      if q.kind = .check ∧ j = q.reach then { v with check := some n }
      else if ∃ p, old = some p ∧ p.kind = .check ∧ p.reach = j then { v with check := none }
      else v) := by
  cases old with
  | none => simpa using s.followCheck_come_reach? n j q
  | some p =>
    rw [State.followCheck_replaced, State.followCheck_come_reach?, State.followCheck_lost_reach?,
      Option.map_map]
    congr 1
    funext v
    by_cases hq : q.kind = .check ∧ j = q.reach
    · simp only [Function.comp_apply, if_pos hq]
      split_ifs <;> rfl
    · simp only [Function.comp_apply, if_neg hq]
      simp [eq_comm (a := j)]

/-- Following the check point fields writes the reach records alone. -/
theorem State.followCheck_frame (s : State) (n : Nat) (old new : Option Point) :
    s.followCheck n old new = { s with cal.reaches := (s.followCheck n old new).cal.reaches } := by
  have lost : ∀ p, s.followCheck n (some p) none =
      { s with cal.reaches := (s.followCheck n (some p) none).cal.reaches } := by
    intro p
    unfold State.followCheck
    dsimp only
    split_ifs
    · exact s.setCheck_frame _ _
    · rfl
  have come : ∀ (t : State) (q : Point), t.followCheck n none (some q) =
      { t with cal.reaches := (t.followCheck n none (some q)).cal.reaches } := by
    intro t q
    unfold State.followCheck
    dsimp only
    split_ifs
    · exact t.setCheck_frame _ _
    · rfl
  cases old with
  | none =>
    cases new with
    | none => rfl
    | some q => exact come s q
  | some p =>
    cases new with
    | none => exact lost p
    | some q => rw [State.followCheck_replaced, come, lost]

/-! ### A point is removed (R7, R9, R115) -/

/-- A SET on the line for a point that becomes UNUSED is marked so that its reply is discarded (R115). -/
theorem Line.dropPoint_eq (l : Line) (n : Nat) :
    l.dropPoint n = { l with
      transaction := l.transaction.map (fun t =>
        match t.job with
        | .set q v _ => if q = n then { t with job := .set q v true } else t
        | .poll _ => t) } := by
  obtain ⟨mode, transaction, rotation, stations⟩ := l
  cases transaction with
  | none => rfl
  | some t =>
    obtain ⟨job, attempt, last, phase, rate, timeout⟩ := t
    cases job with
    | poll a => rfl
    | set q v removed => by_cases hq : q = n <;> simp [Line.dropPoint, hq]

/-- The records a removal writes before the poll rotation follows. -/
def State.clearedPoint (n : Nat) (p : Point) (s : State) : State :=
  State.followCheck n (some p) none
    { s with points := delCell s.points n, line := s.line.dropPoint n, mail := s.mail.dropPoint n }

section Removed

variable (s : State) (n : Nat) (p : Point)

theorem State.removePoint_eq :
    s.removePoint n p = (s.clearedPoint n p).followPolling (stationOf n) := rfl

theorem State.clearedPoint_frame :
    s.clearedPoint n p = { s with
      points := delCell s.points n, cal.reaches := (s.clearedPoint n p).cal.reaches
      line := s.line.dropPoint n, mail := s.mail.dropPoint n } :=
  State.followCheck_frame _ _ _ _

theorem State.clearedPoint_station (a : Nat) : (s.clearedPoint n p).station a = s.station a := by
  rw [State.clearedPoint_frame, State.station, Line.dropPoint_eq]
  rfl

theorem State.removePoint_points : (s.removePoint n p).points = delCell s.points n := by
  rw [State.removePoint_eq, State.followPolling_frame, State.clearedPoint_frame]

theorem State.removePoint_frame :
    s.removePoint n p = { s with
      points := (s.removePoint n p).points, cal.reaches := (s.removePoint n p).cal.reaches
      line := (s.removePoint n p).line, mail := s.mail.dropPoint n } := by
  rw [State.removePoint_eq, State.followPolling_frame, State.clearedPoint_frame]

theorem State.removePoint_line :
    (s.removePoint n p).line =
      { s.line.dropPoint n with stations := (s.removePoint n p).line.stations } := by
  rw [State.removePoint_eq, State.followPolling_frame, State.clearedPoint_frame]

theorem State.removePoint_transaction :
    (s.removePoint n p).line.transaction = (s.line.dropPoint n).transaction := by
  rw [State.removePoint_line]

theorem State.removePoint_point? (m : Nat) :
    (s.removePoint n p).point? m = if m = n then none else s.point? m := by
  rw [State.point?, State.removePoint_points]
  exact cell?_delCell _ _ _

theorem State.removePoint_reach? (k : Nat) :
    (s.removePoint n p).reach? k =
      (s.reach? k).map (fun v => if p.kind = .check ∧ k = p.reach then { v with check := none } else v) := by
  rw [State.removePoint_eq, State.followPolling_frame]
  exact State.followCheck_lost_reach? _ n k p

variable {s n p}

theorem State.removePoint_station_other {a : Nat} (h : a ≠ stationOf n) :
    (s.removePoint n p).station a = s.station a :=
  (State.followPolling_other _ h).trans (s.clearedPoint_station n p a)

theorem State.removePoint_station_used
    (h : ∃ e ∈ (s.removePoint n p).points, stationOf e.1 = stationOf n) :
    (s.removePoint n p).station (stationOf n) =
      if (s.station (stationOf n)).polled = true then s.station (stationOf n)
      else (s.station (stationOf n)).enter := by
  rw [State.removePoint_eq, State.followPolling_points] at h
  rw [State.removePoint_eq, State.followPolling_used h, State.clearedPoint_station]

theorem State.removePoint_station_unused
    (h : ∀ e ∈ (s.removePoint n p).points, stationOf e.1 ≠ stationOf n) :
    (s.removePoint n p).station (stationOf n) =
      if (s.station (stationOf n)).polled = true then (s.station (stationOf n)).leave
      else s.station (stationOf n) := by
  rw [State.removePoint_eq, State.followPolling_points] at h
  rw [State.removePoint_eq, State.followPolling_unused h, State.clearedPoint_station]

end Removed

/-! ### A point is created (R7, R10) -/

/-- The records a creation writes before the poll rotation follows. -/
def State.placedPoint (n : Nat) (old : Option Point) (q : Point) (s : State) : State :=
  (s.setPoint n q).followCheck n old (some q)

section Created

variable (s : State) (n : Nat) (old : Option Point) (q : Point)

theorem State.createPoint_eq :
    s.createPoint n old q = (s.placedPoint n old q).followPolling (stationOf n) := rfl

theorem State.placedPoint_frame :
    s.placedPoint n old q = { s with
      points := setCell s.points n q, cal.reaches := (s.placedPoint n old q).cal.reaches } :=
  State.followCheck_frame _ _ _ _

theorem State.placedPoint_points : (s.placedPoint n old q).points = setCell s.points n q := by
  rw [State.placedPoint_frame]

theorem State.placedPoint_point? (m : Nat) :
    (s.placedPoint n old q).point? m = if m = n then some q else s.point? m := by
  rw [State.placedPoint_frame]
  exact cell?_setCell _ _ _ _

theorem State.placedPoint_station (a : Nat) : (s.placedPoint n old q).station a = s.station a := by
  rw [State.placedPoint_frame]
  rfl

theorem State.placedPoint_reach? (j : Nat) :
    (s.placedPoint n old q).reach? j = (s.reach? j).map (fun v =>
      if q.kind = .check ∧ j = q.reach then { v with check := some n }
      else if ∃ p, old = some p ∧ p.kind = .check ∧ p.reach = j then { v with check := none }
      else v) :=
  (s.setPoint n q).followCheck_reach? n j old q

theorem State.createPoint_frame :
    s.createPoint n old q = { s with
      points := (s.createPoint n old q).points, cal.reaches := (s.createPoint n old q).cal.reaches
      line.stations := (s.createPoint n old q).line.stations } := by
  rw [State.createPoint_eq, State.followPolling_frame, State.placedPoint_frame]

theorem State.createPoint_point? (m : Nat) :
    (s.createPoint n old q).point? m = if m = n then some q else s.point? m := by
  rw [State.createPoint_eq, State.followPolling_frame]
  exact s.placedPoint_point? n old q m

theorem State.createPoint_reach? (j : Nat) :
    (s.createPoint n old q).reach? j = (s.reach? j).map (fun v =>
      if q.kind = .check ∧ j = q.reach then { v with check := some n }
      else if ∃ p, old = some p ∧ p.kind = .check ∧ p.reach = j then { v with check := none }
      else v) := by
  rw [State.createPoint_eq, State.followPolling_frame]
  exact s.placedPoint_reach? n old q j

variable {n}

theorem State.createPoint_station_other {a : Nat} (h : a ≠ stationOf n) :
    (s.createPoint n old q).station a = s.station a :=
  (State.followPolling_other _ h).trans (s.placedPoint_station n old q a)

variable (n)

/-- The station of a point that is created is in the rotation. -/
theorem State.createPoint_station :
    (s.createPoint n old q).station (stationOf n) =
      if (s.station (stationOf n)).polled = true then s.station (stationOf n)
      else (s.station (stationOf n)).enter := by
  have hq : (s.placedPoint n old q).point? n = some q :=
    (s.placedPoint_point? n old q n).trans (if_pos rfl)
  rw [State.createPoint_eq, State.followPolling_used ⟨_, mem_of_cell? hq, rfl⟩, State.placedPoint_station]

end Created

/-! ### The checks of R8 -/

theorem badPointRange_iff (n kind reach account rated frost mantissa shift : Nat) :
    badPointRange n kind reach account rated frost mantissa shift = true ↔
      1023 < n ∨ 2 < kind ∨
        (kind = 1 ∧ (31 < reach ∨ 767 < account ∨ rated < 1 ∨ 2000 < rated ∨ 2000 < frost ∨
          65535 < mantissa ∨ 15 < shift)) ∨
        (kind = 2 ∧ (31 < reach ∨ rated < 1 ∨ 60000 < rated ∨ 0 < frost ∨ 0 < mantissa ∨ 0 < shift)) := by
  unfold badPointRange
  rw [Bool.or_eq_true, decide_eq_true_iff]
  match kind with
  | 0 => simp [Nat.lt_iff_add_one_le]
  | 1 => simp [Nat.lt_iff_add_one_le]
  | 2 => simp [Nat.lt_iff_add_one_le]
  | k + 3 => simp

theorem State.liveAt_iff (s : State) (n : Nat) :
    s.liveAt n = true ↔ ∃ e ∈ s.obk.orders, e.2.point = n ∧ e.2.live = true := by
  simp [State.liveAt]

theorem State.liveAbove_iff (s : State) (n rated : Nat) :
    s.liveAbove n rated = true ↔
      ∃ e ∈ s.obk.orders, e.2.point = n ∧ e.2.live = true ∧ rated < e.2.flow := by
  simp [State.liveAbove, and_assoc]

theorem Point.moves_iff (p : Point) (k : PointKind) (reach : Nat) (owner : Option Nat) :
    p.moves k reach owner = true ↔ p.kind ≠ k ∨ p.reach ≠ reach ∨ p.account ≠ owner := by
  simp [Point.moves, or_assoc]

/-- Checks 2 and 3 of R8 on the account: it is not VACANT and not CLOSED, where one is given. -/
def State.ownerServes (s : State) (owner : Option Nat) : Prop :=
  ∀ i, owner = some i → ∃ a, s.account? i = some a ∧ a.state ≠ .closed

section Refused

variable {s : State} {n reach rated : Nat} {k : PointKind} {owner : Option Nat}

theorem State.pointRefused_noReach (h : s.reach? reach = none) :
    s.pointRefused n k reach owner rated = some .noSuchReach := by
  simp [State.pointRefused, h]

theorem State.pointRefused_noAccount {i : Nat} (hr : s.reach? reach ≠ none) (h : s.account? i = none) :
    s.pointRefused n k reach (some i) rated = some .noSuchAccount := by
  obtain ⟨v, hv⟩ := Option.ne_none_iff_exists'.1 hr
  simp [State.pointRefused, hv, h]

theorem State.pointRefused_closed {i : Nat} {a : Account} (hr : s.reach? reach ≠ none)
    (h : s.account? i = some a) (ha : a.state = .closed) :
    s.pointRefused n k reach (some i) rated = some .accountNotOpen := by
  obtain ⟨v, hv⟩ := Option.ne_none_iff_exists'.1 hr
  simp [State.pointRefused, hv, h, ha]

/-- Past the checks on the reach and the account, what is asked of an UNUSED point. -/
theorem State.pointRefused_unused {v : Reach} (hr : s.reach? reach = some v) (ho : s.ownerServes owner)
    (hp : s.point? n = none) :
    s.pointRefused n k reach owner rated =
      if k = .check ∧ v.check.isSome then some .inUse else none := by
  unfold State.pointRefused
  rw [hr, hp]
  cases owner with
  | none => rfl
  | some i =>
    obtain ⟨a, ha, hc⟩ := ho i rfl
    simp [ha, hc]

/-- Past the checks on the reach and the account, what is asked of a point that is not UNUSED. -/
theorem State.pointRefused_used {v : Reach} {p : Point} (hr : s.reach? reach = some v)
    (ho : s.ownerServes owner) (hp : s.point? n = some p) :
    s.pointRefused n k reach owner rated =
      if p.moves k reach owner ∧ p.mode ≠ .disabled then some .wrongState
      else if p.moves k reach owner ∧ s.liveAt n then some .inUse
      else if k = .turnout ∧ s.liveAbove n rated then some .inUse
      else if k = .check ∧ v.check.any (fun c => c != n) then some .inUse
      else none := by
  unfold State.pointRefused
  rw [hr, hp]
  cases owner with
  | none => rfl
  | some i =>
    obtain ⟨a, ha, hc⟩ := ho i rfl
    simp [ha, hc]

section Used

variable {v : Reach} {p : Point} (hr : s.reach? reach = some v) (ho : s.ownerServes owner)
  (hp : s.point? n = some p)

include hr ho hp

theorem State.pointRefused_enabled (hm : p.moves k reach owner = true) (hd : p.mode ≠ .disabled) :
    s.pointRefused n k reach owner rated = some .wrongState := by
  rw [State.pointRefused_used hr ho hp, if_pos ⟨hm, hd⟩]

theorem State.pointRefused_live (hm : p.moves k reach owner = true) (hd : p.mode = .disabled)
    (hl : s.liveAt n = true) : s.pointRefused n k reach owner rated = some .inUse := by
  rw [State.pointRefused_used hr ho hp, if_neg (fun h => h.2 hd), if_pos ⟨hm, hl⟩]

theorem State.pointRefused_above
    (hs : ¬(p.moves k reach owner = true ∧ (p.mode ≠ .disabled ∨ s.liveAt n = true)))
    (hk : k = .turnout) (ha : s.liveAbove n rated = true) :
    s.pointRefused n k reach owner rated = some .inUse := by
  rw [State.pointRefused_used hr ho hp, if_neg (fun h => hs ⟨h.1, Or.inl h.2⟩),
    if_neg (fun h => hs ⟨h.1, Or.inr h.2⟩), if_pos ⟨hk, ha⟩]

theorem State.pointRefused_otherCheck {m : Nat}
    (hs : ¬(p.moves k reach owner = true ∧ (p.mode ≠ .disabled ∨ s.liveAt n = true)))
    (hk : k = .check) (hv : v.check = some m) (hm : m ≠ n) :
    s.pointRefused n k reach owner rated = some .inUse := by
  rw [State.pointRefused_used hr ho hp, if_neg (fun h => hs ⟨h.1, Or.inl h.2⟩),
    if_neg (fun h => hs ⟨h.1, Or.inr h.2⟩)]
  simp [hk, hv, hm]

end Used

end Refused

end Sys2Proof.Machine
end

section
/-! POINT_SET as a request: the answers of R8, the removal of R9, the creation and the updates of R7, R9 and
R11. -/

namespace Sys2Proof.Machine

/-! ### The ways through the request -/

/-- The kind byte of a request and what it gives a point: a TURNOUT with its account, or a CHECK with none. -/
def GivesKind (kind account : Nat) (k : PointKind) (owner : Option Nat) : Prop :=
  kind = 1 ∧ k = .turnout ∧ owner = some account ∨ kind = 2 ∧ k = .check ∧ owner = none

theorem givesKind_of_byte {kind : Nat} (account : Nat) (h0 : 0 < kind) (h2 : kind ≤ 2) :
    GivesKind kind account (if kind = 1 then .turnout else .check)
      (if kind = 1 then some account else none) := by
  obtain rfl | rfl : kind = 1 ∨ kind = 2 := by omega
  · exact Or.inl ⟨rfl, rfl, rfl⟩
  · exact Or.inr ⟨rfl, rfl, rfl⟩

section Request

variable {s : State} {n kind reach account rated frost mantissa shift : Nat}

theorem reqPointSet_badRange (h : badPointRange n kind reach account rated frost mantissa shift = true) :
    reqPointSet n kind reach account rated frost mantissa shift s = (s, refusal .badParam) :=
  if_pos h

theorem reqPointSet_clears (h : badPointRange n 0 reach account rated frost mantissa shift = false) :
    reqPointSet n 0 reach account rated frost mantissa shift s = s.clearPoint n := by
  simp [reqPointSet, h]

theorem reqPointSet_gives {k : PointKind} {owner : Option Nat} (hk : GivesKind kind account k owner)
    (h : badPointRange n kind reach account rated frost mantissa shift = false) :
    reqPointSet n kind reach account rated frost mantissa shift s =
      s.givePoint n k reach owner rated frost { mantissa := mantissa, shift := shift } := by
  obtain ⟨rfl, rfl, rfl⟩ | ⟨rfl, rfl, rfl⟩ := hk <;> simp [reqPointSet, h]

theorem reqPointSet_completes {t : State} {a : Reply}
    (hh : s.handed (.pointSet n kind reach account rated frost mantissa shift) = true)
    (he : reqPointSet n kind reach account rated frost mantissa shift s = (t, a)) :
    Completes (.pointSet n kind reach account rated frost mantissa shift) s t a := by
  have hf := reqPointSet_fixed s n kind reach account rated frost mantissa shift
  rw [he] at hf
  obtain ⟨-, -, hport, -⟩ := State.fixed_fields hf
  exact completes_of_handed rfl hh he (congrArg Port.command hport)

end Request

section Give

variable {s : State} {n reach rated frost : Nat} {k : PointKind} {owner : Option Nat} {c : Calibration}

theorem State.givePoint_refused {r : Result} (h : s.pointRefused n k reach owner rated = some r) :
    s.givePoint n k reach owner rated frost c = (s, refusal r) := by
  simp [State.givePoint, h]

/-- A point that is UNUSED or of the other kind is created. -/
theorem State.givePoint_creates (h : s.pointRefused n k reach owner rated = none)
    (hp : ∀ p, s.point? n = some p → p.kind ≠ k) :
    s.givePoint n k reach owner rated frost c =
      ((s.createPoint n (s.point? n)
        (Point.created k reach owner rated frost c s.cal.clock)).arbitrate, doneReply) := by
  unfold State.givePoint
  rw [h]
  cases hn : s.point? n with
  | none => rfl
  | some p => exact if_neg (hp p hn)

/-- A point that keeps its kind is updated. -/
theorem State.givePoint_updates {p : Point} (h : s.pointRefused n k reach owner rated = none)
    (hp : s.point? n = some p) (hk : p.kind = k) :
    s.givePoint n k reach owner rated frost c =
      ((s.updatePoint n p reach owner rated frost c).arbitrate, doneReply) := by
  unfold State.givePoint
  rw [h, hp]
  exact if_pos hk

end Give

section Clear

variable {s : State} {n : Nat} {p : Point}

theorem State.clearPoint_unused (hp : s.point? n = none) : s.clearPoint n = (s, doneReply) := by
  simp [State.clearPoint, hp]

theorem State.clearPoint_enabled (hp : s.point? n = some p) (hm : p.mode ≠ .disabled) :
    s.clearPoint n = (s, refusal .wrongState) := by
  simp [State.clearPoint, hp, hm]

theorem State.clearPoint_live (hp : s.point? n = some p) (hm : p.mode = .disabled)
    (hl : s.liveAt n = true) : s.clearPoint n = (s, refusal .inUse) := by
  simp [State.clearPoint, hp, hm, hl]

theorem State.clearPoint_removes (hp : s.point? n = some p) (hm : p.mode = .disabled)
    (hl : s.liveAt n = false) : s.clearPoint n = ((s.removePoint n p).arbitrate, doneReply) := by
  simp [State.clearPoint, hp, hm, hl]

end Clear

/-- Settles O20: each refusal is one equation of pointRefused or clearPoint, and what a removal writes is
read off the removePoint lemmas. -/
theorem pointSetChecksAndRemoves : Obligations.PointSetChecksAndRemoves := by
  intro s n kind reach account rated frost mantissa shift hh c badRange live
  have hrange : badPointRange n kind reach account rated frost mantissa shift = true ↔ badRange :=
    badPointRange_iff n kind reach account rated frost mantissa shift
  have hin : ¬badRange → badPointRange n kind reach account rated frost mantissa shift = false :=
    fun hb => eq_false_of_ne_true (mt hrange.1 hb)
  have hlive : s.liveAt n = true ↔ live := s.liveAt_iff n
  have clears : ¬badRange → kind = 0 → ∀ {t a}, s.clearPoint n = (t, a) → Completes c s t a := by
    rintro hb rfl t a he
    exact reqPointSet_completes hh ((reqPointSet_clears (hin hb)).trans he)
  have refuses : ¬badRange → ∀ {k owner r}, GivesKind kind account k owner →
      s.pointRefused n k reach owner rated = some r → Refuses c s r := by
    intro hb k owner r hk hr
    exact reqPointSet_completes hh ((reqPointSet_gives hk (hin hb)).trans (State.givePoint_refused hr))
  refine ⟨?range, ?unused, ?removed, ?noReach, ?noAccount, ?closed, ?inUse⟩
  case range => exact fun hb => reqPointSet_completes hh (reqPointSet_badRange (hrange.2 hb))
  case unused => exact fun hb h0 hp => clears hb h0 (State.clearPoint_unused hp)
  case removed =>
    intro hb h0 p hp
    refine ⟨fun hm => clears hb h0 (State.clearPoint_enabled hp hm),
      fun hm hl => clears hb h0 (State.clearPoint_live hp hm (hlive.2 hl)), fun hm hl =>
      ⟨s.removePoint n p,
        clears hb h0 (State.clearPoint_removes hp hm (eq_false_of_ne_true (mt hlive.1 hl))),
        s.removePoint_frame n p, s.removePoint_point? n p, s.removePoint_reach? n p,
        fun a => State.removePoint_station_other, ?_, ?_, ?_, ?_, ?_, ?_⟩⟩
    · rw [State.removePoint_line, Line.dropPoint_eq]
    · rw [State.removePoint_line, Line.dropPoint_eq]
    · exact (s.removePoint_transaction n p).trans
        (congrArg Line.transaction (s.line.dropPoint_eq n))
    · exact fun he hpoll => (State.removePoint_station_unused he).trans (if_pos hpoll)
    · exact fun he hpoll => (State.removePoint_station_used he).trans (if_pos hpoll)
    · intro he
      refine (congrArg Station.polled (State.removePoint_station_unused he)).trans ?_
      cases hpoll : (s.station (stationOf n)).polled <;> simp [Station.leave, hpoll]
  case noReach =>
    intro hb h0 hr
    have h2 : kind ≤ 2 := by
      by_contra hlt
      exact hb (Or.inr (Or.inl (by omega)))
    exact refuses hb (givesKind_of_byte account h0 h2) (State.pointRefused_noReach hr)
  case noAccount =>
    exact fun hb h1 hr ha => refuses hb (Or.inl ⟨h1, rfl, rfl⟩) (State.pointRefused_noAccount hr ha)
  case closed =>
    exact fun hb h1 hr a ha hc =>
      refuses hb (Or.inl ⟨h1, rfl, rfl⟩) (State.pointRefused_closed hr ha hc)
  case inUse =>
    intro hb h0 v hr hacc
    have h2 : kind ≤ 2 := by
      by_contra hlt
      exact hb (Or.inr (Or.inl (by omega)))
    have hk := givesKind_of_byte account h0 h2
    have ho : s.ownerServes (if kind = 1 then some account else none) := by
      intro i hi
      split_ifs at hi with h1
      cases hi
      exact hacc h1
    refine ⟨fun hp hk2 hv => refuses hb hk ?_, ?_⟩
    · rw [State.pointRefused_unused hr ho hp, hk2]
      exact if_pos ⟨rfl, hv⟩
    · intro p hp moves
      have hmoves : p.moves (if kind = 1 then .turnout else .check) reach
          (if kind = 1 then some account else none) = true ↔ moves := p.moves_iff _ _ _
      rw [← hmoves, ← hlive]
      refine ⟨fun hm hd => refuses hb hk (State.pointRefused_enabled hr ho hp hm hd),
        fun hm hd hl => refuses hb hk (State.pointRefused_live hr ho hp hm hd hl),
        fun hs h1 ha => refuses hb hk (State.pointRefused_above hr ho hp hs (if_pos h1)
          ((s.liveAbove_iff n rated).2 ha)), ?_⟩
      rintro hs h2 ⟨m, hv, hm⟩
      exact refuses hb hk (State.pointRefused_otherCheck hr ho hp hs (if_neg (by omega)) hv hm)

/-! ### A point that keeps its kind (R9, R11) -/

/-- A calibration is active at once on a DISABLED point, and staged on another unless it is the active one. -/
theorem Point.calibrate_eq (c : Calibration) (p : Point) :
    p.calibrate c =
      if p.mode = .disabled then p.activate c
      else { p with staged := if c = p.active then none else some c } := by
  unfold Point.calibrate
  cases hm : p.mode <;> simp

section Update

variable {s : State} {n : Nat} {p : Point} (reach : Nat) (owner : Option Nat) (rated frost : Nat)
  (c : Calibration)

theorem State.updatePoint_turnout (h : p.kind = .turnout) :
    s.updatePoint n p reach owner rated frost c =
      (let s1 := s.setPoint n (Point.calibrate c
        { p with reach := reach, account := owner, rated := rated, frostRate := frost })
       if p.mode = .auto ∧ p.backup.isSome = true ∧ frost ≠ p.frostRate then
         (s1.retarget n).refreshPath reach
       else s1) := by
  simp [State.updatePoint, h]

theorem State.updatePoint_check (h : p.kind = .check) :
    s.updatePoint n p reach owner rated frost c =
      (let s1 := s.placedPoint n (some p)
        { p with reach := reach, account := owner, rated := rated, frostRate := frost }
       if rated = p.rated then s1 else s1.recheck n) := by
  simp [State.updatePoint, State.placedPoint, h]

end Update

/-- Settles O21: a point that is created is read off the createPoint lemmas, one that keeps its kind off those of
updatePoint. -/
theorem pointSetCreatesOrUpdates : Obligations.PointSetCreatesOrUpdates := by
  intro s n kind reach account rated frost mantissa shift k owner cal hh hb hk hcal hr c meterState
  have gives : ∀ {t}, s.givePoint n k reach owner rated frost cal = (t, doneReply) →
      Completes c s t doneReply := by
    rintro t he
    subst hcal
    exact reqPointSet_completes hh ((reqPointSet_gives hk hb).trans he)
  refine ⟨?created, ?turnout, ?check⟩
  case created =>
    intro hp
    refine ⟨_, gives (State.givePoint_creates hr hp), s.createPoint_frame n _ _, fun m => ?_,
      s.createPoint_reach? n _ _, ?_, ?_, ?_, fun a => s.createPoint_station_other _ _⟩
    · rw [State.createPoint_point?, hcal]
      rfl
    · refine (congrArg Station.polled (s.createPoint_station n _ _)).trans ?_
      cases hpoll : (s.station (stationOf n)).polled <;> simp [Station.enter, hpoll]
    · exact fun hpoll => (s.createPoint_station n _ _).trans (if_pos hpoll)
    · exact fun hpoll => (s.createPoint_station n _ _).trans (if_neg (ne_true_of_eq_false hpoll))
  case turnout =>
    intro p hp hpk hkk moved q s1 s2
    have hq : Point.calibrate cal moved = q := by
      subst hcal
      exact Point.calibrate_eq _ moved
    have he : s.updatePoint n p reach owner rated frost cal = s2 := by
      rw [State.updatePoint_turnout reach owner rated frost cal hpk]
      change (let s1 := s.setPoint n (Point.calibrate cal moved); _) = s2
      rw [hq]
    exact gives ((State.givePoint_updates hr hp (hpk.trans hkk.symm)).trans (by rw [he]))
  case check =>
    intro p hp hpk hkk
    refine ⟨s.placedPoint n (some p)
        { p with reach := reach, account := owner, rated := rated, frostRate := frost }, ?_,
      s.placedPoint_point? n _ _, fun j => ?_, gives ?_⟩
    · rw [State.placedPoint_points]
      exact s.placedPoint_frame n _ _
    · rw [State.placedPoint_reach?]
      simp [hpk, eq_comm (a := j)]
    · rw [State.givePoint_updates hr hp (hpk.trans hkk.symm),
        State.updatePoint_check reach owner rated frost cal hpk]

end Sys2Proof.Machine
end

section
/-! Requests at large: what the arm of a request does (R194), what every request keeps, and that a refusal
changes nothing (R1). -/

namespace Sys2Proof.Machine

/-! ### The arm of a request -/

/-- A parsed request is one of the catalogue. -/
theorem requestBytes_of_parseRequest {code : Nat} {p : List Byte} {c : Instr}
    (h : parseRequest code p = some c) : (requestBytes c).isSome = true := by
  unfold parseRequest at h
  split at h <;> cases h <;> rfl

/-- What has been handed over to an owning block is a request. -/
theorem State.requestBytes_of_handed {s : State} {c : Instr} (h : s.handed c = true) :
    (requestBytes c).isSome = true := by
  obtain ⟨-, -, -, f, -, hf⟩ := (s.handed_iff c).1 h
  exact requestBytes_of_parseRequest hf

/-- The command is a PLACE. -/
def isPlace : Instr → Bool
  | .place .. => true
  | _ => false

/-- A request other than PLACE and SOFT_RESET is taken by its owning block, which answers at once. -/
theorem exec_of_request {c : Instr} (hc : (requestBytes c).isSome = true) (hp : isPlace c = false)
    (hs : c ≠ .softReset) : ∃ act, (∀ s, exec c s = s.takeRequest c act) ∧
      ∀ s, runRequest c s = ((act s).1, some (act s).2) := by
  cases c
  case place => cases hp
  case softReset => exact absurd rfl hs
  all_goals cases hc
  all_goals exact ⟨_, fun _ => rfl, fun _ => rfl⟩

/-- The queue, and the command in the buffer. -/
def State.queueAndCommand (s : State) : List Instr × Option Frame := (s.pending, s.port.command)

theorem State.queueAndCommand_of_fixed {s t : State} (h : t.fixed = s.fixed) :
    t.queueAndCommand = s.queueAndCommand := by
  obtain ⟨-, -, hport, -, -, -, hpending⟩ := State.fixed_fields h
  rw [State.queueAndCommand, hport, hpending]
  rfl

/-- The owning block of a request keeps the queue and the command in the buffer: the six requests that write a
fixed record write the tariffs, the settings, the Fault Unit or the attention mask. -/
theorem runRequest_queueAndCommand (c : Instr) (s : State) :
    (runRequest c s).1.queueAndCommand = s.queueAndCommand := by
  cases c
  case tariffSet cls b1 b2 b3 r0 r1 r2 r3 u f =>
    change (reqTariffSet cls b1 b2 b3 r0 r1 r2 r3 u f s).1.queueAndCommand = _
    unfold reqTariffSet
    split <;> rfl
  case districtSet => rfl
  case errorClear v =>
    change (reqErrorClear v s).1.queueAndCommand = _
    unfold reqErrorClear
    split <;> rfl
  case severitySet k v =>
    change (reqSeveritySet k v s).1.queueAndCommand = _
    unfold reqSeveritySet
    split <;> rfl
  case countSelect k =>
    change (reqCountSelect k s).1.queueAndCommand = _
    unfold reqCountSelect
    split <;> rfl
  case attentionMask => rfl
  all_goals exact State.queueAndCommand_of_fixed (by simp [runRequest])

end Sys2Proof.Machine
end

section
/-! A refused request leaves every record as it was (R1): request by request, the ways that answer a refusal
hand the state back. -/

namespace Sys2Proof.Machine

/-- What an owning block makes of a state: when it answers a refusal, it hands the state back as it was. -/
def RefusesWhole (s : State) (r : State × Reply) : Prop := 16 ≤ r.2.result.code → r.1 = s

section

variable {s t : State} {a : Reply} {d : List Byte}

@[simp] theorem RefusesWhole.self : RefusesWhole s (s, a) := fun _ => rfl

theorem RefusesWhole.succeeds (h : a.result.code < 16) : RefusesWhole s (t, a) :=
  fun hr => absurd hr (Nat.not_le.2 h)

@[simp] theorem RefusesWhole.done : RefusesWhole s (t, answer .done d) :=
  .succeeds (show Result.done.code < 16 by decide)

@[simp] theorem RefusesWhole.accepted {w : Sweep} : RefusesWhole s (t, w.accepted d) :=
  .succeeds (show Result.accepted.code < 16 by decide)

@[simp] theorem RefusesWhole.nothing : RefusesWhole s (t, answer .nothing d) :=
  .succeeds (show Result.nothing.code < 16 by decide)

theorem RefusesWhole.ite {p : Prop} [Decidable p] {x y : State × Reply} (hx : RefusesWhole s x)
    (hy : RefusesWhole s y) : RefusesWhole s (if p then x else y) := by
  split
  · exact hx
  · exact hy

end

/-! ### Tables (chapter 1) -/

@[simp] theorem State.configureReach_refusesWhole (s : State) (r : Nat) (p : Option Nat) (c l : Nat) :
    RefusesWhole s (s.configureReach r p c l) := by
  refine .ite .self (.ite .self (.ite .self ?_))
  cases s.reach? r with
  | none => exact .done
  | some old => exact .ite .self .done

@[simp] theorem State.unconfigureReach_refusesWhole (s : State) (r : Nat) :
    RefusesWhole s (s.unconfigureReach r) :=
  .ite .self (.ite .self (.ite .self .done))

@[simp] theorem reqReachSet_refusesWhole (s : State) (a r : Nat) (p : Option Nat) (c l : Nat) :
    RefusesWhole s (reqReachSet a r p c l s) := by
  unfold reqReachSet
  split <;> simp

@[simp] theorem reqReachQuery_refusesWhole (s : State) (r : Nat) :
    RefusesWhole s (reqReachQuery r s) := by
  rw [reqReachQuery_eq]
  exact .self

@[simp] theorem State.givePoint_refusesWhole (s : State) (n : Nat) (k : PointKind) (r : Nat)
    (a : Option Nat) (f g : Nat) (c : Calibration) : RefusesWhole s (s.givePoint n k r a f g c) := by
  unfold State.givePoint
  cases s.pointRefused n k r a f with
  | some e => exact .self
  | none =>
    cases s.point? n with
    | none => exact .done
    | some p => exact .ite .done .done

@[simp] theorem State.clearPoint_refusesWhole (s : State) (n : Nat) :
    RefusesWhole s (s.clearPoint n) := by
  unfold State.clearPoint
  cases s.point? n with
  | none => exact .self
  | some p => exact .ite .self (.ite .self .done)

@[simp] theorem reqPointSet_refusesWhole (s : State) (n k r a f g m h : Nat) :
    RefusesWhole s (reqPointSet n k r a f g m h s) := by
  refine .ite .self ?_
  split <;> simp

@[simp] theorem reqPointQuery_refusesWhole (s : State) (n : Nat) :
    RefusesWhole s (reqPointQuery n s) := by
  rw [reqPointQuery_eq]
  exact .self

@[simp] theorem reqAccountSet_refusesWhole (s : State) (a c b : Nat) :
    RefusesWhole s (reqAccountSet a c b s) := by
  refine .ite .self ?_
  cases s.account? a with
  | none => exact .done
  | some v => exact .ite .done .done

@[simp] theorem reqAccountQuery_refusesWhole (s : State) (n part : Nat) :
    RefusesWhole s (reqAccountQuery n part s) := by
  rw [reqAccountQuery_eq]
  exact .self

@[simp] theorem reqAccountSuspend_refusesWhole (s : State) (a : Nat) :
    RefusesWhole s (reqAccountSuspend a s) := by
  refine .ite .self ?_
  cases s.account? a with
  | none => exact .self
  | some v => exact .ite .done .self

@[simp] theorem reqAccountResume_refusesWhole (s : State) (a : Nat) :
    RefusesWhole s (reqAccountResume a s) := by
  refine .ite .self ?_
  cases s.account? a with
  | none => exact .self
  | some v => exact .ite .done .self

@[simp] theorem reqAccountClose_refusesWhole (s : State) (a : Nat) :
    RefusesWhole s (reqAccountClose a s) := by
  refine .ite .self ?_
  cases s.account? a with
  | none => exact .self
  | some v => exact .ite .self (.ite .self .done)

@[simp] theorem reqTariffSet_refusesWhole (s : State) (c b1 b2 b3 r0 r1 r2 r3 u f : Nat) :
    RefusesWhole s (reqTariffSet c b1 b2 b3 r0 r1 r2 r3 u f s) :=
  .ite .self .done

@[simp] theorem reqTariffQuery_refusesWhole (s : State) (c : Nat) :
    RefusesWhole s (reqTariffQuery c s) :=
  .ite .self .self

@[simp] theorem reqDistrictSet_refusesWhole (s : State) (l d b t p : Nat) :
    RefusesWhole s (reqDistrictSet l d b t p s) :=
  .done

@[simp] theorem reqDistrictQuery_refusesWhole (s : State) : RefusesWhole s (reqDistrictQuery s) :=
  .self

/-! ### The calendar (chapter 2) -/

@[simp] theorem reqClockSet_refusesWhole (s : State) (m : Nat) : RefusesWhole s (reqClockSet m s) :=
  .ite .self (.ite .self .done)

@[simp] theorem reqClockQuery_refusesWhole (s : State) : RefusesWhole s (reqClockQuery s) := .self

@[simp] theorem reqCapacityQuery_refusesWhole (s : State) (r f c : Nat) :
    RefusesWhole s (reqCapacityQuery r f c s) :=
  .ite .self (.ite .self (.ite .self .self))

@[simp] theorem State.writeSupplies_refusesWhole (s : State) (f c w : Nat) :
    RefusesWhole s (s.writeSupplies f c w) := by
  unfold State.writeSupplies
  refine .succeeds ?_
  split
  · exact show Result.done.code < 16 by decide
  · exact show Result.accepted.code < 16 by decide

@[simp] theorem reqSupplySet_refusesWhole (s : State) (f c w : Nat) :
    RefusesWhole s (reqSupplySet f c w s) :=
  .ite .self (.ite .self (.ite .self (s.writeSupplies_refusesWhole f c w)))

/-! ### Orders (chapters 3 and 4) -/

/-- An order request that is refused hands back the state it was given. -/
@[simp] theorem State.settle_refusesWhole (s : State) (r : State × Reply) :
    RefusesWhole s (s.settle r) := by
  unfold State.settle
  split
  · exact .self
  · next h => exact fun hr => absurd (decide_eq_true hr) h

@[simp] theorem reqAmend_refusesWhole (s : State) (h : Nat) (f e : Option Nat) :
    RefusesWhole s (reqAmend h f e s) :=
  s.settle_refusesWhole _

@[simp] theorem reqCancel_refusesWhole (s : State) (c r o : Nat) :
    RefusesWhole s (reqCancel c r o s) :=
  s.settle_refusesWhole _

@[simp] theorem reqOrderQuery_refusesWhole (s : State) (h : Nat) :
    RefusesWhole s (reqOrderQuery h s) := by
  rw [reqOrderQuery_eq]
  exact .self

@[simp] theorem reqRetire_refusesWhole (s : State) (h : Nat) : RefusesWhole s (reqRetire h s) := by
  unfold reqRetire
  cases s.obk.named? h with
  | none => exact .self
  | some e => exact .ite .self .done

@[simp] theorem reqNextChanged_refusesWhole (s : State) : RefusesWhole s (reqNextChanged s) := by
  unfold reqNextChanged
  cases s.obk.marks with
  | nil => exact .self
  | cons i rest =>
    dsimp only
    cases cell? s.obk.orders i with
    | none => exact .nothing
    | some o => exact .done

@[simp] theorem reqWaitlistQuery_refusesWhole (s : State) (k : Nat) :
    RefusesWhole s (reqWaitlistQuery k s) :=
  .ite .self .self

@[simp] theorem reqStandingSet_refusesWhole (s : State) (x p o d f c : Nat) (n : Option Nat) :
    RefusesWhole s (reqStandingSet x p o d f c n s) := by
  refine .ite .self ?_
  cases s.turnout? p with
  | none => exact .self
  | some v =>
    dsimp only
    cases s.openAccount? v with
    | none => exact .self
    | some a => exact .done

@[simp] theorem reqStandingResume_refusesWhole (s : State) (x : Nat) :
    RefusesWhole s (reqStandingResume x s) := by
  refine .ite .self ?_
  cases cell? s.obk.templates x with
  | none => exact .self
  | some t => exact .ite .done .self

@[simp] theorem reqStandingClear_refusesWhole (s : State) (x : Nat) :
    RefusesWhole s (reqStandingClear x s) :=
  .ite .self .done

@[simp] theorem reqStandingQuery_refusesWhole (s : State) (x : Nat) :
    RefusesWhole s (reqStandingQuery x s) :=
  .ite .self .self

/-! ### Release control, the field line and meters (chapters 5 to 7) -/

@[simp] theorem reqPointEnable_refusesWhole (s : State) (n : Nat) :
    RefusesWhole s (reqPointEnable n s) := by
  refine .ite .self ?_
  cases s.point? n with
  | none => exact .self
  | some p => exact .ite .self .done

@[simp] theorem reqPointDisable_refusesWhole (s : State) (n a : Nat) :
    RefusesWhole s (reqPointDisable n a s) := by
  refine .ite .self ?_
  cases s.point? n with
  | none => exact .self
  | some p => exact .done

@[simp] theorem reqLocalAck_refusesWhole (s : State) (n : Nat) : RefusesWhole s (reqLocalAck n s) := by
  refine .ite .self ?_
  cases s.point? n with
  | none => exact .self
  | some p => exact .ite .self .done

@[simp] theorem reqFrostCall_refusesWhole (s : State) (c r : Nat) :
    RefusesWhole s (reqFrostCall c r s) :=
  .ite .self (.ite .self .done)

@[simp] theorem reqFrostEnd_refusesWhole (s : State) (c r : Nat) :
    RefusesWhole s (reqFrostEnd c r s) :=
  .ite .self (.ite .self .done)

@[simp] theorem reqFieldStart_refusesWhole (s : State) : RefusesWhole s (reqFieldStart s) := by
  unfold reqFieldStart
  cases s.line.mode with
  | stopped => exact .done
  | run => exact .self
  | hold => exact .self

@[simp] theorem reqFieldStop_refusesWhole (s : State) : RefusesWhole s (reqFieldStop s) := by
  unfold reqFieldStop
  cases s.line.mode <;> exact .done

@[simp] theorem reqResume_refusesWhole (s : State) : RefusesWhole s (reqResume s) := by
  unfold reqResume
  cases s.line.mode with
  | stopped => exact .self
  | run => exact .self
  | hold => exact .ite .self .done

@[simp] theorem reqStationQuery_refusesWhole (s : State) (a : Nat) :
    RefusesWhole s (reqStationQuery a s) :=
  .ite .self .self

@[simp] theorem reqMeterRebase_refusesWhole (s : State) (n : Nat) :
    RefusesWhole s (reqMeterRebase n s) := by
  refine .ite .self ?_
  cases s.point? n with
  | none => exact .self
  | some p => exact .ite .self .done

@[simp] theorem reqMeterQuery_refusesWhole (s : State) (n : Nat) :
    RefusesWhole s (reqMeterQuery n s) := by
  rw [reqMeterQuery_eq]
  exact .self

/-! ### Accounts and sweeps (chapters 8 and 9) -/

@[simp] theorem reqTransfer_refusesWhole (s : State) (g t v : Nat) :
    RefusesWhole s (reqTransfer g t v s) := by
  refine .ite .self ?_
  split
  · exact .ite .self (.ite .self (.ite .self .done))
  · exact .self

@[simp] theorem State.closeAccountPeriod_refusesWhole (s : State) (a : Nat) :
    RefusesWhole s (s.closeAccountPeriod a) := by
  refine .ite .self (.ite .self ?_)
  cases s.account? a with
  | none => exact .self
  | some v => exact .done

@[simp] theorem State.closeScopePeriod_refusesWhole (s : State) (sc : Scope) :
    RefusesWhole s (s.closeScopePeriod sc) :=
  .ite .self .accepted

@[simp] theorem reqPeriodClose_refusesWhole (s : State) (c r : Nat) :
    RefusesWhole s (reqPeriodClose c r s) := by
  unfold reqPeriodClose
  split
  · simp
  · exact .ite .self (s.closeScopePeriod_refusesWhole _)
  · simp
  · simp

@[simp] theorem reqSeasonOpen_refusesWhole (s : State) : RefusesWhole s (reqSeasonOpen s) :=
  .ite .self (.ite .self .accepted)

@[simp] theorem reqStatementQuery_refusesWhole (s : State) (n : Nat) :
    RefusesWhole s (reqStatementQuery n s) := by
  rw [reqStatementQuery_eq]
  exact .self

@[simp] theorem reqNextAccountChanged_refusesWhole (s : State) :
    RefusesWhole s (reqNextAccountChanged s) := by
  unfold reqNextAccountChanged
  cases s.marked with
  | nil => exact .self
  | cons e rest => exact .done

@[simp] theorem reqCurtail_refusesWhole (s : State) (c k b z q d : Nat) :
    RefusesWhole s (reqCurtail c k b z q d s) := by
  unfold reqCurtail
  cases Drain.ofCode? d with
  | none => exact .self
  | some v =>
    refine .ite .self (.ite .self ?_)
    dsimp only
    split
    · exact .self
    · exact .accepted

@[simp] theorem reqSweepQuery_refusesWhole (s : State) : RefusesWhole s (reqSweepQuery s) := .done

/-! ### Faults and attention (chapter 10) -/

@[simp] theorem reqErrorQuery_refusesWhole (s : State) : RefusesWhole s (reqErrorQuery s) := .self

@[simp] theorem reqErrorClear_refusesWhole (s : State) (v : Nat) :
    RefusesWhole s (reqErrorClear v s) :=
  .ite .self .done

@[simp] theorem reqSeveritySet_refusesWhole (s : State) (k v : Nat) :
    RefusesWhole s (reqSeveritySet k v s) :=
  .ite .self .done

@[simp] theorem reqCountSelect_refusesWhole (s : State) (k : Option Nat) :
    RefusesWhole s (reqCountSelect k s) :=
  .ite .self .done

@[simp] theorem reqAttentionQuery_refusesWhole (s : State) : RefusesWhole s (reqAttentionQuery s) :=
  .self

@[simp] theorem reqAttentionMask_refusesWhole (s : State) (a b d e : Nat) :
    RefusesWhole s (reqAttentionMask a b d e s) :=
  .done

/-! ### Every request other than PLACE -/

theorem runRequest_refusesWhole {c : Instr} {s : State} {a : Reply} (hp : isPlace c = false)
    (h : (runRequest c s).2 = some a) : RefusesWhole s ((runRequest c s).1, a) := by
  cases c
  case place => cases hp
  all_goals cases h
  all_goals simp [runRequest]

/-! ### PLACE (R45 to R50) -/

/-- One event of a PLACE or a firing: a refusal hands the state back, and what is created is answered with a
result that is no refusal. -/
def PlacedWhole (s : State) (r : State × Placed) : Prop :=
  match r.2 with
  | .created c _ => c.code < 16
  | .refused _ => r.1 = s
  | .searching _ => True

theorem PlacedWhole.refused {s : State} {a : Reply} : PlacedWhole s (s, .refused a) := rfl

theorem PlacedWhole.ite {s : State} {p : Prop} [Decidable p] {x y : State × Placed}
    (hx : PlacedWhole s x) (hy : PlacedWhole s y) : PlacedWhole s (if p then x else y) := by
  split
  · exact hx
  · exact hy

theorem State.admitOrder_placedWhole (s : State) (q : Ask) (a b d : Nat) (c : Calendar) {r : Result}
    (h : r.code < 16) : PlacedWhole s (s.admitOrder q a b d c r) := by
  unfold State.admitOrder
  cases s.obk.freeEntry with
  | none => exact .refused
  | some i => exact h

theorem State.slideTries_placedWhole (s : State) (q : Ask) (a b : Nat) (e : Reply) (n k : Nat) :
    PlacedWhole s (s.slideTries q a b e n k) := by
  induction n generalizing k with
  | zero =>
    unfold State.slideTries
    exact .ite .refused trivial
  | succ n ih =>
    unfold State.slideTries
    refine .ite .refused (.ite .refused (.ite (ih _) ?_))
    cases s.tryWindow q.point a b (q.start + k) q.duration q.flow none with
    | ok c => exact s.admitOrder_placedWhole q _ _ _ c (by decide)
    | error r => exact .ite .refused (ih _)

theorem State.queueOrder_placedWhole (s : State) (q : Ask) (a : Nat) :
    PlacedWhole s (s.queueOrder q a) := by
  unfold State.queueOrder
  cases s.obk.freeEntry with
  | none => exact .refused
  | some i => exact .ite (show Result.queued.code < 16 by decide) .refused

theorem State.placeFirst_placedWhole (s : State) (q : Ask) (n : Nat) :
    PlacedWhole s (s.placeFirst q n) := by
  unfold State.placeFirst
  cases s.placeRefused q with
  | some r => exact .refused
  | none =>
    dsimp only
    cases s.turnout? q.point with
    | none => exact .refused
    | some p =>
      refine .ite .refused (.ite .refused ?_)
      cases s.tryWindow q.point p.reach (p.account.getD 0) q.start q.duration q.flow none with
      | ok c => exact s.admitOrder_placedWhole q _ _ _ c (by decide)
      | error r =>
        dsimp only
        split
        · exact .ite (s.slideTries_placedWhole q _ _ r n 1) .refused
        · exact s.slideTries_placedWhole q _ _ r n 1
        · exact s.queueOrder_placedWhole q _
        · exact .refused

theorem State.placeNext_placedWhole (s : State) (q : Ask) (n : Nat) (w : Search) :
    PlacedWhole s (s.placeNext q n w) := by
  unfold State.placeNext
  cases s.placeRefused q with
  | some r => exact .refused
  | none =>
    dsimp only
    cases s.turnout? q.point with
    | none => exact .refused
    | some p => exact s.slideTries_placedWhole q _ _ _ n _

/-- What a PLACE that created an order answers is no refusal when its result is none. -/
theorem State.createdReply_code {r : Result} (h : Nat) (s : State) (hr : r.code < 16) :
    (s.createdReply r h).result.code < 16 := by
  unfold State.createdReply
  split <;> exact hr

/-- What an event of a PLACE comes to: its answer with no search going on, or the search that goes on. -/
def eventOf (r : State × Placed) : State × Option Reply :=
  match r.2 with
  | .created c h => ({ r.1 with obk.search := none }, some (r.1.createdReply c h))
  | .refused a => ({ r.1 with obk.search := none }, some a)
  | .searching w => ({ r.1 with obk.search := some w }, none)

theorem placeEvent_first {s : State} (q : Ask) (n : Nat) (h : s.obk.search = none) :
    placeEvent q n s = eventOf (s.placeFirst q n) := by
  unfold placeEvent
  rw [h]
  rfl

theorem placeEvent_next {s : State} {w : Search} (q : Ask) (n : Nat) (h : s.obk.search = some w) :
    placeEvent q n s = eventOf (s.placeNext q n w) := by
  unfold placeEvent
  rw [h]
  rfl

/-- An event that answers a refusal changes nothing but the search, which is over. -/
theorem PlacedWhole.eventOf {s : State} {r : State × Placed} {a : Reply} (hw : PlacedWhole s r)
    (h : (eventOf r).2 = some a) (hr : 16 ≤ a.result.code) :
    (eventOf r).1 = { s with obk.search := none } := by
  obtain ⟨t, p⟩ := r
  cases p with
  | created c k =>
    cases h
    exact absurd hr (Nat.not_le.2 (t.createdReply_code k hw))
  | refused b =>
    obtain rfl : t = s := hw
    rfl
  | searching w => cases h

theorem placeEvent_refused {q : Ask} {n : Nat} {s : State} {a : Reply}
    (h : (placeEvent q n s).2 = some a) (hr : 16 ≤ a.result.code) :
    (placeEvent q n s).1 = { s with obk.search := none } := by
  cases hs : s.obk.search with
  | none =>
    rw [placeEvent_first q n hs] at h ⊢
    exact (s.placeFirst_placedWhole q n).eventOf h hr
  | some w =>
    rw [placeEvent_next q n hs] at h ⊢
    exact (s.placeNext_placedWhole q n w).eventOf h hr

/-- A PLACE whose on-conflict is one of the three is one event; when that answers a refusal, no search goes
on and nothing else changes. -/
theorem reqPlace_refused {p u d f o l n : Nat} {s : State} {a : Reply} (ho : o ≤ 2)
    (h : (reqPlace p u d f o l n s).2 = some a) (hr : 16 ≤ a.result.code) :
    (reqPlace p u d f o l n s).1 = { s with obk.search := none } := by
  obtain ⟨q, hq⟩ : ∃ q, hostAsk p u d f o l = some q := by
    obtain rfl | rfl | rfl : o = 0 ∨ o = 1 ∨ o = 2 := by omega
    all_goals exact ⟨_, rfl⟩
  unfold reqPlace at h ⊢
  rw [hq] at h ⊢
  cases hb : (placeEvent q n s).2 with
  | none =>
    simp only [hb] at h
    cases h
  | some b =>
    simp only [hb] at h ⊢
    by_cases hd : b.result.refuses = true
    · rw [if_pos hd] at h ⊢
      exact placeEvent_refused h hr
    · rw [if_neg hd] at h
      cases h
      exact absurd (decide_eq_true hr) hd

/-- A PLACE whose on-conflict is none of the three begins no event. -/
theorem reqPlace_noConflict {p u d f o l n : Nat} {s : State} (ho : 2 < o) :
    reqPlace p u d f o l n s = (s, some (refusal .badParam)) := by
  obtain ⟨k, rfl⟩ : ∃ k, o = k + 3 := ⟨o - 3, by omega⟩
  rfl

/-- A PLACE that is handed over and whose slide search goes on has no answer yet. -/
theorem exec_place_searching {p u d f o l n : Nat} {s : State}
    (hh : s.handed (.place p u d f o l 96) = true) (h : (reqPlace p u d f o l n s).2 = none) :
    exec (.place p u d f o l n) s = .next (reqPlace p u d f o l n s).1 := by
  change execPlace p u d f o l n s = _
  simp [execPlace, hh, h]

/-- A PLACE that is handed over and answered completes. -/
theorem exec_place_answered {p u d f o l n : Nat} {s : State} {a : Reply}
    (hh : s.handed (.place p u d f o l 96) = true) (h : (reqPlace p u d f o l n s).2 = some a) :
    exec (.place p u d f o l n) s =
      .next { (reqPlace p u d f o l n s).1 with port := (reqPlace p u d f o l n s).1.port.complete a } := by
  change execPlace p u d f o l n s = _
  simp [execPlace, hh, h]

/-! ### A refused request changes nothing -/

/-- What waits after the command in the buffer has been completed is its block's answer. -/
theorem Port.reply_of_complete {p : Port} {g : Frame} {a : Reply} {r : Response}
    (hg : p.command = some g) (h : (p.complete a).response = some r) : r.reply = a := by
  rw [Port.complete_of_command hg] at h
  cases h
  rfl

theorem exec_refused {c : Instr} {s t : State} {r : Response} (hh : s.handed c = true)
    (hp : isPlace c = false) (hs : c ≠ .softReset) (he : exec c s = .next t)
    (hr : t.port.response = some r) (hcode : 16 ≤ r.reply.result.code) : t = { s with port := t.port } := by
  obtain ⟨act, hact, hrun⟩ := exec_of_request (State.requestBytes_of_handed hh) hp hs
  obtain ⟨-, -, -, g, hg, -⟩ := (s.handed_iff c).1 hh
  rw [hact, State.takeRequest_handed act hh] at he
  cases he
  have hkept := runRequest_queueAndCommand c s
  rw [hrun] at hkept
  have hcmd : (act s).1.port.command = some g := (congrArg Prod.snd hkept).trans hg
  have hreply : r.reply = (act s).2 := Port.reply_of_complete hcmd hr
  have hwhole := runRequest_refusesWhole (s := s) hp (congrArg Prod.snd (hrun s))
  rw [hrun] at hwhole
  have hsame : (act s).1 = s := hwhole (hreply ▸ hcode)
  rw [hsame]

theorem exec_place_refused {p u d f o l n : Nat} {s t : State} {r : Response}
    (hh : s.handed (.place p u d f o l 96) = true) (he : exec (.place p u d f o l n) s = .next t)
    (hr : t.port.response = some r) (hn : s.port.response = none) (hcode : 16 ≤ r.reply.result.code) :
    t = { s with port := t.port, obk.search := t.obk.search } ∧ (o ≤ 2 → t.obk.search = none) := by
  obtain ⟨-, -, -, g, hg, -⟩ := (s.handed_iff _).1 hh
  obtain ⟨-, -, hport, -⟩ := State.fixed_fields (reqPlace_fixed s p u d f o l n)
  cases ha : (reqPlace p u d f o l n s).2 with
  | none =>
    rw [exec_place_searching hh ha] at he
    cases he
    rw [hport, hn] at hr
    cases hr
  | some a =>
    rw [exec_place_answered hh ha] at he
    cases he
    have hreply : r.reply = a := Port.reply_of_complete ((congrArg Port.command hport).trans hg) hr
    have hrefused : 16 ≤ a.result.code := hreply ▸ hcode
    by_cases ho : o ≤ 2
    · rw [reqPlace_refused ho ha hrefused]
      exact ⟨rfl, fun _ => rfl⟩
    · rw [reqPlace_noConflict (Nat.lt_of_not_le ho)]
      exact ⟨rfl, fun h => absurd h ho⟩

/-- Settles O11: PLACE by its events, every other request by what its owning block hands back. -/
theorem refusedRequestChangesNothing : Obligations.RefusedRequestChangesNothing := by
  intro c s t r hh hs he hr hn hcode
  cases hp : isPlace c with
  | true =>
    obtain ⟨p, u, d, f, o, l, n, rfl⟩ : ∃ p u d f o l n, c = .place p u d f o l n := by
      cases c
      case place => exact ⟨_, _, _, _, _, _, _, rfl⟩
      all_goals cases hp
    obtain ⟨hwhole, hsearch⟩ := exec_place_refused hh he hr hn hcode
    refine ⟨hwhole, fun hne => absurd rfl (hne _ _ _ _ _ _ _), ?_⟩
    rintro p' u' d' f' o' l' n' ⟨⟩ ho
    exact hsearch ho
  | false =>
    have hport : onPort c = c := by
      cases c
      case place => cases hp
      all_goals rfl
    rw [hport] at hh
    have hwhole := exec_refused hh hp hs he hr hcode
    refine ⟨by rw [hwhole], fun _ => by rw [hwhole], ?_⟩
    rintro p u d f o l n rfl
    cases hp

end Sys2Proof.Machine
end

section
/-! Every command is answered by a next state and leaves the queue to the step (log entry 30). -/

namespace Sys2Proof.Machine

/-- The outcome is a next state, with the queue as it was. -/
def KeepsQueue (s : State) (o : Host.Outcome State Fault Refusal) : Prop :=
  ∃ t, o = .next t ∧ t.pending = s.pending

section

variable {s t : State}

theorem KeepsQueue.next (h : t.pending = s.pending) : KeepsQueue s (.next t) := ⟨t, rfl, h⟩

theorem KeepsQueue.unchanged : KeepsQueue s (.next s) := .next rfl

theorem KeepsQueue.fixed (h : t.fixed = s.fixed) : KeepsQueue s (.next t) := by
  obtain ⟨-, -, -, -, -, -, hpending⟩ := State.fixed_fields h
  exact .next hpending

theorem KeepsQueue.ite {p : Prop} [Decidable p] {x y : Host.Outcome State Fault Refusal}
    (hx : KeepsQueue s x) (hy : KeepsQueue s y) : KeepsQueue s (if p then x else y) := by
  split
  · exact hx
  · exact hy

end

/-! ### Requests -/

theorem runRequest_pending (c : Instr) (s : State) : (runRequest c s).1.pending = s.pending :=
  congrArg Prod.fst (runRequest_queueAndCommand c s)

theorem exec_request_keepsQueue {c : Instr} (hc : (requestBytes c).isSome = true)
    (hp : isPlace c = false) (hs : c ≠ .softReset) (s : State) : KeepsQueue s (exec c s) := by
  obtain ⟨act, hact, hrun⟩ := exec_of_request hc hp hs
  have hpending := runRequest_pending c s
  rw [hrun] at hpending
  rw [hact]
  exact .ite (.next hpending) .unchanged

theorem execPlace_keepsQueue (s : State) (p u d f o l n : Nat) :
    KeepsQueue s (execPlace p u d f o l n s) := by
  obtain ⟨-, -, -, -, -, -, hpending⟩ := State.fixed_fields (reqPlace_fixed s p u d f o l n)
  refine .ite ?_ .unchanged
  dsimp only
  split <;> exact .next hpending

/-! ### Transactions, resets and power (chapter 11) -/

theorem execCommand_keepsQueue (s : State) (m : Clocked) : KeepsQueue s (execCommand m s) := by
  have frame : ∀ u : State, (u.takeFrame m.bytes).pending = u.pending := by
    intro u
    unfold State.takeFrame
    split <;> rfl
  refine .next ?_
  split_ifs
  · exact frame _
  · rfl
  · rfl

theorem execFetch_keepsQueue (s : State) (bits : Nat) : KeepsQueue s (execFetch bits s) := by
  unfold execFetch
  split
  · exact .next rfl
  · refine .next ?_
    split_ifs <;> rfl

theorem State.resetPort_pending (s : State) : s.resetPort.pending = s.pending := by
  have mark : ∀ r : Reply, (s.markNamed r).pending = s.pending := by
    intro r
    obtain ⟨-, -, -, -, -, -, hpending⟩ := State.fixed_fields (s.markHandle_fixed r.names)
    exact hpending
  unfold State.resetPort
  dsimp only
  split
  · exact mark _
  · rfl

theorem State.warmReset_pending (s : State) : s.warmReset.pending = s.pending := by
  obtain ⟨-, -, -, -, -, -, hline⟩ := State.fixed_fields s.resetPort.resetLine_fixed
  obtain ⟨-, -, -, -, -, -, hsweep⟩ := State.fixed_fields s.resetPort.resetLine.abortSweep_fixed
  exact hsweep.trans (hline.trans s.resetPort_pending)

theorem execResetAsserted_keepsQueue (s : State) : KeepsQueue s (execResetAsserted s) := by
  refine .ite .unchanged (.next ?_)
  split
  · exact State.warmReset_pending _
  · rfl

theorem execSoftReset_keepsQueue (s : State) : KeepsQueue s (execSoftReset s) :=
  .ite (.next s.warmReset_pending) .unchanged

theorem execOrphanCompletion_keepsQueue (s : State) : KeepsQueue s (execOrphanCompletion s) := by
  refine .ite ?_ .unchanged
  cases s.port.executing? with
  | none => exact .unchanged
  | some c =>
    have hrun := runRequest_pending c s
    dsimp only
    split
    · exact .next hrun
    · next a ha =>
      obtain ⟨-, -, -, -, -, -, hmark⟩ := State.fixed_fields ((runRequest c s).1.markHandle_fixed a.names)
      exact .next (hmark.trans hrun)

theorem execPowerOnInitComplete_keepsQueue (s : State) :
    KeepsQueue s (execPowerOnInitComplete s) := by
  refine .next ?_
  split <;> rfl

/-! ### The minute and the boundary (chapters 2 to 5, 7 and 9) -/

theorem execMinuteEdge_keepsQueue (s : State) : KeepsQueue s (execMinuteEdge s) := by
  refine .fixed ?_
  split <;> simp

theorem execOrderBookBoundary_keepsQueue (s : State) : KeepsQueue s (execOrderBookBoundary s) := by
  unfold execOrderBookBoundary
  split
  · exact .unchanged
  · exact .fixed (by simp)

theorem execScheduledOrderNotice_keepsQueue (s : State) (n : Nat) :
    KeepsQueue s (execScheduledOrderNotice n s) := by
  unfold execScheduledOrderNotice
  split
  · exact .unchanged
  · exact .fixed (by simp)

theorem execReleaseControlBoundary_keepsQueue (s : State) :
    KeepsQueue s (execReleaseControlBoundary s) := by
  unfold execReleaseControlBoundary
  split
  · exact .unchanged
  · exact .fixed (by simp)

theorem execMeterBoundary_keepsQueue (s : State) : KeepsQueue s (execMeterBoundary s) := by
  unfold execMeterBoundary
  split
  · exact .unchanged
  · exact .fixed (by simp)

theorem execSweepBoundary_keepsQueue (s : State) : KeepsQueue s (execSweepBoundary s) := by
  unfold execSweepBoundary
  split
  · exact .unchanged
  · exact .fixed (by simp)

/-! ### The field line and its deliveries (chapters 5 to 7) -/

theorem execPollIntervalElapsed_keepsQueue (s : State) (a : Nat) :
    KeepsQueue s (execPollIntervalElapsed a s) :=
  .ite (.fixed (by simp)) .unchanged

theorem execOutFrameSent_keepsQueue (s : State) : KeepsQueue s (execOutFrameSent s) := by
  unfold execOutFrameSent
  split
  · exact .unchanged
  · exact .ite (.next rfl) .unchanged

theorem execAttemptDeadline_keepsQueue (s : State) : KeepsQueue s (execAttemptDeadline s) := by
  unfold execAttemptDeadline
  split
  · exact .unchanged
  · exact .ite .unchanged (.ite (.fixed (by simp)) (.fixed (by simp)))

theorem execReplyKindByte_keepsQueue (s : State) (a k : Byte) :
    KeepsQueue s (execReplyKindByte a k s) := by
  unfold execReplyKindByte
  split
  · exact .unchanged
  · refine .ite ?_ .unchanged
    split
    · exact .next rfl
    · exact .fixed (by simp)

theorem execFieldReply_keepsQueue (s : State) (f : List Byte) : KeepsQueue s (execFieldReply f s) := by
  unfold execFieldReply
  split
  · exact .unchanged
  · refine .ite .unchanged ?_
    split
    · exact .ite (.fixed (by simp)) .unchanged
    · exact .ite .unchanged (.ite (.fixed (by simp)) (.fixed (by simp)))

theorem execAppliedSetpointReport_keepsQueue (s : State) (n v : Nat) :
    KeepsQueue s (execAppliedSetpointReport n v s) := by
  unfold execAppliedSetpointReport
  split
  · exact .unchanged
  · refine .fixed ?_
    split_ifs <;> simp

theorem execGateReport_keepsQueue (s : State) (n : Nat) (w : Switch) (g : Nat) (b : Bool) :
    KeepsQueue s (execGateReport n w g b s) := by
  unfold execGateReport
  dsimp only
  split
  · exact .unchanged
  · exact .fixed (by simp)

theorem execMeterReading_keepsQueue (s : State) (n v : Nat) (b : Bool) :
    KeepsQueue s (execMeterReading n v b s) := by
  unfold execMeterReading
  dsimp only
  split
  · exact .unchanged
  · exact .fixed (by simp)

theorem execErrorReport_keepsQueue (s : State) (k : ErrorKind) (r : ErrorRef) :
    KeepsQueue s (execErrorReport k r s) := by
  unfold execErrorReport
  split
  · exact .unchanged
  · exact .next rfl

theorem execHoldRequest_keepsQueue (s : State) : KeepsQueue s (execHoldRequest s) := by
  unfold execHoldRequest
  split
  · exact .unchanged
  · exact .fixed (by simp)

/-! ### Sweep steps (chapter 9) -/

theorem execCurtailStep_keepsQueue (s : State) : KeepsQueue s (execCurtailStep s) := by
  unfold execCurtailStep
  split
  · exact .unchanged
  · exact .fixed (by simp)

theorem execSupplyBumpStep_keepsQueue (s : State) : KeepsQueue s (execSupplyBumpStep s) := by
  unfold execSupplyBumpStep
  split
  · exact .unchanged
  · exact .fixed (by simp)

theorem execPeriodCloseStep_keepsQueue (s : State) : KeepsQueue s (execPeriodCloseStep s) := by
  unfold execPeriodCloseStep
  split
  · exact .unchanged
  · exact .fixed (by simp)

theorem execSeasonOpenStep_keepsQueue (s : State) : KeepsQueue s (execSeasonOpenStep s) := by
  unfold execSeasonOpenStep
  split
  · exact .unchanged
  · exact .fixed (by simp)

theorem execSweepEnd_keepsQueue (s : State) : KeepsQueue s (execSweepEnd s) := by
  unfold execSweepEnd
  split
  · exact .unchanged
  · exact .ite (.fixed (by simp)) .unchanged

/-! ### Every command -/

/-- An event that is no request. -/
theorem exec_event_keepsQueue {c : Instr} (hc : (requestBytes c).isSome = false) (s : State) :
    KeepsQueue s (exec c s) := by
  cases c
  case command m => exact execCommand_keepsQueue s m
  case fetch bits => exact execFetch_keepsQueue s bits
  case status piece => exact .next rfl
  case ignoredTransaction m => exact .next rfl
  case resetAsserted => exact execResetAsserted_keepsQueue s
  case orphanCompletion => exact execOrphanCompletion_keepsQueue s
  case powerOn => exact .next rfl
  case powerOnInitComplete => exact execPowerOnInitComplete_keepsQueue s
  case minuteEdge => exact execMinuteEdge_keepsQueue s
  case orderBookBoundary => exact execOrderBookBoundary_keepsQueue s
  case scheduledOrderNotice n => exact execScheduledOrderNotice_keepsQueue s n
  case releaseControlBoundary => exact execReleaseControlBoundary_keepsQueue s
  case meterBoundary => exact execMeterBoundary_keepsQueue s
  case sweepBoundary => exact execSweepBoundary_keepsQueue s
  case pollIntervalElapsed a => exact execPollIntervalElapsed_keepsQueue s a
  case attemptDeadline => exact execAttemptDeadline_keepsQueue s
  case fieldReply f => exact execFieldReply_keepsQueue s f
  case appliedSetpointReport n v => exact execAppliedSetpointReport_keepsQueue s n v
  case gateReport n w g b => exact execGateReport_keepsQueue s n w g b
  case meterReading n v b => exact execMeterReading_keepsQueue s n v b
  case errorReport k r => exact execErrorReport_keepsQueue s k r
  case holdRequest => exact execHoldRequest_keepsQueue s
  case curtailStep => exact execCurtailStep_keepsQueue s
  case supplyBumpStep => exact execSupplyBumpStep_keepsQueue s
  case periodCloseStep => exact execPeriodCloseStep_keepsQueue s
  case seasonOpenStep => exact execSeasonOpenStep_keepsQueue s
  case sweepEnd => exact execSweepEnd_keepsQueue s
  case resetReleased => exact .next rfl
  case powerOff => exact .next rfl
  case replyKindByte a k => exact execReplyKindByte_keepsQueue s a k
  case outFrameSent => exact execOutFrameSent_keepsQueue s
  all_goals cases hc

/-- Settles O3: a command is an event, PLACE, SOFT_RESET, or a request that its owning block answers at
once. -/
theorem everyCommandAnswersANextState : Obligations.EveryCommandAnswersANextState := by
  intro c s
  cases hc : (requestBytes c).isSome with
  | false => exact exec_event_keepsQueue hc s
  | true =>
    cases hp : isPlace c with
    | true =>
      cases c
      case place p u d f o l n => exact execPlace_keepsQueue s p u d f o l n
      all_goals cases hp
    | false =>
      by_cases hs : c = .softReset
      · subst hs
        exact execSoftReset_keepsQueue s
      · exact exec_request_keepsQueue hc hp hs s

end Sys2Proof.Machine
end

section
/-! The reach tree: a path rises from the head to its reach, and depends on its own reaches alone
(section 1.2). -/

namespace Sys2Proof.Machine

/-- What is written of a reach but its check point. -/
def Reach.shape (v : Reach) : Option Nat × Nat × Nat := (v.parent, v.capacity, v.lag)

/-- Two tables give every reach the same parent, capacity and lag. -/
def SameShape (rs rs' : Table Reach) : Prop :=
  ∀ k, (cell? rs' k).map Reach.shape = (cell? rs k).map Reach.shape

theorem pathUp_child {rs : Table Reach} {r p : Nat} (k : Nat) (h : (cell? rs r).bind Reach.parent = some p) :
    pathUp rs (k + 1) r = pathUp rs k p ++ [r] := by
  simp [pathUp, h]

theorem pathUp_root {rs : Table Reach} {r : Nat} (k : Nat) (h : (cell? rs r).bind Reach.parent = none) :
    pathUp rs k r = [r] := by
  cases k <;> simp [pathUp, h]

theorem mem_pathUp_self (rs : Table Reach) (k r : Nat) : r ∈ pathUp rs k r := by
  cases k with
  | zero => simp [pathUp]
  | succ k =>
    cases h : (cell? rs r).bind Reach.parent with
    | none => simp [pathUp_root _ h]
    | some p => simp [pathUp_child k h]

theorem mem_pathOf_self (rs : Table Reach) (r : Nat) : r ∈ pathOf rs r := mem_pathUp_self rs _ r

theorem treeSound.parent_lt {rs : Table Reach} {r p : Nat} (hs : treeSound rs)
    (h : (cell? rs r).bind Reach.parent = some p) : p < r := by
  obtain ⟨v, hv, hp⟩ := Option.bind_eq_some_iff.1 h
  exact (hs r v hv).2 p hp

theorem le_of_mem_pathUp {rs : Table Reach} (hs : treeSound rs) {k r j : Nat} (h : j ∈ pathUp rs k r) :
    j ≤ r := by
  induction k generalizing r with
  | zero => simp [pathUp] at h; omega
  | succ k ih =>
    cases hp : (cell? rs r).bind Reach.parent with
    | none => simp [pathUp_root _ hp] at h; omega
    | some p =>
      rw [pathUp_child k hp] at h
      have hlt := hs.parent_lt hp
      rcases List.mem_append.1 h with h | h
      · have := ih h
        omega
      · simp at h; omega

/-- A path rises from the head. -/
theorem pathUp_rises {rs : Table Reach} (hs : treeSound rs) (k r : Nat) :
    (pathUp rs k r).Pairwise (· < ·) := by
  induction k generalizing r with
  | zero => simp [pathUp]
  | succ k ih =>
    cases hp : (cell? rs r).bind Reach.parent with
    | none => simp [pathUp_root _ hp]
    | some p =>
      rw [pathUp_child k hp]
      refine List.pairwise_append.2 ⟨ih p, by simp, fun a ha b hb => ?_⟩
      have hlt := hs.parent_lt hp
      have hle := le_of_mem_pathUp hs ha
      simp at hb; omega

theorem pathOf_rises {rs : Table Reach} (hs : treeSound rs) (r : Nat) : (pathOf rs r).Pairwise (· < ·) :=
  pathUp_rises hs _ r

theorem le_of_mem_pathOf {rs : Table Reach} (hs : treeSound rs) {r j : Nat} (h : j ∈ pathOf rs r) : j ≤ r :=
  le_of_mem_pathUp hs h

/-- A path is the same in two tables that give its reaches the same parents. -/
theorem pathUp_congr {rs rs' : Table Reach} {k r : Nat}
    (h : ∀ j ∈ pathUp rs k r, (cell? rs' j).bind Reach.parent = (cell? rs j).bind Reach.parent) :
    pathUp rs' k r = pathUp rs k r := by
  induction k generalizing r with
  | zero => rfl
  | succ k ih =>
    have hr := h r (mem_pathUp_self rs _ r)
    cases hp : (cell? rs r).bind Reach.parent with
    | none => rw [pathUp_root _ hp, pathUp_root _ (hr.trans hp)]
    | some p =>
      rw [pathUp_child k hp] at h ⊢
      rw [pathUp_child k (hr.trans hp), ih (fun j hj => h j (List.mem_append_left _ hj))]

theorem SameShape.parent {rs rs' : Table Reach} (h : SameShape rs rs') (k : Nat) :
    (cell? rs' k).bind Reach.parent = (cell? rs k).bind Reach.parent := by
  have hk := congrArg (fun x => x.bind Prod.fst) (h k)
  simpa [Option.bind_map, Function.comp_def, Reach.shape] using hk

theorem SameShape.pathOf {rs rs' : Table Reach} (h : SameShape rs rs') (r : Nat) :
    pathOf rs' r = pathOf rs r :=
  pathUp_congr (fun j _ => h.parent j)

theorem SameShape.lagOf {rs rs' : Table Reach} (h : SameShape rs rs') (r : Nat) :
    lagOf rs' r = lagOf rs r := by
  have hk := congrArg (fun x => x.map (fun y => y.2.2)) (h r)
  simp only [Option.map_map, Function.comp_def, Reach.shape] at hk
  exact congrArg (fun x : Option Nat => x.getD 0) hk

/-- When every parent is configured, so is every reach on the path of a configured reach. -/
theorem configured_of_mem_pathUp {rs : Table Reach} {k r j : Nat}
    (hp : ∀ r v p, cell? rs r = some v → v.parent = some p → cell? rs p ≠ none)
    (hr : cell? rs r ≠ none) (h : j ∈ pathUp rs k r) : cell? rs j ≠ none := by
  induction k generalizing r with
  | zero => simp [pathUp] at h; exact h ▸ hr
  | succ k ih =>
    cases hb : (cell? rs r).bind Reach.parent with
    | none => simp [pathUp_root _ hb] at h; exact h ▸ hr
    | some p =>
      rw [pathUp_child k hb] at h
      obtain ⟨v, hv, hvp⟩ := Option.bind_eq_some_iff.1 hb
      rcases List.mem_append.1 h with h | h
      · exact ih (hp r v p hv hvp) h
      · simp at h; exact h ▸ hr

/-- A reach on the path of another has a child, or is that other. -/
theorem child_of_mem_pathUp {rs : Table Reach} {k r j : Nat} (h : j ∈ pathUp rs k r) :
    j = r ∨ ∃ i v, cell? rs i = some v ∧ v.parent = some j := by
  induction k generalizing r with
  | zero => simp [pathUp] at h; exact Or.inl h
  | succ k ih =>
    cases hb : (cell? rs r).bind Reach.parent with
    | none => simp [pathUp_root _ hb] at h; exact Or.inl h
    | some p =>
      rw [pathUp_child k hb] at h
      obtain ⟨v, hv, hvp⟩ := Option.bind_eq_some_iff.1 hb
      rcases List.mem_append.1 h with h | h
      · rcases ih h with rfl | h
        · exact Or.inr ⟨r, v, hv, hvp⟩
        · exact Or.inr h
      · simp at h; exact Or.inl h

/-- In a rising list the places of the entries rise with them. -/
theorem idxOf_lt_of_lt {l : List Nat} (hl : l.Pairwise (· < ·)) {a b : Nat} (ha : a ∈ l) (hb : b ∈ l)
    (h : a < b) : l.idxOf a < l.idxOf b := by
  have hia := List.idxOf_lt_length_of_mem ha
  have hib := List.idxOf_lt_length_of_mem hb
  by_contra hle
  rcases Nat.lt_or_eq_of_le (Nat.le_of_not_lt hle) with hlt | heq
  · have hba := List.pairwise_iff_getElem.1 hl _ _ hib hia hlt
    rw [List.getElem_idxOf, List.getElem_idxOf] at hba
    omega
  · have hga := List.getElem_idxOf hia
    have hgb := List.getElem_idxOf hib
    simp only [heq] at hgb
    omega

end Sys2Proof.Machine
end

section
/-! The capacity ring: what is read after a write, which slots a lag-shifted window covers, and what RESERVE,
RELEASE and EXCHANGE answer (sections 2.2 to 2.4). -/

namespace Sys2Proof.Machine

/-! ### Reads and writes -/

theorem ringKey_inj {r j t u : Nat} (hr : r < 32) (hj : j < 32) : ringKey j u = ringKey r t ↔ j = r ∧ u = t := by
  change u * 32 + j = t * 32 + r ↔ _
  omega

/-- A committed flow read after one was written. -/
theorem Calendar.committedIn_setCommitted {r j : Nat} (c : Calendar) (t u f : Nat) (hr : r < 32) (hj : j < 32) :
    (c.setCommitted r t f).committedIn j u = if j = r ∧ u = t then f else c.committedIn j u := by
  refine (valueAt_setValue _ _ _ _ _).trans ?_
  simp only [ringKey_inj hr hj]
  rfl

/-- Rewriting each entry of a list changes the flows listed, each once, and no other. -/
theorem Calendar.committedIn_foldl {j : Nat} (g : Nat → Nat) (es : List (Nat × Nat)) (c : Calendar) (t : Nat)
    (hn : es.Nodup) (hes : ∀ e ∈ es, e.1 < 32) (hj : j < 32) :
    (es.foldl (fun c e => c.setCommitted e.1 e.2 (g (c.committedIn e.1 e.2))) c).committedIn j t =
      if (j, t) ∈ es then g (c.committedIn j t) else c.committedIn j t := by
  induction es generalizing c with
  | nil => rfl
  | cons e es ih =>
    obtain ⟨hne, hn⟩ := List.nodup_cons.1 hn
    obtain ⟨he, hes⟩ := List.forall_mem_cons.1 hes
    rw [List.foldl_cons, ih _ hn hes, Calendar.committedIn_setCommitted c _ _ _ he hj]
    by_cases hjt : (j, t) = e
    · subst hjt
      simp [hne]
    · have hnot : ¬(j = e.1 ∧ t = e.2) := fun h => hjt (Prod.ext h.1 h.2)
      simp [hnot, hjt]

theorem Calendar.committedIn_addFlow {j : Nat} (f : Nat) (es : List (Nat × Nat)) (c : Calendar) (t : Nat)
    (hn : es.Nodup) (hes : ∀ e ∈ es, e.1 < 32) (hj : j < 32) :
    (c.addFlow f es).committedIn j t =
      if (j, t) ∈ es then c.committedIn j t + f else c.committedIn j t :=
  c.committedIn_foldl (· + f) es t hn hes hj

theorem Calendar.committedIn_subFlow {j : Nat} (f : Nat) (es : List (Nat × Nat)) (c : Calendar) (t : Nat)
    (hn : es.Nodup) (hes : ∀ e ∈ es, e.1 < 32) (hj : j < 32) :
    (c.subFlow f es).committedIn j t =
      if (j, t) ∈ es then c.committedIn j t - f else c.committedIn j t :=
  c.committedIn_foldl (· - f) es t hn hes hj

/-! ### Lag-shifted windows (R27) -/

/-- The slot lies within the calendar's horizon. -/
def Calendar.within (c : Calendar) (t : Nat) : Prop := c.slot ≤ t ∧ t < c.slot + 672

/-- The lag-shifted window of [a, b) on reach r covers slot t of reach j, within horizon (R27). -/
def Calendar.covers (c : Calendar) (r a b j t : Nat) : Prop :=
  j ∈ pathOf c.reaches r ∧ c.slot ≤ t ∧ t < c.slot + 672 ∧
    a ≤ t + (lagOf c.reaches r - lagOf c.reaches j) ∧ t + (lagOf c.reaches r - lagOf c.reaches j) < b

theorem Calendar.covers_iff (c : Calendar) (r a b j t : Nat) :
    c.covers r a b j t ↔ j ∈ pathOf c.reaches r ∧ c.within t ∧
      a ≤ t + (lagOf c.reaches r - lagOf c.reaches j) ∧ t + (lagOf c.reaches r - lagOf c.reaches j) < b := by
  simp [Calendar.covers, Calendar.within, and_assoc]

theorem Calendar.mem_shifted (c : Calendar) (r j a b g t : Nat) :
    t ∈ c.shifted r j a b g ↔
      c.within t ∧ g ≤ t ∧ a ≤ t + (lagOf c.reaches r - lagOf c.reaches j) ∧
        t + (lagOf c.reaches r - lagOf c.reaches j) < b := by
  unfold Calendar.shifted Calendar.within
  rw [List.mem_range'_1]
  change _ ∧ t < _ + (min _ (c.slot + 672) - _) ↔ _
  omega

/-- The entries of a window at or after a floor. -/
theorem Calendar.mem_entries (c : Calendar) (r a b g j t : Nat) :
    (j, t) ∈ c.entries r a b g ↔ c.covers r a b j t ∧ g ≤ t := by
  simp only [Calendar.entries, List.mem_flatMap, List.mem_map, Prod.mk.injEq, c.covers_iff]
  constructor
  · rintro ⟨j', hj, t', ht, rfl, rfl⟩
    obtain ⟨hw, hg, ha, hb⟩ := (c.mem_shifted _ _ _ _ _ _).1 ht
    exact ⟨⟨hj, hw, ha, hb⟩, hg⟩
  · rintro ⟨⟨hj, hw, ha, hb⟩, hg⟩
    exact ⟨j, hj, t, (c.mem_shifted _ _ _ _ _ _).2 ⟨hw, hg, ha, hb⟩, rfl, rfl⟩

/-- A floor at or before the current slot leaves no entry out. -/
theorem Calendar.mem_entries_all {c : Calendar} {g : Nat} (hg : g ≤ c.slot) (r a b j t : Nat) :
    (j, t) ∈ c.entries r a b g ↔ c.covers r a b j t := by
  rw [Calendar.mem_entries]
  exact and_iff_left_of_imp fun h => hg.trans h.2.1

/-- Head first, and in one reach slots ascending. -/
def entryBefore (x y : Nat × Nat) : Prop := x.1 < y.1 ∨ x.1 = y.1 ∧ x.2 < y.2

theorem Calendar.entries_ordered {c : Calendar} (hs : treeSound c.reaches) (r a b g : Nat) :
    (c.entries r a b g).Pairwise entryBefore := by
  refine List.pairwise_flatMap.2 ⟨fun j _ => ?_, (pathOf_rises hs r).imp fun hlt => ?_⟩
  · exact List.pairwise_map.2 ((List.pairwise_lt_range' (s := _)).imp fun h => Or.inr ⟨rfl, h⟩)
  · intro x hx y hy
    obtain ⟨_, _, rfl⟩ := List.mem_map.1 hx
    obtain ⟨_, _, rfl⟩ := List.mem_map.1 hy
    exact Or.inl hlt

theorem Calendar.entries_nodup {c : Calendar} (hs : treeSound c.reaches) (r a b g : Nat) :
    (c.entries r a b g).Nodup := by
  refine (c.entries_ordered hs r a b g).imp ?_
  rintro x y h rfl
  unfold entryBefore at h
  omega

theorem Calendar.entries_reach {c : Calendar} (hs : treeSound c.reaches) {r : Nat} (hr : r < 32) {a b g : Nat} :
    ∀ e ∈ c.entries r a b g, e.1 < 32 := by
  rintro ⟨j, t⟩ he
  obtain ⟨⟨hj, -⟩, -⟩ := (c.mem_entries _ _ _ _ _ _).1 he
  exact (le_of_mem_pathOf hs hj).trans_lt hr

/-! ### The search for the first short entry (R29) -/

/-- In an ordered list, a search finds the entry that passes with none before it that passes. -/
theorem find?_eq_of_first {α : Type} {R : α → α → Prop} {l : List α} (hl : l.Pairwise R) {p : α → Bool}
    {x : α} (hx : x ∈ l) (hp : p x = true) (hfirst : ∀ y ∈ l, R y x → p y = false) : l.find? p = some x := by
  induction l with
  | nil => cases hx
  | cons y l ih =>
    obtain ⟨hy, hl⟩ := List.pairwise_cons.1 hl
    rcases List.mem_cons.1 hx with rfl | hx
    · exact List.find?_cons_of_pos hp
    · rw [List.find?_cons_of_neg (by simp [hfirst y (by simp) (hy x hx)])]
      exact ih hl hx (fun z hz => hfirst z (List.mem_cons_of_mem _ hz))

section Tested

variable {c : Calendar} {r a b f : Nat} {tested : Nat × Nat → Bool}

theorem Calendar.reserveTested_beyond (h : a < b ∧ c.slot + 672 < b) :
    c.reserveTested tested r a b f = .beyond :=
  if_pos h

/-- A reservation fails at the first entry that is tested and has no room. -/
theorem Calendar.reserveTested_short (hs : treeSound c.reaches) (h : ¬(a < b ∧ c.slot + 672 < b)) {j t : Nat}
    (hc : c.covers r a b j t) (ht : tested (j, t) = true) (ho : c.capacityIn j t < c.committedIn j t + f)
    (hfirst : ∀ i u, c.covers r a b i u → entryBefore (i, u) (j, t) →
      tested (i, u) = true → c.committedIn i u + f ≤ c.capacityIn i u) :
    c.reserveTested tested r a b f = .short j t := by
  have hfind : c.firstShort f ((c.entries r a b 0).filter tested) = some (j, t) := by
    refine find?_eq_of_first ((c.entries_ordered hs r a b 0).filter _) ?_ (decide_eq_true ho) ?_
    · exact List.mem_filter.2 ⟨(c.mem_entries_all (Nat.zero_le _) r a b j t).2 hc, ht⟩
    · rintro ⟨i, u⟩ hm hb
      obtain ⟨hm, hi⟩ := List.mem_filter.1 hm
      exact decide_eq_false (Nat.not_lt.2
        (hfirst i u ((c.mem_entries_all (Nat.zero_le _) r a b i u).1 hm) hb hi))
  refine (if_neg h).trans ?_
  simp only [hfind]

/-- A reservation with room in every tested entry passes. -/
theorem Calendar.reserveTested_room (h : ¬(a < b ∧ c.slot + 672 < b))
    (hroom : ∀ j t, c.covers r a b j t → tested (j, t) = true → c.committedIn j t + f ≤ c.capacityIn j t) :
    c.reserveTested tested r a b f = .pass (c.addFlow f (c.entries r a b 0)) := by
  have hfind : c.firstShort f ((c.entries r a b 0).filter tested) = none := by
    refine List.find?_eq_none.2 ?_
    rintro ⟨j, t⟩ hm
    obtain ⟨hm, ht⟩ := List.mem_filter.1 hm
    have := hroom j t ((c.mem_entries_all (Nat.zero_le _) r a b j t).1 hm) ht
    simpa using this
  refine (if_neg h).trans ?_
  simp only [hfind]

/-- What it is for a reservation to pass: its window ends within horizon, every tested entry has room, and the
flow is added to every entry. -/
theorem Calendar.reserveTested_passes {k : Calendar} (h : c.reserveTested tested r a b f = .pass k) :
    ¬(a < b ∧ c.slot + 672 < b) ∧ k = c.addFlow f (c.entries r a b 0) ∧
      ∀ j t, c.covers r a b j t → tested (j, t) = true → c.committedIn j t + f ≤ c.capacityIn j t := by
  simp only [Calendar.reserveTested] at h
  split at h
  · cases h
  · next hb =>
    split at h
    · cases h
    · next hfind =>
      cases h
      refine ⟨hb, rfl, fun j t hc ht => ?_⟩
      have := List.find?_eq_none.1 hfind (j, t)
        (List.mem_filter.2 ⟨(c.mem_entries_all (Nat.zero_le _) r a b j t).2 hc, ht⟩)
      simpa using this

end Tested

/-! ### What the three operations leave in the ring -/

section Left

variable {c : Calendar} {r j t a b : Nat} (hs : treeSound c.reaches) (hr : r < 32) (hj : j < 32) (f : Nat)

include hs hr hj

/-- After a flow is added to a window, every slot it covers holds so much more (R29). -/
theorem Calendar.committedIn_added (h : c.covers r a b j t) :
    (c.addFlow f (c.entries r a b 0)).committedIn j t = c.committedIn j t + f := by
  rw [c.committedIn_addFlow f _ t (c.entries_nodup hs r a b 0) (c.entries_reach hs hr) hj,
    if_pos ((c.mem_entries_all (Nat.zero_le _) r a b j t).2 h)]

theorem Calendar.committedIn_added_other (h : ¬c.covers r a b j t) :
    (c.addFlow f (c.entries r a b 0)).committedIn j t = c.committedIn j t := by
  rw [c.committedIn_addFlow f _ t (c.entries_nodup hs r a b 0) (c.entries_reach hs hr) hj,
    if_neg (mt (c.mem_entries_all (Nat.zero_le _) r a b j t).1 h)]

/-- After RELEASE, every slot of the window at or after the floor holds so much less (R30). -/
theorem Calendar.committedIn_release {g : Nat} (h : c.covers r a b j t ∧ g ≤ t) :
    (c.release r a b f g).committedIn j t = c.committedIn j t - f :=
  (c.committedIn_subFlow f _ t (c.entries_nodup hs r a b g) (c.entries_reach hs hr) hj).trans
    (if_pos ((c.mem_entries r a b g j t).2 h))

theorem Calendar.committedIn_release_other {g : Nat} (h : ¬(c.covers r a b j t ∧ g ≤ t)) :
    (c.release r a b f g).committedIn j t = c.committedIn j t :=
  (c.committedIn_subFlow f _ t (c.entries_nodup hs r a b g) (c.entries_reach hs hr) hj).trans
    (if_neg (mt (c.mem_entries r a b g j t).1 h))

end Left

@[simp] theorem Calendar.addFlow_reaches (c : Calendar) (f : Nat) (es : List (Nat × Nat)) :
    (c.addFlow f es).reaches = c.reaches := by rw [c.addFlow_only_committed f es]
@[simp] theorem Calendar.release_reaches (c : Calendar) (r a b f g : Nat) :
    (c.release r a b f g).reaches = c.reaches := by rw [c.release_only_committed r a b f g]
@[simp] theorem Calendar.release_slot (c : Calendar) (r a b f g : Nat) :
    (c.release r a b f g).slot = c.slot := by rw [c.release_only_committed r a b f g]; rfl
@[simp] theorem Calendar.release_capacityIn (c : Calendar) (r a b f g j t : Nat) :
    (c.release r a b f g).capacityIn j t = c.capacityIn j t := by rw [c.release_only_committed r a b f g]; rfl
@[simp] theorem Calendar.release_covers (c : Calendar) (r a b f g i a' b' j t : Nat) :
    (c.release r a b f g).covers i a' b' j t ↔ c.covers i a' b' j t := by
  rw [c.release_only_committed r a b f g]; rfl

/-! ### EXCHANGE (R31) -/

/-- The test that EXCHANGE makes of an entry. -/
def Calendar.exchangeTests (c : Calendar) (r a b f b' f' : Nat) (e : Nat × Nat) : Bool :=
  !(eases b f b' f' && c.windowHas r a b e)

theorem Calendar.exchange_eq (c : Calendar) (r a b f a' b' f' : Nat) :
    c.exchange r a b f a' b' f' =
      (c.release r a b f c.slot).reserveTested (c.exchangeTests r a b f b' f') r a' b' f' := rfl

/-- In an entry within horizon, the old window has it exactly when the old reservation covers it. -/
theorem Calendar.exchangeTests_iff {c : Calendar} {r a' b' j t : Nat} (h : c.covers r a' b' j t)
    (a b f f' : Nat) : c.exchangeTests r a b f b' f' (j, t) = true ↔
      ¬((f' < f ∨ f' = f ∧ b' < b) ∧ c.covers r a b j t) := by
  obtain ⟨hj, hw, -⟩ := (c.covers_iff _ _ _ _ _).1 h
  have hold : c.covers r a b j t ↔ c.windowHas r a b (j, t) = true := by
    simp [c.covers_iff, Calendar.windowHas, hj, hw]
  rw [hold, Calendar.exchangeTests, Bool.not_eq_true', ← Bool.not_eq_true, Bool.and_eq_true]
  exact not_congr (and_congr_left' (by simp [eases]))

end Sys2Proof.Machine
end

section
/-! Points: what is read of a point after its record is written, its send pending is re-evaluated, or its target
is recomputed (R91, R93, R94, R113). -/

namespace Sys2Proof.Machine

/-! ### Points as they are written -/

@[simp] theorem State.setPoint_point? (s : State) (n m : Nat) (p : Point) :
    (s.setPoint n p).point? m = if m = n then some p else s.point? m :=
  cell?_setCell _ _ _ _

@[simp] theorem State.report_point? (s : State) (k : ErrorKind) (r : ErrorRef) (m : Nat) :
    (s.report k r).point? m = s.point? m := rfl

theorem State.changePoint_point? (s : State) (n m : Nat) (f : Point → Point) :
    (s.changePoint n f).point? m = if m = n then (s.point? n).map f else s.point? m := by
  unfold State.changePoint
  cases h : s.point? n with
  | none =>
    by_cases hm : m = n
    · simp [hm, h]
    · simp [hm]
  | some p => simp

theorem State.changePoint_frame (s : State) (n : Nat) (f : Point → Point) :
    s.changePoint n f = { s with points := (s.changePoint n f).points } := by
  unfold State.changePoint
  cases s.point? n <;> rfl

theorem State.changePoint_rising {s : State} (n : Nat) (f : Point → Point) (h : risingKeys s.points = true) :
    risingKeys (s.changePoint n f).points = true := by
  unfold State.changePoint
  cases s.point? n with
  | none => exact h
  | some p => exact risingKeys_setCell n (f p) h

/-! ### Send pending (R113) -/

/-- Send pending as it stands after a re-evaluation (R113). -/
def Point.pendingAgain (setting : Bool) (p : Point) : Point :=
  { p with field.sendPending := if setting then p.field.sendPending else p.wantsSet }

theorem State.reevaluate_point? (s : State) (n m : Nat) :
    (s.reevaluate n).point? m =
      if m = n then (s.point? n).map (Point.pendingAgain (s.line.settingPoint n)) else s.point? m := by
  unfold State.reevaluate
  cases hl : s.line.settingPoint n with
  | true =>
    by_cases hm : m = n
    · subst hm
      cases h : s.point? m <;> simp [h, Point.pendingAgain]
    · simp [hm]
  | false =>
    rw [if_neg (by simp), State.changePoint_point?]
    rfl

theorem State.reevaluate_frame (s : State) (n : Nat) :
    s.reevaluate n = { s with points := (s.reevaluate n).points } := by
  unfold State.reevaluate
  split
  · rfl
  · exact s.changePoint_frame n _

theorem State.reevaluate_rising {s : State} (n : Nat) (h : risingKeys s.points = true) :
    risingKeys (s.reevaluate n).points = true := by
  unfold State.reevaluate
  split
  · exact h
  · exact State.changePoint_rising n _ h

/-! ### A target takes a value (R91) -/

theorem State.setTarget_frame (s : State) (n flow : Nat) :
    s.setTarget n flow = { s with points := (s.setTarget n flow).points } := by
  unfold State.setTarget
  cases s.point? n with
  | none => rfl
  | some p =>
    dsimp only
    split_ifs
    · rfl
    · rw [State.reevaluate_frame]
      rfl
    · rfl

theorem State.setTarget_rising {s : State} (n flow : Nat) (h : risingKeys s.points = true) :
    risingKeys (s.setTarget n flow).points = true := by
  unfold State.setTarget
  cases s.point? n with
  | none => exact h
  | some p =>
    dsimp only
    split_ifs
    · exact h
    · exact State.reevaluate_rising n (risingKeys_setCell n _ h)
    · exact risingKeys_setCell n _ h

theorem State.setTarget_other (s : State) {n m : Nat} (flow : Nat) (h : m ≠ n) :
    (s.setTarget n flow).point? m = s.point? m := by
  unfold State.setTarget
  cases s.point? n with
  | none => rfl
  | some p =>
    dsimp only
    split_ifs <;> simp [State.reevaluate_point?, h]

/-- A point's target takes the value; but for the field side, nothing else of the point changes. -/
theorem State.setTarget_self {s : State} {n : Nat} {p : Point} (flow : Nat) (h : s.point? n = some p) :
    ∃ g, (s.setTarget n flow).point? n = some { p with target := flow, field := g } := by
  unfold State.setTarget
  simp only [h]
  split_ifs with he hsend
  · exact ⟨p.field, by rw [h, ← he]⟩
  · exact ⟨_, by simp [State.reevaluate_point?, Point.pendingAgain]; rfl⟩
  · exact ⟨p.field, by simp⟩

/-! ### A check target is recomputed (R93, R94) -/

/-- A point whose target is recomputed on its reach (R93). -/
def Point.isAutoCheck (p : Point) : Prop := p.kind = .check ∧ p.mode = .auto

/-- A check point with the target and the overload indicator that a demand gives it. -/
def Point.rechecked (demand : Nat) (g : FieldSide) (p : Point) : Point :=
  { p with target := min demand p.rated, overload := decide (p.rated < demand), field := g }

/-- The report of a check point that a demand newly overloads (R94). -/
def Point.overloadReport (p : Point) : Report := { kind := .reachOverload, ref := .number p.reach }

/-- RECHECK of a check point in AUTO: the overload indicator, the report when it was clear, the target. -/
theorem State.recheck_eq {s : State} {n : Nat} {p : Point} (h : s.point? n = some p) (hp : p.isAutoCheck) :
    s.recheck n =
      (let demand := s.checkDemand p.reach
       let s1 := s.setPoint n { p with overload := decide (p.rated < demand) }
       let s2 := if p.rated < demand ∧ p.overload = false then
         s1.report .reachOverload (.number p.reach) else s1
       s2.setTarget n (min demand p.rated)) := by
  unfold State.recheck
  simp only [h]
  refine (if_pos hp).trans ?_
  congr 1
  simp

theorem State.recheck_idle {s : State} {n : Nat} (h : ∀ p, s.point? n = some p → ¬p.isAutoCheck) :
    s.recheck n = s := by
  unfold State.recheck
  cases hn : s.point? n with
  | none => rfl
  | some p => exact if_neg (h p hn)

theorem State.recheck_frame (s : State) (n : Nat) :
    s.recheck n =
      { s with points := (s.recheck n).points, mail.reports := (s.recheck n).mail.reports } := by
  by_cases h : ∃ p, s.point? n = some p ∧ p.isAutoCheck
  · obtain ⟨p, hp, hc⟩ := h
    rw [State.recheck_eq hp hc]
    dsimp only
    rw [State.setTarget_frame]
    split_ifs <;> rfl
  · rw [State.recheck_idle fun p hp hc => h ⟨p, hp, hc⟩]

theorem State.recheck_rising {s : State} (n : Nat) (h : risingKeys s.points = true) :
    risingKeys (s.recheck n).points = true := by
  unfold State.recheck
  cases s.point? n with
  | none => exact h
  | some p =>
    dsimp only
    split_ifs
    · exact State.setTarget_rising n _ (risingKeys_setCell n _ h)
    · exact State.setTarget_rising n _ (risingKeys_setCell n _ h)
    · exact h

theorem State.recheck_other (s : State) {n m : Nat} (h : m ≠ n) : (s.recheck n).point? m = s.point? m := by
  unfold State.recheck
  cases s.point? n with
  | none => rfl
  | some p =>
    dsimp only
    split_ifs <;> simp [State.setTarget_other, h]

theorem State.recheck_self {s : State} {n : Nat} {p : Point} (h : s.point? n = some p) (hp : p.isAutoCheck) :
    ∃ g, (s.recheck n).point? n = some (p.rechecked (s.checkDemand p.reach) g) := by
  rw [State.recheck_eq h hp]
  dsimp only
  refine State.setTarget_self (p := { p with overload := decide (p.rated < s.checkDemand p.reach) }) _ ?_
  split_ifs <;> simp

/-- Reports are only added. -/
theorem State.recheck_reports (s : State) (n : Nat) {x : Report} (h : x ∈ s.mail.reports) :
    x ∈ (s.recheck n).mail.reports := by
  by_cases hc : ∃ p, s.point? n = some p ∧ p.isAutoCheck
  · obtain ⟨p, hp, hc⟩ := hc
    rw [State.recheck_eq hp hc]
    dsimp only
    rw [State.setTarget_frame]
    split_ifs
    · exact List.mem_append_left _ h
    · exact h
  · rwa [State.recheck_idle fun p hp hc' => hc ⟨p, hp, hc'⟩]

theorem State.recheck_overload {s : State} {n : Nat} {p : Point} (h : s.point? n = some p)
    (hp : p.isAutoCheck) (hover : p.rated < s.checkDemand p.reach) (hclear : p.overload = false) :
    p.overloadReport ∈ (s.recheck n).mail.reports := by
  rw [State.recheck_eq h hp]
  dsimp only
  rw [State.setTarget_frame, if_pos ⟨hover, hclear⟩]
  exact List.mem_append_right _ (List.mem_singleton.2 rfl)

/-! ### Several check targets are recomputed -/

/-- Recompute the targets of a list of points. -/
def State.recheckMany (ns : List Nat) (s : State) : State := ns.foldl (fun s n => s.recheck n) s

theorem State.recheckAll_eq (s : State) : s.recheckAll = s.recheckMany (s.points.map (fun e => e.1)) := rfl

theorem State.recheckMany_cons (n : Nat) (ns : List Nat) (s : State) :
    s.recheckMany (n :: ns) = (s.recheck n).recheckMany ns := rfl

theorem State.recheckMany_frame (ns : List Nat) (s : State) :
    s.recheckMany ns =
      { s with points := (s.recheckMany ns).points, mail.reports := (s.recheckMany ns).mail.reports } := by
  induction ns generalizing s with
  | nil => rfl
  | cons n ns ih =>
    rw [State.recheckMany_cons, ih, State.recheck_frame]

theorem State.recheckMany_rising {s : State} (ns : List Nat) (h : risingKeys s.points = true) :
    risingKeys (s.recheckMany ns).points = true :=
  foldl_inv (fun s : State => risingKeys s.points = true) _ (fun _ n h => State.recheck_rising n h) ns s h

theorem State.recheck_checkDemand (s : State) (n r : Nat) :
    (s.recheck n).checkDemand r = s.checkDemand r := by
  rw [State.recheck_frame]
  rfl

/-- A walk over check points leaves every other point as it was. -/
theorem State.recheckMany_other {ns : List Nat} {s : State} {m : Nat}
    (h : m ∈ ns → ∀ p, s.point? m = some p → ¬p.isAutoCheck) :
    (s.recheckMany ns).point? m = s.point? m := by
  induction ns generalizing s with
  | nil => rfl
  | cons n ns ih =>
    have hn : (s.recheck n).point? m = s.point? m := by
      by_cases hm : m = n
      · subst hm
        rw [State.recheck_idle (h (by simp))]
      · exact s.recheck_other hm
    rw [State.recheckMany_cons, ih, hn]
    intro hm p hp
    exact h (List.mem_cons_of_mem _ hm) p (hn ▸ hp)

/-- A check point in AUTO that a walk visits has the target of its demand. -/
theorem State.recheckMany_self {ns : List Nat} {s : State} {m : Nat} {p : Point} (hm : m ∈ ns)
    (h : s.point? m = some p) (hp : p.isAutoCheck) :
    ∃ g, (s.recheckMany ns).point? m = some (p.rechecked (s.checkDemand p.reach) g) := by
  induction ns generalizing s p with
  | nil => cases hm
  | cons n ns ih =>
    rw [State.recheckMany_cons]
    by_cases hn : m = n
    · subst hn
      obtain ⟨g, hg⟩ := State.recheck_self h hp
      by_cases hin : m ∈ ns
      · obtain ⟨g', hg'⟩ := ih hin hg hp
        rw [State.recheck_checkDemand] at hg'
        exact ⟨g', hg'⟩
      · rw [State.recheckMany_other (fun hh => absurd hh hin)]
        exact ⟨g, hg⟩
    · have hk := (s.recheck_other hn).trans h
      obtain ⟨g, hg⟩ := ih (List.mem_of_ne_of_mem hn hm) hk hp
      rw [State.recheck_checkDemand] at hg
      exact ⟨g, hg⟩

theorem State.recheckMany_reports (ns : List Nat) (s : State) {x : Report} (h : x ∈ s.mail.reports) :
    x ∈ (s.recheckMany ns).mail.reports :=
  foldl_inv (fun s : State => x ∈ s.mail.reports) _ (fun s n h => s.recheck_reports n h) ns s h

theorem State.recheckMany_overload {ns : List Nat} {s : State} {m : Nat} {p : Point} (hm : m ∈ ns)
    (h : s.point? m = some p) (hp : p.isAutoCheck) (hover : p.rated < s.checkDemand p.reach)
    (hclear : p.overload = false) : p.overloadReport ∈ (s.recheckMany ns).mail.reports := by
  induction ns generalizing s with
  | nil => cases hm
  | cons n ns ih =>
    rw [State.recheckMany_cons]
    by_cases hn : m = n
    · subst hn
      exact State.recheckMany_reports ns _ (State.recheck_overload h hp hover hclear)
    · exact ih (List.mem_of_ne_of_mem hn hm) ((s.recheck_other hn).trans h)
        (by rwa [State.recheck_checkDemand])

/-! ### The reaches' check points -/

/-- The check points of a list of reaches. -/
def Calendar.checkPoints (c : Calendar) (rs : List Nat) : List Nat :=
  rs.filterMap (fun r => (cell? c.reaches r).bind Reach.check)

theorem Calendar.mem_checkPoints (c : Calendar) (rs : List Nat) (n : Nat) :
    n ∈ c.checkPoints rs ↔ ∃ r ∈ rs, ∃ v, cell? c.reaches r = some v ∧ v.check = some n := by
  simp [Calendar.checkPoints, Option.bind_eq_some_iff]

/-- Recomputing the targets that a list of reaches feeds is recomputing those of their check points. -/
theorem State.foldl_recheckReach {β : Type} (f : β → Nat) (l : List β) (s : State) :
    l.foldl (fun s e => s.recheckReach (f e)) s = s.recheckMany (s.cal.checkPoints (l.map f)) := by
  induction l generalizing s with
  | nil => rfl
  | cons e l ih =>
    rw [List.foldl_cons, ih]
    cases hc : (cell? s.cal.reaches (f e)).bind Reach.check with
    | none =>
      have he : s.recheckReach (f e) = s := by simp [State.recheckReach, State.reach?, hc]
      simp [he, Calendar.checkPoints, hc]
    | some n =>
      have he : s.recheckReach (f e) = s.recheck n := by simp [State.recheckReach, State.reach?, hc]
      have hcal : (s.recheck n).cal = s.cal := by rw [State.recheck_frame]
      simp [he, hcal, Calendar.checkPoints, hc, State.recheckMany_cons]

/-- The reaches whose committed flow in the current slot a new ring changes (R32). -/
def State.toldReaches (s : State) (c : Calendar) : List Nat :=
  (s.cal.reaches.filter
    (fun e => decide (s.cal.committedIn e.1 s.cal.slot ≠ c.committedIn e.1 s.cal.slot))).map (fun e => e.1)

/-- A new ring takes its place, and the check points of the reaches it changes are recomputed (R32). -/
theorem State.withRing_eq (s : State) (c : Calendar) :
    s.withRing c = ({ s with cal := c } : State).recheckMany (c.checkPoints (s.toldReaches c)) :=
  State.foldl_recheckReach (fun e : Nat × Reach => e.1) _ _

theorem State.withRing_frame (s : State) (c : Calendar) :
    s.withRing c = { s with
      cal := c, points := (s.withRing c).points, mail.reports := (s.withRing c).mail.reports } := by
  rw [State.withRing_eq, State.recheckMany_frame]

end Sys2Proof.Machine
end

section
/-! RESERVE, RELEASE and EXCHANGE over the lag-shifted windows, and the check targets after them (R27 to R32). -/

namespace Sys2Proof.Machine

/-- An entry that stands before another stands higher on the path, or earlier in the same reach. -/
theorem Calendar.entryBefore_cases {c : Calendar} (hs : treeSound c.reaches) {r i u j t : Nat}
    (hi : i ∈ pathOf c.reaches r) (hj : j ∈ pathOf c.reaches r) (h : entryBefore (i, u) (j, t)) :
    (pathOf c.reaches r).idxOf i < (pathOf c.reaches r).idxOf j ∨ i = j ∧ u < t :=
  h.imp_left (idxOf_lt_of_lt (pathOf_rises hs r) hi hj)

/-! ### EXCHANGE against the ring as it was -/

section Exchange

variable {c : Calendar} {r a b f a' b' f' : Nat}

/-- The entry has no room for the new flow, the old flow not counted (R31); an eased exchange is not tested where
the old window stood (R36; log entry 34). -/
def Calendar.exchangeOver (c : Calendar) (r a b f b' f' j t : Nat) : Prop :=
  (c.covers r a b j t → ¬(f' < f ∨ f' = f ∧ b' < b) ∧ c.capacityIn j t < c.committedIn j t - f + f') ∧
    (¬c.covers r a b j t → c.capacityIn j t < c.committedIn j t + f')

/-- What the ring holds once EXCHANGE has released the old window. -/
theorem Calendar.committedIn_released (hs : treeSound c.reaches) (hr : r < 32) {j t : Nat} (hj : j < 32) :
    (c.covers r a b j t → (c.release r a b f c.slot).committedIn j t = c.committedIn j t - f) ∧
      (¬c.covers r a b j t → (c.release r a b f c.slot).committedIn j t = c.committedIn j t) :=
  ⟨fun h => Calendar.committedIn_release hs hr hj f ⟨h, h.2.1⟩,
    fun h => Calendar.committedIn_release_other hs hr hj f (fun hg => h hg.1)⟩

/-- The test of the released ring is the test of the ring as it was. -/
theorem Calendar.exchangeOver_iff (hs : treeSound c.reaches) (hr : r < 32) {j t : Nat}
    (hc : c.covers r a' b' j t) :
    c.exchangeOver r a b f b' f' j t ↔ c.exchangeTests r a b f b' f' (j, t) = true ∧
      (c.release r a b f c.slot).capacityIn j t < (c.release r a b f c.slot).committedIn j t + f' := by
  obtain ⟨hin, hout⟩ := Calendar.committedIn_released (f := f) (a := a) (b := b) (t := t) hs hr
    ((le_of_mem_pathOf hs hc.1).trans_lt hr)
  rw [Calendar.exchangeTests_iff hc, Calendar.release_capacityIn]
  by_cases h : c.covers r a b j t
  · simp [Calendar.exchangeOver, h, hin h]
  · simp [Calendar.exchangeOver, h, hout h]

theorem Calendar.exchange_beyond (h : a' < b' ∧ c.slot + 672 < b') : c.exchange r a b f a' b' f' = .beyond :=
  Calendar.reserveTested_beyond (by simpa using h)

theorem Calendar.exchange_short (hs : treeSound c.reaches) (hr : r < 32) (h : ¬(a' < b' ∧ c.slot + 672 < b'))
    {j t : Nat} (hc : c.covers r a' b' j t) (ho : c.exchangeOver r a b f b' f' j t)
    (hfirst : ∀ i u, c.covers r a' b' i u → entryBefore (i, u) (j, t) → ¬c.exchangeOver r a b f b' f' i u) :
    c.exchange r a b f a' b' f' = .short j t := by
  obtain ⟨htest, hover⟩ := (Calendar.exchangeOver_iff hs hr hc).1 ho
  refine Calendar.reserveTested_short (by simpa using hs) (by simpa using h) (by simpa using hc) htest hover ?_
  intro i u hi hb ht
  rw [Calendar.release_covers] at hi
  exact Nat.not_lt.1 fun hlt => hfirst i u hi hb ((Calendar.exchangeOver_iff hs hr hi).2 ⟨ht, hlt⟩)

/-- An exchange with room in every entry takes the old flow from its window and puts the new in its own. -/
theorem Calendar.exchange_room (hs : treeSound c.reaches) (hr : r < 32) (h : ¬(a' < b' ∧ c.slot + 672 < b'))
    (hroom : ∀ j t, c.covers r a' b' j t → ¬c.exchangeOver r a b f b' f' j t) :
    c.exchange r a b f a' b' f' =
      .pass ((c.release r a b f c.slot).addFlow f' ((c.release r a b f c.slot).entries r a' b' 0)) := by
  refine Calendar.reserveTested_room (by simpa using h) fun j t hc ht => ?_
  rw [Calendar.release_covers] at hc
  exact Nat.not_lt.1 fun hlt => hroom j t hc ((Calendar.exchangeOver_iff hs hr hc).2 ⟨ht, hlt⟩)

/-- An eased exchange within its old window is tested nowhere. -/
theorem Calendar.not_exchangeOver (he : f' < f ∨ f' = f ∧ b' < b) (ha : a ≤ a') (hb : b' ≤ b) {j t : Nat}
    (hc : c.covers r a' b' j t) : ¬c.exchangeOver r a b f b' f' j t := by
  obtain ⟨hj, hlo, hhi, hstart, hend⟩ := hc
  exact fun ho => (ho.1 ⟨hj, hlo, hhi, ha.trans hstart, hend.trans_le hb⟩).1 he

end Exchange

/-! ### A ring that changed takes its place (R32, R93, R94) -/

section WithRing

variable {s : State} {c : Calendar} {n : Nat} {p : Point}

/-- The point is the check point, in AUTO, of a reach whose committed flow in the current slot the ring changes. -/
def State.told (s : State) (c : Calendar) (n : Nat) (p : Point) : Prop :=
  p.kind = .check ∧ p.mode = .auto ∧ ∃ r v, s.reach? r = some v ∧ v.check = some n ∧
    s.cal.committedIn r s.cal.slot ≠ c.committedIn r s.cal.slot

theorem State.mem_toldReaches (r : Nat) :
    r ∈ s.toldReaches c ↔
      (∃ v, (r, v) ∈ s.cal.reaches) ∧ s.cal.committedIn r s.cal.slot ≠ c.committedIn r s.cal.slot := by
  simp [State.toldReaches]

theorem State.told_iff (hc : c.reaches = s.cal.reaches) :
    s.told c n p ↔ p.isAutoCheck ∧ n ∈ c.checkPoints (s.toldReaches c) := by
  simp only [State.told, Point.isAutoCheck, and_assoc, Calendar.mem_checkPoints, State.mem_toldReaches, hc]
  refine and_congr_right fun _ => and_congr_right fun _ => exists_congr fun r => ?_
  constructor
  · rintro ⟨v, hv, hn, hne⟩
    exact ⟨⟨v, mem_of_cell? hv⟩, hne, v, hv, hn⟩
  · rintro ⟨-, hne, v, hv, hn⟩
    exact ⟨v, hv, hn, hne⟩

theorem State.withRing_untold (hc : c.reaches = s.cal.reaches) (h : s.point? n = some p) (ht : ¬s.told c n p) :
    (s.withRing c).point? n = some p := by
  rw [State.withRing_eq, State.recheckMany_other]
  · exact h
  · intro hn q hq hauto
    obtain rfl : p = q := Option.some.inj (h.symm.trans hq)
    exact ht ((State.told_iff hc).2 ⟨hauto, hn⟩)

theorem State.withRing_told (hc : c.reaches = s.cal.reaches) (h : s.point? n = some p) (ht : s.told c n p) :
    ∃ g, (s.withRing c).point? n =
      some (p.rechecked (c.committedIn p.reach c.slot + s.extraLoad p.reach) g) := by
  obtain ⟨hauto, hn⟩ := (State.told_iff hc).1 ht
  rw [State.withRing_eq]
  exact State.recheckMany_self hn h hauto

theorem State.withRing_overload (hc : c.reaches = s.cal.reaches) (h : s.point? n = some p) (ht : s.told c n p)
    (hover : p.rated < c.committedIn p.reach c.slot + s.extraLoad p.reach) (hclear : p.overload = false) :
    p.overloadReport ∈ (s.withRing c).mail.reports := by
  obtain ⟨hauto, hn⟩ := (State.told_iff hc).1 ht
  rw [State.withRing_eq]
  exact State.recheckMany_overload hn h hauto hover hclear

theorem State.withRing_none (h : s.point? n = none) : (s.withRing c).point? n = none := by
  rw [State.withRing_eq, State.recheckMany_other]
  · exact h
  · intro _ q hq
    exact absurd (h.symm.trans hq) (by simp)

end WithRing

/-- The order of a reservation's search, from the order of its entries: nothing short stands earlier in the same
reach or in a reach before it on the path. -/
theorem Calendar.none_before {c : Calendar} (hs : treeSound c.reaches) {r a b j t : Nat} {full : Nat → Nat → Prop}
    (hc : c.covers r a b j t) (hslot : ∀ u, u < t → c.covers r a b j u → ¬full j u)
    (hreach : ∀ i u, (pathOf c.reaches r).idxOf i < (pathOf c.reaches r).idxOf j →
      c.covers r a b i u → ¬full i u) :
    ∀ i u, c.covers r a b i u → entryBefore (i, u) (j, t) → ¬full i u := by
  intro i u hi hb
  rcases Calendar.entryBefore_cases hs hi.1 hc.1 hb with h | ⟨rfl, h⟩
  · exact hreach i u h hi
  · exact hslot u h hi

/-- Settles O18: the three operations by what they read and write of each entry, the check targets by the walk
over the check points that are told. -/
theorem reserveAddsAndReleaseSubtractsTheWindow : Obligations.ReserveAddsAndReleaseSubtractsTheWindow := by
  refine ⟨fun c r a b f g hs hr => ⟨?beyond, ?short, ?room, ?release, fun a' b' f' =>
    ⟨?xbeyond, ?xshort, ?xeased, ?xroom⟩⟩,
    fun s m hk => ⟨?frame, ?absent, fun n p hp => ⟨?untold, ?told⟩⟩⟩
  case beyond => exact fun h => Calendar.reserveTested_beyond h
  case short =>
    intro h j t hc ho hslot hreach
    refine Calendar.reserveTested_short hs h hc rfl ho fun i u hi hb _ => ?_
    exact Nat.not_lt.1 (Calendar.none_before hs
      (full := fun j t => c.capacityIn j t < c.committedIn j t + f) hc hslot hreach i u hi hb)
  case room =>
    intro h hroom
    refine ⟨(c.addFlow f (c.entries r a b 0)).committed, ?_, fun j t hj => ?_⟩
    · rw [← c.addFlow_only_committed f]
      exact Calendar.reserveTested_room h fun j t hc _ => Nat.not_lt.1 (hroom j t hc)
    · rw [← c.addFlow_only_committed f]
      exact ⟨Calendar.committedIn_added hs hr hj f, Calendar.committedIn_added_other hs hr hj f⟩
  case release =>
    refine ⟨(c.release r a b f g).committed, c.release_only_committed r a b f g, fun j t hj => ?_⟩
    rw [← c.release_only_committed r a b f g]
    exact ⟨fun hc hg => Calendar.committedIn_release hs hr hj f ⟨hc, hg⟩,
      Calendar.committedIn_release_other hs hr hj f⟩
  case xbeyond => exact fun h => Calendar.exchange_beyond h
  case xshort =>
    intro h j t hc ho hslot hreach
    exact Calendar.exchange_short hs hr h hc ho (Calendar.none_before hs hc hslot hreach)
  case xeased =>
    intro h he ha hb
    exact ⟨_, Calendar.exchange_room hs hr h fun j t hc => Calendar.not_exchangeOver he ha hb hc⟩
  case xroom =>
    intro h hroom
    have hpass := Calendar.exchange_room hs hr h hroom
    have honly := Calendar.exchange_pass hpass
    refine ⟨_, hpass.trans (congrArg Reserved.pass honly), fun j t hj => ?_⟩
    dsimp only
    rw [← honly]
    obtain ⟨hin, hout⟩ := Calendar.committedIn_released (f := f) (a := a) (b := b) (t := t) hs hr hj
    have hs' : treeSound (c.release r a b f c.slot).reaches := by simpa using hs
    have hadd := fun h => Calendar.committedIn_added (t := t) (a := a') (b := b') hs' hr hj f'
      ((c.release_covers r a b f c.slot r a' b' j t).2 h)
    have hkeep := fun h => Calendar.committedIn_added_other (t := t) (a := a') (b := b') hs' hr hj f'
      (mt (c.release_covers r a b f c.slot r a' b' j t).1 h)
    refine ⟨fun h h' => ?_, fun h h' => ?_, fun h h' => ?_, fun h h' => ?_⟩
    · exact (hadd h').trans (congrArg (· + f') (hin h))
    · exact (hkeep h').trans (hin h)
    · exact (hadd h').trans (congrArg (· + f') (hout h))
    · exact (hkeep h').trans (hout h)
  case frame => exact State.withRing_frame _ _
  case absent => exact fun n h => State.withRing_none h
  case untold => exact fun ht => State.withRing_untold rfl hp ht
  case told =>
    intro ht
    obtain ⟨g, hg⟩ := State.withRing_told (c := { s.cal with committed := m }) rfl hp ht
    exact ⟨⟨_, hg, rfl, rfl⟩, State.withRing_overload (c := { s.cal with committed := m }) rfl hp ht⟩

end Sys2Proof.Machine
end

section
/-! The minute edge, CLOCK_QUERY and SUPPLY_SET at the Slot Calendar (R21, R22, R34, R36). -/

namespace Sys2Proof.Machine

/-! ### The minute edge -/

section Advance

variable {s : State}

theorem execMinuteEdge_off (h : s.power = .off) : exec .minuteEdge s = .next s := by
  change Host.Outcome.next _ = _
  simp [State.alive, h]

theorem execMinuteEdge_alive (h : s.power ≠ .off) : exec .minuteEdge s = .next s.minute := by
  change Host.Outcome.next _ = _
  simp [State.alive, h]

theorem State.minute_top (h : 4294967295 ≤ s.cal.clock) : s.minute = s := if_pos h

theorem State.minute_within (h : s.cal.clock < 4294967295) (hm : (s.cal.clock + 1) % 15 ≠ 0) :
    s.minute = { s with cal.clock := s.cal.clock + 1 } :=
  (if_neg (Nat.not_le.2 h)).trans (if_neg hm)

/-- The calendar one minute on. -/
def Calendar.tick (c : Calendar) : Calendar := { c with clock := c.clock + 1 }

theorem State.minute_boundary (h : s.cal.clock < 4294967295) (hm : (s.cal.clock + 1) % 15 = 0) :
    s.minute = { s with cal := s.cal.tick.advance, mail := s.mail.present s.cal.tick.slot } :=
  (if_neg (Nat.not_le.2 h)).trans (if_pos hm)

/-- Slot t - 1 leaves the ring of committed flows, slot t + 671 enters it empty. -/
theorem Calendar.advance_committedIn (c : Calendar) {r : Nat} (u : Nat) (hr : r < 32) :
    c.advance.committedIn r u =
      if u = c.slot - 1 ∨ u = c.slot + 671 then 0 else c.committedIn r u := by
  have hread := cell?_filter_of_key c.committed
    (fun k => k / 32 != c.slot - 1 && k / 32 != c.slot + 671) (ringKey r u)
  have hkeep : (ringKey r u / 32 != c.slot - 1 && ringKey r u / 32 != c.slot + 671) =
      !decide (u = c.slot - 1 ∨ u = c.slot + 671) := by
    rw [ringKey_div u hr, Bool.decide_or, Bool.not_or]
    rfl
  refine (congrArg (Option.getD · 0) hread).trans ?_
  rw [hkeep]
  by_cases hu : u = c.slot - 1 ∨ u = c.slot + 671 <;> simp [hu, Calendar.committedIn, valueAt]

theorem Calendar.advance_supplyIn (c : Calendar) (u : Nat) :
    c.advance.supplyIn u =
      if u = c.slot + 671 then c.defaultSupply else if u = c.slot - 1 then 0 else c.supplyIn u := by
  refine (valueAt_setValue 0 (delCell c.supply (c.slot - 1)) (c.slot + 671) u c.defaultSupply).trans ?_
  refine if_congr Iff.rfl rfl ?_
  rw [valueAt, cell?_delCell]
  by_cases hu : u = c.slot - 1 <;> simp [hu, Calendar.supplyIn, valueAt]

theorem Calendar.advance_headMark (c : Calendar) (u : Nat) :
    c.advance.headMark u = if u = c.slot - 1 ∨ u = c.slot + 671 then .unmarked else c.headMark u := by
  change (cell? (delCell (delCell c.heads (c.slot - 1)) (c.slot + 671)) u).getD .unmarked = _
  rw [cell?_delCell, cell?_delCell]
  by_cases h1 : u = c.slot - 1 <;> by_cases h2 : u = c.slot + 671 <;>
    simp [h1, h2, Calendar.headMark, valueAt]

end Advance

/-- Settles O15: a part without supply, a clock at its top, a minute within a slot, and a boundary. -/
theorem minuteEdgeAdvancesTheClock : Obligations.MinuteEdgeAdvancesTheClock := by
  refine fun s => ⟨execMinuteEdge_off, fun hp h => ?top, fun hp h hm => ?within, fun hp h hm => ?boundary⟩
  case top => rw [execMinuteEdge_alive hp, State.minute_top h]
  case within => rw [execMinuteEdge_alive hp, State.minute_within h hm]
  case boundary =>
    refine ⟨s.cal.tick.advance.committed, s.cal.tick.advance.supply, s.cal.tick.advance.heads, ?_,
      fun r u hr => s.cal.tick.advance_committedIn u hr, fun u => s.cal.tick.advance_supplyIn u,
      fun u => s.cal.tick.advance_headMark u⟩
    rw [execMinuteEdge_alive hp, State.minute_boundary h hm]
    rfl

/-! ### CLOCK_QUERY -/

theorem Calendar.minute_in_slot (c : Calendar) : c.clock % 15 = c.clock - 15 * c.slot := by
  change c.clock % 15 = c.clock - 15 * (c.clock / 15)
  omega

/-- Settles O12: the minute within the slot is what the clock exceeds its slot by. -/
theorem clockQueryAnswersTheClock : Obligations.ClockQueryAnswersTheClock := by
  intro s h
  refine completes_unchanged (act := reqClockQuery) rfl h ?_
  rw [← s.cal.minute_in_slot]
  rfl

/-! ### SUPPLY_SET -/

/-- A run of writes of one kind, read back by a field that each write changes at its own slot only, to a value
that no write of the run changes. -/
theorem foldl_written {α : Type} {w : Calendar → Nat → Calendar} {read : Calendar → Nat → α}
    {val : Calendar → Nat → α}
    (hread : ∀ c t u, read (w c t) u = if u = t then val c t else read c u)
    (hval : ∀ c t u, val (w c t) u = val c u) (ts : List Nat) (c : Calendar) (u : Nat) :
    read (ts.foldl w c) u = if u ∈ ts then val c u else read c u := by
  induction ts generalizing c with
  | nil => simp
  | cons t ts ih =>
    rw [List.foldl_cons, ih, hval, hread]
    by_cases hu : u ∈ ts <;> by_cases ht : u = t <;> simp [hu, ht]

namespace Calendar

variable (c : Calendar) (ts : List Nat) (flow : Nat)

theorem writeSupply_only_supply : c.writeSupply ts flow = { c with supply := (c.writeSupply ts flow).supply } := by
  unfold writeSupply
  induction ts generalizing c with
  | nil => rfl
  | cons t ts ih => rw [List.foldl_cons, ih]; rfl

theorem compareHeads_only_heads : c.compareHeads ts = { c with heads := (c.compareHeads ts).heads } := by
  unfold compareHeads
  induction ts generalizing c with
  | nil => rfl
  | cons t ts ih => rw [List.foldl_cons, ih]; rfl

theorem writeSupply_supplyIn (u : Nat) :
    (c.writeSupply ts flow).supplyIn u = if u ∈ ts then flow else c.supplyIn u :=
  foldl_written (val := fun _ _ => flow) (fun c t u => valueAt_setValue 0 c.supply t u flow)
    (fun _ _ _ => rfl) ts c u

theorem compareHeads_headMark (u : Nat) :
    (c.compareHeads ts).headMark u =
      if u ∈ ts then (if c.headOver u then .bumpPending else .unmarked) else c.headMark u :=
  foldl_written (w := fun c t => c.setHeadMark t (if c.headOver t then .bumpPending else .unmarked))
    (val := fun c t => if c.headOver t then HeadMark.bumpPending else .unmarked)
    (fun c t u => valueAt_setValue HeadMark.unmarked c.heads t u _)
    (fun _ _ _ => rfl) ts c u

/-- The calendar after SUPPLY_SET has written a run. -/
def supplied (first count flow : Nat) : Calendar :=
  (c.writeSupply (List.range' first count) flow).compareHeads (List.range' first count)

variable (first count : Nat)

theorem supplied_eq :
    c.supplied first count flow =
      { c with supply := (c.supplied first count flow).supply
               heads := (c.supplied first count flow).heads } := by
  unfold supplied
  rw [compareHeads_only_heads, writeSupply_only_supply]

theorem supplied_supplyIn (t : Nat) :
    (c.supplied first count flow).supplyIn t =
      if first ≤ t ∧ t < first + count then flow else c.supplyIn t := by
  unfold supplied
  rw [compareHeads_only_heads]
  refine (c.writeSupply_supplyIn (List.range' first count) flow t).trans ?_
  exact if_congr List.mem_range'_1 rfl rfl

theorem supplied_headMark (t : Nat) :
    (c.supplied first count flow).headMark t =
      if first ≤ t ∧ t < first + count then
        (if (c.supplied first count flow).headOver t then .bumpPending else .unmarked)
      else c.headMark t := by
  unfold supplied
  rw [compareHeads_headMark, compareHeads_only_heads]
  refine if_congr List.mem_range'_1 rfl ?_
  rw [writeSupply_only_supply]
  rfl

end Calendar

/-- Some slot of the run takes more head capacity than it had. -/
def Calendar.raises (c : Calendar) (first count flow : Nat) : Bool :=
  (List.range' first count).any
    (fun t => decide (c.capacityIn 0 t < (c.supplied first count flow).capacityIn 0 t))

theorem Calendar.raises_iff (c : Calendar) (first count flow : Nat) :
    c.raises first count flow = true ↔
      ∃ t, (first ≤ t ∧ t < first + count) ∧
        c.capacityIn 0 t < (c.supplied first count flow).capacityIn 0 t := by
  simp [raises, List.mem_range'_1]

section SupplySet

variable {s : State} {first count flow : Nat}

theorem reqSupplySet_outOfRange (h : count < 1 ∨ 672 < count ∨ 60000 < flow) :
    reqSupplySet first count flow s = (s, refusal .badParam) := if_pos h

theorem reqSupplySet_inRange (h : ¬(count < 1 ∨ 672 < count ∨ 60000 < flow)) :
    reqSupplySet first count flow s =
      if first < s.cal.slot ∨ s.cal.slot + 671 < first + count - 1 then (s, refusal .beyondHorizon)
      else if s.sweeping then (s, refusal .busySweep)
      else s.writeSupplies first count flow := by
  have hout := s.cal.outside_iff (first := first) (show 1 ≤ count by omega)
  refine (if_neg h).trans ?_
  simp only [hout]

theorem reqSupplySet_completes {t : State} {a : Reply} (hh : s.handed (.supplySet first count flow) = true)
    (he : reqSupplySet first count flow s = (t, a)) : Completes (.supplySet first count flow) s t a := by
  have hf := reqSupplySet_fixed s first count flow
  rw [he] at hf
  obtain ⟨-, -, hport, -⟩ := State.fixed_fields hf
  exact completes_of_handed rfl hh he (congrArg Port.command hport)

end SupplySet

/-- Settles O17: the checks in their order; the run's writes slot by slot; the comparison reads what the writes
of the head marks leave alone. -/
theorem supplySetWritesTheRun : Obligations.SupplySetWritesTheRun := by
  intro s first count flow hh
  refine ⟨fun h => ?range, fun h ho => ?outside, fun h ho hw => ?sweeping, fun h ho hw => ?written⟩
  case range => exact refuses_of_handed rfl hh (reqSupplySet_outOfRange h)
  case outside => exact refuses_of_handed rfl hh ((reqSupplySet_inRange h).trans (if_pos ho))
  case sweeping =>
    exact refuses_of_handed rfl hh ((reqSupplySet_inRange h).trans ((if_neg ho).trans (if_pos hw)))
  case written =>
    have hact : reqSupplySet first count flow s = s.writeSupplies first count flow :=
      (reqSupplySet_inRange h).trans ((if_neg ho).trans (if_neg (by simp [hw])))
    refine ⟨(s.cal.supplied first count flow).supply, (s.cal.supplied first count flow).heads, ?_⟩
    rw [← s.cal.supplied_eq flow first count]
    intro k written overfull n raised run w s1 r
    have hwrites : s.writeSupplies first count flow =
        (if s.cal.raises first count flow then s1.startReexamination.arbitrate else s1,
          if n = 0 then answer .done (be16 count) else w.accepted (be16 count ++ be16 n)) := rfl
    have hreply : (if n = 0 then answer .done (be16 count) else w.accepted (be16 count ++ be16 n)) = r := by
      simp [r, Sweep.accepted, Sweep.parameterBytes, w, List.append_assoc, sweepKindCode]
    rw [hreply] at hwrites
    have hraised := s.cal.raises_iff first count flow
    refine ⟨s.cal.supplied_supplyIn flow first count, fun t => ?_, fun hr => ?_, fun hr => ?_⟩
    · exact s.cal.supplied_headMark flow first count t
    · refine reqSupplySet_completes hh (hact.trans (hwrites.trans ?_))
      rw [if_pos (hraised.2 hr)]
    · refine reqSupplySet_completes hh (hact.trans (hwrites.trans ?_))
      rw [if_neg fun h => hr (hraised.1 h)]

end Sys2Proof.Machine
end

section
/-! The capacity ring as an invariant: the committed flow of a reach in a slot is a sum over the entries of the order
table (R27, R28), and what the ring reads of the records. -/

namespace Sys2Proof.Machine

/-! ### Sums over the entries of a table -/

/-- What a table gives at a number, 0 where nothing is listed. -/
def cellSum {α : Type} (f : α → Nat) (t : Table α) (i : Nat) : Nat := ((cell? t i).map f).getD 0

theorem cellSum_of_cell? {α : Type} {f : α → Nat} {t : Table α} {i : Nat} {v : α} (h : cell? t i = some v) :
    cellSum f t i = f v := by simp [cellSum, h]

theorem cellSum_of_none {α : Type} {f : α → Nat} {t : Table α} {i : Nat} (h : cell? t i = none) :
    cellSum f t i = 0 := by simp [cellSum, h]

/-- In a table with rising record numbers, the number of the first entry is not listed again. -/
theorem cell?_tail_of_rising {α : Type} {k : Nat} {v : α} {t : Table α} (h : risingKeys ((k, v) :: t) = true) :
    cell? t k = none := by
  rw [risingKeys_iff] at h
  cases hc : cell? t k with
  | none => rfl
  | some w => exact absurd ((List.pairwise_cons.1 h).1 _ (mem_of_cell? hc)) (Nat.lt_irrefl k)

theorem risingKeys_tail {α : Type} {e : Nat × α} {t : Table α} (h : risingKeys (e :: t) = true) :
    risingKeys t = true := by
  rw [risingKeys_iff] at h ⊢
  exact (List.pairwise_cons.1 h).2

/-- A sum over the entries of a table is the sum over the record numbers. -/
theorem sum_entries {α : Type} (f : α → Nat) (n : Nat) {t : Table α} (h : risingKeys t = true)
    (hn : ∀ i v, cell? t i = some v → i < n) :
    (t.map (fun e => f e.2)).sum = ∑ i ∈ Finset.range n, cellSum f t i := by
  induction t with
  | nil => simp [cellSum]
  | cons e t ih =>
    obtain ⟨k, v⟩ := e
    have hout : cell? t k = none := cell?_tail_of_rising h
    have hk : k < n := hn k v (by simp [cell?_cons])
    have hsplit : ∀ i, cellSum f ((k, v) :: t) i = (if i = k then f v else 0) + cellSum f t i := by
      intro i
      by_cases hi : i = k
      · subst hi
        simp [cellSum, cell?_cons, hout]
      · simp [cellSum, cell?_cons, hi, Ne.symm hi]
    have htail : ∀ i w, cell? t i = some w → i < n := by
      intro i w hw
      refine hn i w ?_
      rw [cell?_cons, if_neg, hw]
      rintro rfl
      rw [hout] at hw
      cases hw
    simp only [hsplit, Finset.sum_add_distrib, List.map_cons, List.sum_cons, ih (risingKeys_tail h) htail]
    congr 1
    rw [Finset.sum_ite_eq' (Finset.range n) k (fun _ => f v)]
    simp [hk]

/-! ### What an order holds -/

/-- A state in which an order holds its flow (R28). -/
def Order.holding (o : Order) : Prop :=
  o.state = .confirmed ∨ o.state = .running ∨ o.state = .suspended ∨ o.state = .closing

theorem Order.holding.live {o : Order} (h : o.holding) : o.live = true := by
  rcases h with h | h | h | h <;> simp [Order.live, h]

/-- What the ring reads of an order; RUNNING and SUSPENDED are one to it. -/
def Order.ringPart (o : Order) : Nat × Nat × Nat × Nat × Option Nat × OrderState :=
  (o.point, o.start, o.duration, o.flow, o.cut, if o.due then .running else o.state)

/-- Two orders are one to the ring. -/
structure Order.Alike (o o' : Order) : Prop where
  point : o'.point = o.point
  start : o'.start = o.start
  duration : o'.duration = o.duration
  flow : o'.flow = o.flow
  cut : o'.cut = o.cut
  holding : o'.holding ↔ o.holding
  live : o'.live = o.live
  closing : o'.state = .closing ↔ o.state = .closing
  waiting : o'.state = .pendingWait ↔ o.state = .pendingWait

theorem Order.alike_of_ringPart {o o' : Order} (h : o'.ringPart = o.ringPart) : o.Alike o' := by
  simp only [Order.ringPart, Prod.mk.injEq] at h
  obtain ⟨hp, hs, hd, hf, hc, hst⟩ := h
  have hstate : ∀ x : Order, (if x.due then OrderState.running else x.state) =
      match x.state with | .suspended => .running | y => y := by
    intro x
    cases hx : x.state <;> simp [Order.due, hx]
  rw [hstate, hstate] at hst
  refine ⟨hp, hs, hd, hf, hc, ?_, ?_, ?_, ?_⟩ <;>
    cases ho : o.state <;> cases ho' : o'.state <;> simp_all [Order.holding, Order.live]

/-- The flow that an order holds in a reach and a slot. -/
def State.held (s : State) (j t : Nat) (o : Order) : Nat := if s.holds o j t then o.flow else 0

theorem State.holds_iff (s : State) (o : Order) (j t : Nat) :
    s.holds o j t = true ↔ o.holding ∧
      (j ∈ pathOf s.cal.reaches (s.reachOf o) ∧
        o.start ≤ t + (lagOf s.cal.reaches (s.reachOf o) - lagOf s.cal.reaches j) ∧
        t + (lagOf s.cal.reaches (s.reachOf o) - lagOf s.cal.reaches j) < o.start + o.duration) ∧
      ∀ c, o.cut = some c → t ≤ c := by
  cases hc : o.cut <;> simp [State.holds, Order.holding, hc, and_assoc]

theorem State.holds_holding {s : State} {o : Order} {j t : Nat} (h : s.holds o j t = true) : o.holding :=
  ((s.holds_iff o j t).1 h).1

theorem State.held_of_not_holding {s : State} {o : Order} (h : ¬o.holding) (j t : Nat) : s.held j t o = 0 :=
  if_neg fun hh => h (State.holds_holding hh)

/-- Within horizon, an order without a cut holds what its lag-shifted window covers. -/
theorem State.holds_uncut {s : State} {o : Order} {j t : Nat} (ho : o.holding) (hc : o.cut = none)
    (hw : s.cal.within t) : s.holds o j t = true ↔ s.cal.covers (s.reachOf o) o.start o.endSlot j t := by
  rw [State.holds_iff, Calendar.covers_iff]
  simp [ho, hc, hw, Order.endSlot]

/-- The sum over the orders is a sum over the table indexes. -/
theorem State.flowHeld_eq {s : State} (h : risingKeys s.obk.orders = true)
    (hi : ∀ i o, cell? s.obk.orders i = some o → i < 2048) (j t : Nat) :
    s.flowHeld j t = ∑ i ∈ Finset.range 2048, cellSum (s.held j t) s.obk.orders i := by
  rw [← sum_entries (s.held j t) 2048 h hi, State.flowHeld]
  induction s.obk.orders with
  | nil => rfl
  | cons e l ih =>
    by_cases he : s.holds e.2 j t <;> simp [he, ih, State.held]

/-! ### The invariant -/

/-- The committed flow is within the capacity, but in a head reach slot with a head mark (R28). -/
def Calendar.roomy (c : Calendar) (j t : Nat) : Prop :=
  c.committedIn j t ≤ c.capacityIn j t ∨ j = 0 ∧ c.headMark t ≠ .unmarked

/-- What stands of a live order: its point, its window within horizon, and no cut before it is CLOSING. -/
structure State.Stands (s : State) (o : Order) : Prop where
  point : s.point? o.point ≠ none
  window : o.endSlot ≤ s.cal.slot + 672
  uncut : o.state ≠ .closing → o.cut = none

theorem State.Stands.transfer {s t : State} {o : Order} (h : s.Stands o)
    (hp : t.point? o.point = none → s.point? o.point = none) (hs : t.cal.slot = s.cal.slot) : t.Stands o :=
  ⟨mt hp h.point, by rw [hs]; exact h.window, h.uncut⟩

/-- The ring so kept, with the sums over the table indexes, and what a walk over the waiting list rests on: each
handle on it names, once, an order that waits (R72). -/
structure RingSound (s : State) : Prop where
  tree : treeSound s.cal.reaches
  ordersRise : risingKeys s.obk.orders = true
  index : ∀ i o, cell? s.obk.orders i = some o → i < 2048
  pointsRise : risingKeys s.points = true
  rooted : s.rooted
  stands : ∀ i o, cell? s.obk.orders i = some o → o.live = true → s.Stands o
  slot : s.obk.slot ≤ s.cal.slot
  presented : ∀ t ∈ s.mail.orderBook, t ≤ s.cal.slot
  flow : ∀ j t, j < 32 → s.cal.within t →
    s.cal.committedIn j t = ∑ i ∈ Finset.range 2048, cellSum (s.held j t) s.obk.orders i
  room : ∀ j t, j < 32 → s.cal.within t → s.cal.roomy j t
  once : s.obk.waiting.Nodup
  waits : ∀ h ∈ s.obk.waiting, ∃ i o,
    cell? s.obk.orders i = some o ∧ o.state = .pendingWait ∧ h = s.obk.handle i

theorem OrderBook.handle_mod (b : OrderBook) {i : Nat} (h : i < 2048) : b.handle i % 2048 = i := by
  change (b.generation i * 2048 + i) % 2048 = i
  omega

theorem OrderBook.handle_div (b : OrderBook) {i : Nat} (h : i < 2048) :
    b.handle i / 2048 = b.generation i := by
  change (b.generation i * 2048 + i) / 2048 = _
  omega

theorem OrderBook.named?_handle {b : OrderBook} {i : Nat} {o : Order} (hi : i < 2048)
    (h : cell? b.orders i = some o) : b.named? (b.handle i) = some (i, o) := by
  change (match cell? b.orders (b.handle i % 2048) with
    | none => none
    | some o => if b.generation (b.handle i % 2048) = b.handle i / 2048 then some (b.handle i % 2048, o) else none) = _
  rw [b.handle_mod hi, b.handle_div hi, h]
  simp

/-- A handle names the order in the entry it spells. -/
theorem OrderBook.cell?_of_named? {b : OrderBook} {h i : Nat} {o : Order} (hn : b.named? h = some (i, o)) :
    cell? b.orders i = some o := by
  unfold OrderBook.named? at hn
  split at hn
  · cases hn
  · next o' ho =>
    split_ifs at hn
    cases hn
    exact ho

/-- The waiting list's handles are those of the PENDING_WAIT orders, in ascending placement sequence; so each
stands once. -/
theorem State.queued.waiting_nodup {s : State} (h : s.queued) : s.obk.waiting.Nodup := by
  obtain ⟨-, -, -, hseq, -⟩ := h
  refine List.Nodup.of_map s.obk.sequenceOf (hseq.imp Nat.ne_of_lt)

theorem RingSound.of_kept {s : State} (hk : s.ringKept) (hq : s.queued) : RingSound s := by
  have hnodup := hq.waiting_nodup
  obtain ⟨htree, hrise, hpoints, hroot, hlive, hslot, hmail, hring⟩ := hk
  obtain ⟨-, hindex, hwait, -, -⟩ := hq
  have hi : ∀ i o, cell? s.obk.orders i = some o → i < 2048 := fun i o h => (hindex i o h).1
  refine ⟨htree, hrise, hi, hpoints, hroot, fun i o h hl => ?_, hslot, hmail, fun j t hj hw => ?_,
    fun j t hj hw => (hring j t hj hw.1 hw.2).2, hnodup, fun h hh => (hwait h).1 hh⟩
  · obtain ⟨hp, he, hc⟩ := hlive i o h hl
    exact ⟨hp, he, hc⟩
  · rw [← State.flowHeld_eq hrise hi]
    exact (hring j t hj hw.1 hw.2).1

theorem RingSound.kept {s : State} (h : RingSound s) : s.ringKept := by
  refine ⟨h.tree, h.ordersRise, h.pointsRise, h.rooted, fun i o ho hl => ?_, h.slot, h.presented,
    fun j t hj hlo hhi => ⟨?_, h.room j t hj ⟨hlo, hhi⟩⟩⟩
  · obtain ⟨hp, he, hc⟩ := h.stands i o ho hl
    exact ⟨hp, he, hc⟩
  · rw [State.flowHeld_eq h.ordersRise h.index]
    exact h.flow j t hj ⟨hlo, hhi⟩

end Sys2Proof.Machine
end

section
/-! How the ring is kept when records it does not read change, and when the order of one table index changes with
the ring (R28 to R31). -/

namespace Sys2Proof.Machine

/-! ### Reaches of points -/

/-- Every point lies on the same reach, and a point is UNUSED in the one state when it is in the other. -/
def SamePlaces (s t : State) : Prop := ∀ n, (t.point? n).map Point.reach = (s.point? n).map Point.reach

theorem SamePlaces.reachOf {s t : State} (h : SamePlaces s t) (o : Order) : t.reachOf o = s.reachOf o :=
  congrArg (fun x : Option Nat => x.getD 0) (h o.point)

theorem SamePlaces.none_iff {s t : State} (h : SamePlaces s t) (n : Nat) : t.point? n = none ↔ s.point? n = none := by
  rw [← Option.map_eq_none_iff, h n, Option.map_eq_none_iff]

theorem SamePlaces.holds {s t : State} (h : SamePlaces s t) (hr : t.cal.reaches = s.cal.reaches) :
    t.holds = s.holds := by
  funext o j u
  simp only [State.holds, h.reachOf o, hr]

theorem SamePlaces.rooted {s t : State} (h : SamePlaces s t) (hr : t.cal.reaches = s.cal.reaches)
    (hs : s.rooted) : t.rooted := by
  obtain ⟨hparents, hpoints⟩ := hs
  refine ⟨by simpa [State.reach?, hr] using hparents, fun n p hp => ?_⟩
  have hn := h n
  rw [hp, Option.map_some, eq_comm, Option.map_eq_some_iff] at hn
  obtain ⟨q, hq, hqr⟩ := hn
  rw [State.reach?, hr, ← hqr]
  exact hpoints n q hq

theorem State.reachOf_of_point {s : State} {o : Order} {p : Point} (h : s.point? o.point = some p) :
    s.reachOf o = p.reach := by simp [State.reachOf, h]

/-- The reach of an order whose point exists is configured. -/
theorem RingSound.reachOf_configured {s : State} (h : RingSound s) {o : Order} (hp : s.point? o.point ≠ none) :
    s.reach? (s.reachOf o) ≠ none := by
  obtain ⟨p, hp⟩ := Option.ne_none_iff_exists'.1 hp
  rw [State.reachOf_of_point hp]
  exact h.rooted.2 _ p hp

theorem RingSound.reachOf_lt {s : State} (h : RingSound s) {o : Order} (hp : s.point? o.point ≠ none) :
    s.reachOf o < 32 := by
  obtain ⟨v, hv⟩ := Option.ne_none_iff_exists'.1 (h.reachOf_configured hp)
  exact (h.tree _ v hv).1

/-! ### Records the ring does not read -/

/-- The order tables are one to the ring, and the Order Book's slot, handles and waiting list are the same. -/
structure SameBook (s t : State) : Prop where
  orders : risingKeys s.obk.orders = true →
    ∀ i, (cell? t.obk.orders i).map Order.ringPart = (cell? s.obk.orders i).map Order.ringPart
  rise : risingKeys s.obk.orders = true → risingKeys t.obk.orders = true
  slot : t.obk.slot = s.obk.slot
  generations : t.obk.generations = s.obk.generations
  waiting : t.obk.waiting = s.obk.waiting
  presented : t.mail.orderBook = s.mail.orderBook

namespace SameBook

variable {s t u : State}

theorem of_eq (h : t.obk = s.obk) (hm : t.mail.orderBook = s.mail.orderBook) : SameBook s t := by
  refine ⟨fun _ i => ?_, fun hr => ?_, ?_, ?_, ?_, hm⟩ <;> simp only [h]
  exact hr

theorem trans (h : SameBook s t) (h' : SameBook t u) : SameBook s u :=
  ⟨fun hr i => (h'.orders (h.rise hr) i).trans (h.orders hr i), fun hr => h'.rise (h.rise hr), h'.slot.trans h.slot,
    h'.generations.trans h.generations, h'.waiting.trans h.waiting, h'.presented.trans h.presented⟩

/-- An order of the one table has its like in the other. -/
theorem alike (h : SameBook s t) (hr : risingKeys s.obk.orders = true) {i : Nat} {o' : Order}
    (ho : cell? t.obk.orders i = some o') :
    ∃ o, cell? s.obk.orders i = some o ∧ o.Alike o' := by
  have hi := h.orders hr i
  rw [ho, Option.map_some, eq_comm, Option.map_eq_some_iff] at hi
  obtain ⟨o, hc, hr⟩ := hi
  exact ⟨o, hc, Order.alike_of_ringPart hr.symm⟩

theorem alike' (h : SameBook s t) (hr : risingKeys s.obk.orders = true) {i : Nat} {o : Order}
    (ho : cell? s.obk.orders i = some o) :
    ∃ o', cell? t.obk.orders i = some o' ∧ o.Alike o' := by
  have hi := h.orders hr i
  rw [ho, Option.map_some, Option.map_eq_some_iff] at hi
  obtain ⟨o', hc, hr⟩ := hi
  exact ⟨o', hc, Order.alike_of_ringPart hr⟩

theorem handle (h : SameBook s t) (i : Nat) : t.obk.handle i = s.obk.handle i := by
  simp only [OrderBook.handle, OrderBook.generation, h.generations]

end SameBook

theorem Order.Alike.holds {o o' : Order} (h : o.Alike o') (s : State) (j t : Nat) :
    s.holds o' j t = s.holds o j t := by
  have hr : s.reachOf o' = s.reachOf o := by rw [State.reachOf, h.point]; rfl
  rw [Bool.eq_iff_iff, State.holds_iff, State.holds_iff, hr, h.holding, h.start, h.duration, h.cut]

/-- The ring is kept when nothing that it reads of the orders changes, the reaches and points change only so that
each live order holds what it held, and no room is lost. -/
theorem RingSound.refit {s t : State} (h : RingSound s) (hb : SameBook s t)
    (hslot : t.cal.slot = s.cal.slot) (committed : t.cal.committed = s.cal.committed)
    (tree : treeSound t.cal.reaches) (rise : risingKeys t.points = true) (rooted : t.rooted)
    (points : ∀ i o, cell? s.obk.orders i = some o → o.live = true → t.point? o.point ≠ none)
    (holds : ∀ i o, cell? s.obk.orders i = some o → o.live = true → ∀ j u, t.holds o j u = s.holds o j u)
    (room : ∀ j u, j < 32 → s.cal.within u → s.cal.roomy j u → t.cal.roomy j u) : RingSound t := by
  have hwithin : t.cal.within = s.cal.within := by
    funext u
    simp only [Calendar.within, hslot]
  have hcom : t.cal.committedIn = s.cal.committedIn := by
    funext j u
    simp only [Calendar.committedIn, committed]
  refine ⟨tree, hb.rise h.ordersRise, fun i o ho => ?_, rise, rooted, fun i o' ho hl => ?_, ?_, ?_,
    fun j u hj hu => ?_, fun j u hj hu => ?_, ?_, fun x hx => ?_⟩
  · obtain ⟨o₀, ho, -⟩ := hb.alike h.ordersRise ho
    exact h.index i o₀ ho
  · obtain ⟨o, ho, ha⟩ := hb.alike h.ordersRise ho
    have hl : o.live = true := ha.live ▸ hl
    obtain ⟨-, he, hc⟩ := h.stands i o ho hl
    refine ⟨ha.point ▸ points i o ho hl, ?_, ?_⟩
    · rw [Order.endSlot, ha.start, ha.duration, hslot]
      exact he
    · rw [ha.cut]
      exact fun hn => hc (mt ha.closing.2 hn)
  · rw [hb.slot, hslot]
    exact h.slot
  · rw [hb.presented, hslot]
    exact h.presented
  · rw [hwithin] at hu
    rw [hcom, h.flow j u hj hu]
    refine Finset.sum_congr rfl fun i _ => ?_
    cases ho : cell? s.obk.orders i with
    | none =>
      have ho' : cell? t.obk.orders i = none := by
        have hi := hb.orders h.ordersRise i
        rwa [ho, Option.map_none, Option.map_eq_none_iff] at hi
      rw [cellSum_of_none ho, cellSum_of_none ho']
    | some o =>
      obtain ⟨o', ho', ha⟩ := hb.alike' h.ordersRise ho
      rw [cellSum_of_cell? ho, cellSum_of_cell? ho', State.held, State.held, ha.holds, ha.flow]
      by_cases hl : o.live = true
      · rw [holds i o ho hl]
      · have hn : ¬o.holding := fun hh => hl hh.live
        rw [if_neg fun hh => hn (State.holds_holding hh), if_neg fun hh => hn (State.holds_holding hh)]
  · rw [hwithin] at hu
    exact room j u hj hu (h.room j u hj hu)
  · rw [hb.waiting]
    exact h.once
  · rw [hb.waiting] at hx
    obtain ⟨i, o, ho, hw, rfl⟩ := h.waits x hx
    obtain ⟨o', ho', ha⟩ := hb.alike' h.ordersRise ho
    exact ⟨i, o', ho', ha.waiting.2 hw, (hb.handle i).symm⟩

/-- Nothing that the ring reads is changed. -/
structure Redrawn (s t : State) : Prop where
  book : SameBook s t
  cal : t.cal = s.cal
  places : risingKeys s.points = true → SamePlaces s t
  rise : risingKeys s.points = true → risingKeys t.points = true

theorem Redrawn.trans {s t u : State} (h : Redrawn s t) (h' : Redrawn t u) : Redrawn s u :=
  ⟨h.book.trans h'.book, h'.cal.trans h.cal, fun hr n => (h'.places (h.rise hr) n).trans (h.places hr n),
    fun hr => h'.rise (h.rise hr)⟩

/-- The same, with the last change named first. -/
theorem Redrawn.after {s t u : State} (h' : Redrawn t u) (h : Redrawn s t) : Redrawn s u := h.trans h'

/-- The calendar, the Order Book, the points and the boundaries presented to the Order Book are the same. -/
theorem Redrawn.of_eq {s t : State} (hc : t.cal = s.cal) (ho : t.obk = s.obk) (hp : t.points = s.points)
    (hm : t.mail.orderBook = s.mail.orderBook) : Redrawn s t := by
  refine ⟨.of_eq ho hm, hc, fun _ n => ?_, fun hr => ?_⟩
  · simp only [State.point?, hp]
  · rwa [hp]

theorem Redrawn.refl (s : State) : Redrawn s s := .of_eq rfl rfl rfl rfl

theorem RingSound.redrawn {s t : State} (h : RingSound s) (hr : Redrawn s t) : RingSound t := by
  have hplaces := hr.places h.pointsRise
  have hreach : t.cal.reaches = s.cal.reaches := by rw [hr.cal]
  refine h.refit hr.book (by rw [hr.cal]) (by rw [hr.cal]) (by rw [hr.cal]; exact h.tree) (hr.rise h.pointsRise)
    (hplaces.rooted hreach h.rooted) (fun i o ho hl => ?_) (fun i o _ _ j u => ?_)
    (fun j u _ _ hroom => by rwa [hr.cal])
  · exact mt (hplaces.none_iff _).1 (h.stands i o ho hl).point
  · rw [hplaces.holds hreach]

/-! ### The order of one table index changes -/

/-- The order of table index i becomes o, the calendar c and the waiting list w; nothing else that the ring reads
changes. -/
structure Puts (s t : State) (i : Nat) (o : Order) (c : Calendar) (w : List Nat) : Prop where
  orders : t.obk.orders = setCell s.obk.orders i o
  cal : t.cal = c
  waiting : t.obk.waiting = w
  slot : t.obk.slot = s.obk.slot
  generations : t.obk.generations = s.obk.generations
  presented : t.mail.orderBook = s.mail.orderBook
  places : risingKeys s.points = true → SamePlaces s t
  rise : risingKeys s.points = true → risingKeys t.points = true

/-- The waiting list after a change to the order of table index i names orders that wait, each once. -/
def WaitsAfter (s : State) (i : Nat) (o : Order) (w : List Nat) : Prop :=
  w.Nodup ∧ ∀ h ∈ w,
    h ∈ s.obk.waiting ∧ h ≠ s.obk.handle i ∨ h = s.obk.handle i ∧ o.state = .pendingWait

namespace RingSound

variable {s t : State} {i : Nat} {o old : Order}

/-- An order that does not wait is not on the waiting list. -/
theorem handle_not_waiting (h : RingSound s) (hi : i < 2048)
    (hn : ∀ o, cell? s.obk.orders i = some o → o.state ≠ .pendingWait) : s.obk.handle i ∉ s.obk.waiting := by
  intro hm
  obtain ⟨k, o, ho, hw, he⟩ := h.waits _ hm
  have hk := h.index k o ho
  have hik : i = k := by
    rw [← s.obk.handle_mod hi, he, s.obk.handle_mod hk]
  exact hn o (hik ▸ ho) hw

theorem waits_same (h : RingSound s) (hi : i < 2048)
    (hn : ∀ o, cell? s.obk.orders i = some o → o.state ≠ .pendingWait) : WaitsAfter s i o s.obk.waiting := by
  refine ⟨h.once, fun x hx => Or.inl ⟨hx, ?_⟩⟩
  rintro rfl
  exact h.handle_not_waiting hi hn hx

theorem waits_left (h : RingSound s) : WaitsAfter s i o (dropFrom s.obk.waiting (s.obk.handle i)) :=
  ⟨h.once.filter _, fun x hx => Or.inl (by simpa [dropFrom] using hx)⟩

theorem waits_joined (h : RingSound s) (hi : i < 2048)
    (hn : ∀ o, cell? s.obk.orders i = some o → o.state ≠ .pendingWait) (hw : o.state = .pendingWait) :
    WaitsAfter s i o (s.obk.waiting ++ [s.obk.handle i]) := by
  have hnot := h.handle_not_waiting hi hn
  refine ⟨h.once.append (List.nodup_singleton _) (by simpa using hnot), fun x hx => ?_⟩
  rcases List.mem_append.1 hx with hx | hx
  · exact Or.inl ⟨hx, fun he => hnot (he ▸ hx)⟩
  · exact Or.inr ⟨List.mem_singleton.1 hx, hw⟩

/-- What an order holds is part of the committed flow. -/
theorem held_le (h : RingSound s) (ho : cell? s.obk.orders i = some o) {j u : Nat} (hj : j < 32)
    (hu : s.cal.within u) : s.held j u o ≤ s.cal.committedIn j u := by
  rw [h.flow j u hj hu, ← cellSum_of_cell? (f := s.held j u) ho]
  exact Finset.single_le_sum (fun _ _ => Nat.zero_le _) (Finset.mem_range.2 (h.index i o ho))

/-- The ring is kept when the order of one table index changes and the committed flows change by what the order
then holds less what it held, and stay within the capacity where they grow. -/
theorem put {c : Calendar} {w : List Nat} (h : RingSound s) (hp : Puts s t i o c w) (hi : i < 2048)
    (hc : c = { s.cal with committed := c.committed }) (hstands : o.live = true → s.Stands o)
    (hflow : ∀ j u, j < 32 → s.cal.within u →
      c.committedIn j u + cellSum (s.held j u) s.obk.orders i = s.cal.committedIn j u + s.held j u o)
    (hroom : ∀ j u, j < 32 → s.cal.within u →
      c.committedIn j u ≤ s.cal.committedIn j u ∨ c.committedIn j u ≤ s.cal.capacityIn j u)
    (hwaits : WaitsAfter s i o w) : RingSound t := by
  have hplaces := hp.places h.pointsRise
  have hreach : t.cal.reaches = s.cal.reaches := by rw [hp.cal, hc]
  have hslot : t.cal.slot = s.cal.slot := by rw [hp.cal, hc]; rfl
  have hwithin : t.cal.within = s.cal.within := by
    funext u
    simp only [Calendar.within, hslot]
  have hheld : ∀ j u, t.held j u = s.held j u := by
    intro j u
    funext x
    rw [State.held, State.held, hplaces.holds hreach]
  have hread : ∀ k, cell? t.obk.orders k = if k = i then some o else cell? s.obk.orders k := by
    intro k
    rw [hp.orders]
    exact cell?_setCell _ _ _ _
  have hhandle : ∀ k, t.obk.handle k = s.obk.handle k := by
    intro k
    simp only [OrderBook.handle, OrderBook.generation, hp.generations]
  refine ⟨by rw [hreach]; exact h.tree, by rw [hp.orders]; exact risingKeys_setCell i o h.ordersRise,
    fun k x hk => ?_, hp.rise h.pointsRise, hplaces.rooted hreach h.rooted, fun k x hk hl => ?_, ?_, ?_,
    fun j u hj hu => ?_, fun j u hj hu => ?_, ?_, fun x hx => ?_⟩
  · rw [hread] at hk
    split_ifs at hk with hki
    · exact hki ▸ hi
    · exact h.index k x hk
  · have hx : s.Stands x := by
      rw [hread] at hk
      split_ifs at hk
      · cases hk
        exact hstands hl
      · exact h.stands k x hk hl
    exact hx.transfer (hplaces.none_iff _).1 hslot
  · rw [hp.slot, hslot]
    exact h.slot
  · rw [hp.presented, hslot]
    exact h.presented
  · rw [hwithin] at hu
    have hmem := Finset.mem_range.2 hi
    have hself : cellSum (t.held j u) t.obk.orders i = s.held j u o := by
      rw [hheld]
      exact cellSum_of_cell? ((hread i).trans (if_pos rfl))
    have hrest : ∑ k ∈ (Finset.range 2048).erase i, cellSum (t.held j u) t.obk.orders k =
        ∑ k ∈ (Finset.range 2048).erase i, cellSum (s.held j u) s.obk.orders k := by
      refine Finset.sum_congr rfl fun k hk => ?_
      rw [hheld, cellSum, hread, if_neg (Finset.ne_of_mem_erase hk)]
      rfl
    have hold := h.flow j u hj hu
    have hnew := hflow j u hj hu
    rw [← Finset.add_sum_erase _ _ hmem] at hold
    rw [← Finset.add_sum_erase _ _ hmem, hself, hrest, hp.cal]
    omega
  · rw [hwithin] at hu
    have hcap : c.capacityIn j u = s.cal.capacityIn j u := by rw [hc]; rfl
    have hmark : c.headMark u = s.cal.headMark u := by rw [hc]; rfl
    rw [hp.cal, Calendar.roomy, hcap, hmark]
    rcases hroom j u hj hu with hle | hle
    · exact (h.room j u hj hu).imp_left hle.trans
    · exact Or.inl hle
  · rw [hp.waiting]
    exact hwaits.1
  · rw [hp.waiting] at hx
    rcases hwaits.2 x hx with ⟨hx, hne⟩ | ⟨rfl, hw⟩
    · obtain ⟨k, y, hy, hw, rfl⟩ := h.waits x hx
      have hki : k ≠ i := fun he => hne (he ▸ rfl)
      exact ⟨k, y, by rw [hread, if_neg hki]; exact hy, hw, (hhandle k).symm⟩
    · exact ⟨i, o, by rw [hread, if_pos rfl], hw, (hhandle i).symm⟩

end RingSound

end Sys2Proof.Machine
end

section
/-! What the operations of the field line, Release Control, the meters and the accounts leave of what the capacity
ring reads: all of it. -/

namespace Sys2Proof.Machine

/-! ### Sorted walks -/

theorem insertBy_perm {α : Type} (before : α → α → Bool) (x : α) (l : List α) :
    (insertBy before x l).Perm (x :: l) := by
  induction l with
  | nil => exact .refl _
  | cons y l ih =>
    unfold insertBy
    split
    · exact .refl _
    · exact (ih.cons y).trans (.swap x y l)

theorem sortBy_perm {α : Type} (before : α → α → Bool) (l : List α) : (sortBy before l).Perm l := by
  induction l with
  | nil => exact .refl _
  | cons x l ih => exact (insertBy_perm before x _).trans (ih.cons x)

theorem mem_sortBy {α : Type} {before : α → α → Bool} {l : List α} {x : α} :
    x ∈ sortBy before l ↔ x ∈ l :=
  (sortBy_perm before l).mem_iff

/-- A point's RUNNING or SUSPENDED order is an entry of the table. -/
theorem OrderBook.mem_of_dueOrder {b : OrderBook} {p i : Nat} {o : Order} (h : b.dueOrder p = some (i, o)) :
    (i, o) ∈ b.orders ∧ o.due = true ∧ o.point = p := by
  have hm := mem_sortBy.1 (List.mem_of_find?_eq_some h)
  obtain ⟨hm, hp⟩ := List.mem_filter.1 hm
  simp only [Bool.and_eq_true, decide_eq_true_eq] at hp
  exact ⟨hm, by simpa using List.find?_some h, hp.1⟩

theorem Order.ringPart_of_due {o : Order} (h : o.due = true) :
    o.ringPart = (o.point, o.start, o.duration, o.flow, o.cut, .running) := by
  simp [Order.ringPart, h]

/-- A mode makes a due order RUNNING or SUSPENDED (R65). -/
theorem dueUnder_due (m : Mode) (o : Order) :
    ({ o with state := (dueUnder m).1, suspendReason := (dueUnder m).2 } : Order).due = true := by
  cases m <;> rfl

/-! ### One record -/

theorem SamePlaces.setPoint {s : State} {n : Nat} {p : Point} (q : Point) (h : s.point? n = some p)
    (hr : q.reach = p.reach) : SamePlaces s (s.setPoint n q) := by
  intro m
  rw [State.setPoint_point?]
  by_cases hm : m = n
  · subst hm
    simp [h, hr]
  · rw [if_neg hm]

namespace Redrawn

variable (s : State)

theorem setPoint {s : State} {n : Nat} {p : Point} (q : Point) (h : s.point? n = some p)
    (hr : q.reach = p.reach) : Redrawn s (s.setPoint n q) :=
  ⟨.of_eq rfl rfl, rfl, fun _ => .setPoint q h hr, fun h => risingKeys_setCell n q h⟩

theorem changePoint (n : Nat) (f : Point → Point) (hf : ∀ p, (f p).reach = p.reach) :
    Redrawn s (s.changePoint n f) := by
  unfold State.changePoint
  cases h : s.point? n with
  | none => exact .refl s
  | some p => exact .setPoint _ h (hf p)

theorem report (k : ErrorKind) (r : ErrorRef) : Redrawn s (s.report k r) := .of_eq rfl rfl rfl rfl
theorem setStation (a : Nat) (v : Station) : Redrawn s (s.setStation a v) := .of_eq rfl rfl rfl rfl
theorem setAccount (n : Nat) (a : Account) : Redrawn s (s.setAccount n a) := .of_eq rfl rfl rfl rfl
theorem notify (n : Nat) (o : Option Scheduled) : Redrawn s (s.notify n o) := .of_eq rfl rfl rfl rfl

theorem reviseAccount (n : Nat) (f : Account → Account) : Redrawn s (s.reviseAccount n f) := by
  unfold State.reviseAccount
  split
  · exact .refl s
  · exact .setAccount s n _

/-- Of the Order Book, the change marks, the owed indicator, the placement sequence, the templates and the search
are not read. -/
theorem of_aside (marks : List Nat) (owed : Bool) (sequence : Nat) (templates : Table Template)
    (search : Option Search) :
    Redrawn s { s with
      obk.marks := marks, obk.owed := owed, obk.sequence := sequence, obk.templates := templates
      obk.search := search } :=
  ⟨⟨fun _ _ => rfl, id, rfl, rfl, rfl, rfl⟩, rfl, fun _ _ => rfl, id⟩

theorem markOrder (i : Nat) : Redrawn s (s.markOrder i) := .of_aside s _ _ _ _ _
theorem owe : Redrawn s s.owe := .of_aside s _ _ _ _ _

theorem markHandle (h : Option Nat) : Redrawn s (s.markHandle h) := by
  unfold State.markHandle
  split
  · exact .refl s
  · exact .markOrder s _

theorem changeSweep (f : Sweep → Sweep) : Redrawn s (s.changeSweep f) := .of_eq rfl rfl rfl rfl
theorem tally (f : Counts → Counts) : Redrawn s (s.tally f) := .changeSweep s _
theorem moveCursor (c : Nat) : Redrawn s (s.moveCursor c) := .changeSweep s _
theorem startSweep (w : Sweep) : Redrawn s (s.startSweep w) := .of_eq rfl rfl rfl rfl
theorem closeSweep (st : SweepState) : Redrawn s (s.closeSweep st) := .of_eq rfl rfl rfl rfl

theorem ite {p : Prop} [Decidable p] {s t u : State} (h : Redrawn s t) (h' : Redrawn s u) :
    Redrawn s (if p then t else u) := by
  split
  · exact h
  · exact h'

theorem foldl {β : Type} {f : State → β → State} (h : ∀ s x, Redrawn s (f s x)) (l : List β) :
    Redrawn s (l.foldl f s) :=
  foldl_inv (Redrawn s) f (fun _ x ht => ht.trans (h _ x)) l s (.refl s)

/-- An order that takes the place of its like. -/
theorem putOrder {s : State} {i : Nat} {o : Order} (o' : Order)
    (h : risingKeys s.obk.orders = true → cell? s.obk.orders i = some o) (ha : o'.ringPart = o.ringPart) :
    Redrawn s (s.putOrder i o') := by
  have hbook : ∀ t : State, t.obk = { s.obk with orders := setCell s.obk.orders i o' } →
      t.mail = s.mail → SameBook s t := by
    intro t hobk hmail
    refine ⟨fun hr k => ?_, fun hr => ?_, by rw [hobk], by rw [hobk], by rw [hobk], by rw [hmail]⟩
    · rw [hobk, cell?_setCell]
      by_cases hk : k = i
      · rw [if_pos hk, hk, h hr, Option.map_some, Option.map_some, ha]
      · rw [if_neg hk]
    · rw [hobk]
      exact risingKeys_setCell i o' hr
  unfold State.putOrder
  dsimp only
  split <;> exact ⟨hbook _ rfl rfl, rfl, fun _ _ => rfl, id⟩

/-! ### The field side of a point (chapter 6) -/

theorem reevaluate (n : Nat) : Redrawn s (s.reevaluate n) :=
  .ite (.refl s) (.changePoint s n _ fun _ => rfl)

theorem resend (n : Nat) : Redrawn s (s.resend n) :=
  .after (.reevaluate _ n) (.changePoint s n _ fun _ => rfl)

theorem withdraw (n : Nat) : Redrawn s (s.withdraw n) := .changePoint s n _ fun _ => rfl

theorem setTarget (n flow : Nat) : Redrawn s (s.setTarget n flow) := by
  unfold State.setTarget
  cases h : s.point? n with
  | none => exact .refl s
  | some p =>
    have hset : Redrawn s (s.setPoint n { p with target := flow }) := .setPoint _ h rfl
    exact .ite (.refl s) (.ite (hset.trans (.reevaluate _ n)) hset)

theorem offerPoll : Redrawn s s.offerPoll := by
  unfold State.offerPoll
  split
  · exact .of_eq rfl rfl rfl rfl
  · exact .refl s

/-- A transaction that begins takes a point's setpoint in flight. -/
theorem beginSet {n : Nat} {p : Point} (h : (n, p) ∈ s.points) : Redrawn s (s.beginSet n p) := by
  refine ⟨.of_eq rfl rfl, rfl, fun hr => ?_, fun hr => risingKeys_setCell n _ hr⟩
  exact .setPoint (s := s) (n := n) (p := p) { p with
    field.inFlight := some p.target, field.sendPending := false, field.resendOwed := false } (cell?_of_mem hr h) rfl

theorem arbitrate : Redrawn s s.arbitrate := by
  unfold State.arbitrate
  split
  · exact .refl s
  · split
    · exact .refl s
    · exact .offerPoll s
    · split
      · next e he => exact .beginSet s (List.mem_of_find?_eq_some he)
      · exact .offerPoll s

/-! ### Targets, frost extra loads and modes (chapter 5) -/

theorem recheck (n : Nat) : Redrawn s (s.recheck n) := by
  by_cases h : ∃ p, s.point? n = some p ∧ p.isAutoCheck
  · obtain ⟨p, hp, hc⟩ := h
    rw [State.recheck_eq hp hc]
    have hset := setPoint (s := s) { p with overload := decide (p.rated < s.checkDemand p.reach) } hp rfl
    exact (hset.trans (.ite (.report _ _ _) (.refl _))).trans (.setTarget _ _ _)
  · rw [State.recheck_idle fun p hp hc => h ⟨p, hp, hc⟩]
    exact .refl s

theorem recheckMany (ns : List Nat) : Redrawn s (s.recheckMany ns) := .foldl s (fun s n => recheck s n) ns

theorem recheckReach (r : Nat) : Redrawn s (s.recheckReach r) := by
  unfold State.recheckReach
  split
  · exact .refl s
  · exact .recheck s _

theorem retarget (n : Nat) : Redrawn s (s.retarget n) := by
  unfold State.retarget
  split
  · exact .refl s
  · split
    · exact .setTarget s n _
    · exact .recheck s n

theorem refreshFrost (rs : List Nat) : Redrawn s (s.refreshFrost rs) :=
  .after (.foldl _ (fun s r => recheckReach s r) _) (.of_eq rfl rfl rfl rfl)

theorem refreshPath (r : Nat) : Redrawn s (s.refreshPath r) := .refreshFrost s _

/-- A point's due order takes the state its mode gives it, which the ring does not tell from the other. -/
theorem alignOrder (n : Nat) (m : Mode) : Redrawn s (s.alignOrder n m) := by
  unfold State.alignOrder
  split
  · exact .refl s
  · next i o h =>
    obtain ⟨hm, hdue, -⟩ := OrderBook.mem_of_dueOrder h
    refine .ite (.refl s) (Redrawn.trans ?_ (.markOrder _ i))
    refine .putOrder _ (fun hr => cell?_of_mem hr hm) ?_
    rw [Order.ringPart_of_due hdue, Order.ringPart_of_due (dueUnder_due m o)]

theorem changeMode (n : Nat) (m : Mode) : Redrawn s (s.changeMode n m) := by
  unfold State.changeMode
  cases h : s.point? n with
  | none => exact .refl s
  | some p =>
    dsimp only
    have h1 := setPoint { p with mode := m, overload := p.overload && decide (m = .auto) } h rfl
    have h2 := h1.trans (.ite (p := p.kind = .turnout) (.alignOrder _ n m) (.refl _))
    have h3 := h2.trans (.ite (p := m = .auto) (.retarget _ n) (.refl _))
    have h4 := h3.trans (.ite (p := p.kind = .turnout ∧ p.backup.isSome) (.refreshPath _ p.reach) (.refl _))
    exact h4.trans (.ite (.resend _ n) (.ite (.withdraw _ n) (.refl _)))

theorem clearCloseOwed (n : Nat) : Redrawn s (s.clearCloseOwed n) := by
  unfold State.clearCloseOwed
  cases h : s.point? n with
  | none => exact .refl s
  | some p =>
    have hset := setPoint { p with closeOwed := false } h rfl
    exact .ite (.ite hset (hset.trans (.withdraw _ n))) (.refl s)

theorem switchLocal (n : Nat) : Redrawn s (s.switchLocal n) := by
  unfold State.switchLocal
  cases h : s.point? n with
  | none => exact .refl s
  | some p =>
    have hset := (setPoint { p with switch := .manual } h rfl).trans (.clearCloseOwed _ n)
    dsimp only
    split
    · refine Redrawn.trans ?_ (.ite (.report _ _ _) (.refl _))
      exact .after (.changeMode _ n .localHold) (.after (.changePoint _ n _ fun _ => rfl) hset)
    · exact hset
    · exact hset

theorem switchRemote (n : Nat) : Redrawn s (s.switchRemote n) := by
  unfold State.switchRemote
  cases h : s.point? n with
  | none => exact .refl s
  | some p =>
    have hset := setPoint { p with switch := .remote } h rfl
    dsimp only
    split
    · exact hset.trans (.changeMode _ n _)
    · exact hset
    · exact hset

theorem takeGate (g : GateNews) : Redrawn s (s.takeGate g) := by
  unfold State.takeGate
  split
  · exact .refl s
  · dsimp only
    refine Redrawn.trans ?_ (.ite (.report _ _ _) (.refl _))
    refine Redrawn.trans ?_ (.changePoint _ _ _ fun _ => rfl)
    split
    · exact .switchLocal s _
    · exact .switchRemote s _

theorem enterFrost (e : Nat × Point) : Redrawn s (s.enterFrost e) :=
  .after (.retarget _ e.1) (.changePoint s e.1 _ fun _ => rfl)

theorem leaveFrost (e : Nat × Point) : Redrawn s (s.leaveFrost e) := by
  have h := changePoint s e.1 (fun p => { p with backup := none }) fun _ => rfl
  exact .ite (h.trans (.retarget _ e.1)) h

theorem enablePoint {n : Nat} {p : Point} (h : s.point? n = some p) : Redrawn s (s.enablePoint n p) := by
  refine (setPoint _ h ?_).trans (.changeMode _ n .auto)
  unfold Point.applyStaged
  split <;> rfl

theorem closePoint {n : Nat} {p : Point} (h : s.point? n = some p) : Redrawn s (s.closePoint n p) := by
  have hset := setPoint { p with
    target := 0
    closeOwed := p.closeOwed || (decide (p.mode = .auto) ||
      (decide (p.mode = .disabled) && decide (p.switch = .remote))) } h rfl
  have hmode := hset.trans (.ite (p := p.mode = .disabled) (.refl _) (.changeMode _ n .disabled))
  exact .ite (hmode.trans (.resend _ n)) hmode

theorem leavePoint (n : Nat) (p : Point) : Redrawn s (s.leavePoint n p) :=
  .ite (.refl s) (.changeMode s n .disabled)

theorem takeNotice (n : Notice) : Redrawn s (s.takeNotice n) := by
  unfold State.takeNotice State.turnout?
  cases h : s.point? n.point with
  | none => exact .refl s
  | some p =>
    dsimp only
    split
    · exact .refl s
    · next q hq =>
      split_ifs at hq
      cases hq
      refine Redrawn.trans ?_ (.ite (.refreshPath _ p.reach) (.refl _))
      refine Redrawn.trans ?_ (.ite (.retarget _ n.point) (.refl _))
      exact .setPoint _ h rfl

/-! ### The field line (chapter 6) -/

theorem stationFailed (a : Nat) : Redrawn s (s.stationFailed a) :=
  .ite (.refl s) (.ite ((setStation s a _).trans (.report _ _ _)) (.setStation s a _))

theorem setAcknowledged (n v applied : Nat) : Redrawn s (s.setAcknowledged n v applied) := by
  unfold State.setAcknowledged
  dsimp only
  refine Redrawn.trans ?_ (.reevaluate _ n)
  refine Redrawn.trans (t := if decide (applied = v) = true then _ else _) ?_ (.of_eq rfl rfl rfl rfl)
  refine Redrawn.trans (.changePoint s n _ fun _ => ?_) (.ite (.refl _) (.report _ _ _))
  rfl

theorem setRefused (n : Nat) : Redrawn s (s.setRefused n) :=
  .after (.switchLocal _ n) (.changePoint s n _ fun _ => rfl)

theorem setLost (n : Nat) : Redrawn s (s.setLost n) :=
  .after (.reevaluate _ n) (.changePoint s n _ fun _ => rfl)

theorem setFailed (n : Nat) : Redrawn s (s.setFailed n) :=
  .after (.setLost _ n) (.after (.report _ _ _) (.changePoint s n _ fun _ => rfl))

theorem lineIdle : Redrawn s s.lineIdle := .of_eq rfl rfl rfl rfl

theorem endUnanswered (t : Transaction) : Redrawn s (s.endUnanswered t) := by
  unfold State.endUnanswered
  dsimp only
  refine (lineIdle s).trans ?_
  split
  · exact .stationFailed _ _
  · exact .ite (.ite (.refl _) (.setLost _ _))
      ((stationFailed _ _).trans (.ite (.refl _) (.setFailed _ _)))

theorem badReply (t : Transaction) (length : Nat) : Redrawn s (s.badReply t length) :=
  (report s _ _).trans (.ite (.endUnanswered _ t) (.of_eq rfl rfl rfl rfl))

theorem deliverChannel (a : Nat) (frame : List Byte) (c : Nat) : Redrawn s (deliverChannel a frame s c) := by
  unfold Machine.deliverChannel
  dsimp only
  split
  · exact .refl s
  · exact .of_eq rfl rfl rfl rfl

theorem endAnswered (t : Transaction) (frame : List Byte) : Redrawn s (s.endAnswered t frame) := by
  unfold State.endAnswered
  dsimp only
  refine ((lineIdle s).trans (t := s.lineIdle) (u := s.lineIdle.stationAnswered t.job.station)
    (.setStation _ _ _)).trans ?_
  split
  · exact .foldl _ (fun s c => deliverChannel s _ frame c) _
  · exact .ite (.refl _) (.ite (.setAcknowledged _ _ _ _) (.setRefused _ _))

theorem cutShort : Redrawn s s.cutShort := by
  unfold State.cutShort
  split
  · split
    · exact .of_eq rfl rfl rfl rfl
    · exact .refl s
  · exact .refl s

theorem abandonPoll : Redrawn s s.abandonPoll := by
  unfold State.abandonPoll
  split
  · split
    · exact .of_eq rfl rfl rfl rfl
    · exact .refl s
  · exact .refl s

theorem holdLine : Redrawn s s.holdLine := by
  unfold State.holdLine
  split
  · exact .after (.arbitrate _) (.after (.cutShort _) (.of_eq rfl rfl rfl rfl))
  · exact .refl s
  · exact .refl s

theorem abandon : Redrawn s s.abandon := by
  unfold State.abandon
  split
  · exact .refl s
  · split
    · exact .of_eq rfl rfl rfl rfl
    · exact .ite (.lineIdle s) ((lineIdle s).trans (.changePoint _ _ _ fun _ => rfl))

theorem resetLine : Redrawn s s.resetLine := by
  refine .after (.foldl _ (fun s (e : Nat × Point) => reevaluate s e.1) _) ?_
  exact (abandon s).trans (.of_eq rfl rfl rfl rfl)

theorem abortSweep : Redrawn s s.abortSweep := by
  unfold State.abortSweep
  split
  · exact .refl s
  · exact .ite ((closeSweep s _).trans (.report _ _ _)) (.refl s)

theorem resetPort : Redrawn s s.resetPort := by
  unfold State.resetPort
  dsimp only
  split
  · exact (markHandle s _).trans (.of_eq rfl rfl rfl rfl)
  · exact .of_eq rfl rfl rfl rfl

theorem warmReset : Redrawn s s.warmReset :=
  ((resetPort s).trans (.resetLine _)).trans (.abortSweep _)

/-! ### Meters and postings (chapter 7) -/

theorem failMeter {n : Nat} {p : Point} (h : s.point? n = some p) : Redrawn s (s.failMeter n p) :=
  .ite (.refl s) (.after (.report _ _ _) (.setPoint _ h rfl))

/-- A posting adds to an order's volumes alone. -/
theorem postOrder (v : Nat) (estimated : Bool) (place : Place) : Redrawn s (s.postOrder v estimated place) := by
  unfold State.postOrder
  split
  · split
    · exact .refl s
    · next h => exact .putOrder _ (fun _ => h) rfl
  · exact .refl s
  · exact .refl s

theorem post (n v : Nat) (estimated : Bool) (place : Place) (short : Bool) :
    Redrawn s (s.post n v estimated place short) := by
  unfold State.post
  split
  · exact .refl s
  · exact ((postOrder s v estimated place).trans (.reviseAccount _ n _)).trans
      (.ite (.report _ _ _) (.refl _))

theorem postAll (n : Nat) (estimated : Bool) (l : List (Nat × Place)) (short : Bool) :
    Redrawn s (s.postAll n estimated l short) := by
  induction l generalizing s short with
  | nil => exact .refl s
  | cons e l ih => exact .ite (ih s short) ((post s n _ _ _ _).trans (ih _ _))

theorem convertReading {n : Nat} {p : Point} (totalizer : Nat) (h : s.point? n = some p) :
    Redrawn s (s.convertReading n p totalizer) := by
  unfold State.convertReading
  dsimp only
  refine .ite ?_ ?_
  · have hheld := (setPoint { p with meter := p.meter.held } h rfl).trans
      (.report _ .meterImplausible (.number n))
    exact .ite (hheld.trans (.report _ _ _)) hheld
  · have hset := setPoint { p with meter := p.meter.accepted p.active totalizer s.cal.clock } h rfl
    split
    · exact hset
    · exact hset.trans (.postAll _ _ _ _ _)

theorem takeReading (g : Reading) : Redrawn s (s.takeReading g) := by
  unfold State.takeReading
  cases h : s.point? g.point with
  | none => exact .refl s
  | some p =>
    dsimp only
    split
    · exact .refl s
    · exact .ite (.failMeter s h) (.setPoint _ h rfl)
    · exact .ite (.failMeter s h) (.setPoint _ h rfl)
    · exact .ite (.failMeter s h) (.convertReading s _ h)
    · exact .ite (.failMeter s h) (.convertReading s _ h)

theorem silentMeter (t n : Nat) : Redrawn s (s.silentMeter t n) := by
  unfold State.silentMeter
  cases h : s.point? n with
  | none => exact .refl s
  | some p => exact .ite (.failMeter s h) (.refl s)

theorem estimate (u n : Nat) : Redrawn s (s.estimate u n) := by
  unfold State.estimate State.turnout?
  cases h : s.point? n with
  | none => exact .refl s
  | some p =>
    dsimp only
    split
    · exact .refl s
    · next q hq =>
      split_ifs at hq
      cases hq
      refine .ite ?_ (.refl s)
      have hset := setPoint { p with
        meter.seasonEstimated := saturate p.meter.seasonEstimated (p.field.acknowledged * Config.slotLitres) } h rfl
      split
      · exact hset
      · exact hset.trans (.postAll _ _ _ _ _)

theorem meterBoundary (t : Nat) : Redrawn s (s.meterBoundary t) := by
  refine Redrawn.trans (t := s.silenceTest t) ?_ (.foldl _ (fun s n => estimate s (t - 1) n) _)
  exact .ite (.refl s) (.foldl s (fun s n => silentMeter s t n) _)

/-! ### Accounts and sweeps (chapters 8 and 9) -/

theorem moveLitres (a b v : Nat) : Redrawn s (s.moveLitres a b v) :=
  (reviseAccount s a _).trans (.reviseAccount _ b _)

theorem accountChanged (n : Nat) : Redrawn s (s.accountChanged n) := by
  unfold State.accountChanged
  split
  · exact .refl s
  · exact (setAccount s n _).trans (.tally _ _)

theorem openSeason : Redrawn s s.openSeason := by
  have h : Redrawn s { s with accounts := s.accounts.map (fun e => (e.1, e.2.opening)) } :=
    .of_eq rfl rfl rfl rfl
  exact .ite (h.trans (.owe _)) h

theorem skipPassed : Redrawn s s.skipPassed := by
  unfold State.skipPassed
  split
  · exact .refl s
  · exact .ite (.moveCursor s _) (.refl s)

end Redrawn

end Sys2Proof.Machine
end

section
/-! Cancelling, expiring, cutting, trimming and bumping an order, each with what it takes from the ring (R30, R55,
R56, R58). -/

namespace Sys2Proof.Machine

/-! ### A ring takes its place, then an order -/

/-- A ring that takes its place changes points in AUTO that are check points, none in its reach (R32). -/
theorem State.withRing_parts (s : State) (c : Calendar) : ∃ points reports,
    s.withRing c = { s with cal := c, points := points, mail.reports := reports } ∧
      (risingKeys s.points = true → SamePlaces s { s with points := points }) ∧
      (risingKeys s.points = true → risingKeys points = true) := by
  have h := Redrawn.recheckMany { s with cal := c } (c.checkPoints (s.toldReaches c))
  rw [← State.withRing_eq] at h
  exact ⟨_, _, s.withRing_frame c, h.places, h.rise⟩

/-- An order is put into a state that differs from another in its calendar, its waiting list and in records the ring
does not read. -/
theorem Puts.putOrder {s u : State} {i : Nat} {o : Order} (orders : u.obk.orders = s.obk.orders)
    (slot : u.obk.slot = s.obk.slot) (generations : u.obk.generations = s.obk.generations)
    (presented : u.mail.orderBook = s.mail.orderBook) (places : risingKeys s.points = true → SamePlaces s u)
    (rise : risingKeys s.points = true → risingKeys u.points = true) :
    Puts s (u.putOrder i o) i o u.cal u.obk.waiting := by
  unfold State.putOrder
  dsimp only
  split <;> exact ⟨congrArg (setCell · i o) orders, rfl, rfl, slot, generations, presented, places, rise⟩

theorem Puts.joinWaiting {s t : State} {i k : Nat} {o : Order} {c : Calendar} {w : List Nat} (h : Puts s t i o c w) :
    Puts s (t.joinWaiting k) i o c (w ++ [k]) :=
  ⟨h.orders, h.cal, congrArg (· ++ [k]) h.waiting, h.slot, h.generations, h.presented, h.places, h.rise⟩

/-! ### What an uncut order holds -/

section Held

variable {s : State} {o : Order} {j u : Nat} (ho : o.holding) (hc : o.cut = none) (hw : s.cal.within u)

include ho hc hw

theorem State.held_covered (h : s.cal.covers (s.reachOf o) o.start o.endSlot j u) : s.held j u o = o.flow :=
  if_pos ((State.holds_uncut ho hc hw).2 h)

theorem State.held_uncovered (h : ¬s.cal.covers (s.reachOf o) o.start o.endSlot j u) : s.held j u o = 0 :=
  if_neg (mt (State.holds_uncut ho hc hw).1 h)

end Held

/-- A window is its part before a slot and its part from that slot on. -/
theorem Calendar.covers_split (c : Calendar) (r j t : Nat) {a m b : Nat} (ha : a ≤ m) (hb : m ≤ b) :
    c.covers r a b j t ↔ c.covers r a m j t ∨ c.covers r m b j t := by
  simp only [Calendar.covers_iff]
  constructor
  · rintro ⟨hj, hw, hlo, hhi⟩
    rcases Nat.lt_or_ge (t + (lagOf c.reaches r - lagOf c.reaches j)) m with h | h
    · exact Or.inl ⟨hj, hw, hlo, h⟩
    · exact Or.inr ⟨hj, hw, h, hhi⟩
  · rintro (⟨hj, hw, hlo, hhi⟩ | ⟨hj, hw, hlo, hhi⟩)
    · exact ⟨hj, hw, hlo, hhi.trans_le hb⟩
    · exact ⟨hj, hw, ha.trans hlo, hhi⟩

theorem Calendar.covers_disjoint {c : Calendar} {r j t a m b : Nat} (h : c.covers r a m j t) :
    ¬c.covers r m b j t := by
  intro h'
  obtain ⟨-, -, -, -, hhi⟩ := h
  obtain ⟨-, -, -, hlo, -⟩ := h'
  omega

namespace RingSound

variable {s t : State} {i : Nat} {o o' : Order} {w : List Nat}

/-! ### The three ways an order and the ring change together -/

/-- An order that comes to hold just what it held leaves the ring as it is. -/
theorem put_same (h : RingSound s) (hp : Puts s t i o' s.cal w) (ho : cell? s.obk.orders i = some o)
    (hstands : o'.live = true → s.Stands o')
    (hheld : ∀ j u, j < 32 → s.cal.within u → s.held j u o' = s.held j u o) (hwaits : WaitsAfter s i o' w) :
    RingSound t := by
  refine h.put hp (h.index i o ho) rfl hstands (fun j u hj hu => ?_) (fun j u _ _ => Or.inl le_rfl) hwaits
  rw [cellSum_of_cell? ho, hheld j u hj hu]

/-- An order that gives up the flow in part of its window, with that flow released (R30). -/
theorem put_released {r a b f g : Nat} (h : RingSound s) (hp : Puts s t i o' (s.cal.release r a b f g) w)
    (ho : cell? s.obk.orders i = some o) (hr : r < 32) (hstands : o'.live = true → s.Stands o')
    (hin : ∀ j u, s.cal.within u → s.cal.covers r a b j u ∧ g ≤ u → s.held j u o = s.held j u o' + f)
    (hout : ∀ j u, s.cal.within u → ¬(s.cal.covers r a b j u ∧ g ≤ u) → s.held j u o = s.held j u o')
    (hwaits : WaitsAfter s i o' w) : RingSound t := by
  have hread : ∀ j u, j < 32 → s.cal.within u →
      (s.cal.release r a b f g).committedIn j u + s.held j u o = s.cal.committedIn j u + s.held j u o' ∧
        (s.cal.release r a b f g).committedIn j u ≤ s.cal.committedIn j u := by
    intro j u hj hu
    have hle := h.held_le ho hj hu
    by_cases hc : s.cal.covers r a b j u ∧ g ≤ u
    · rw [Calendar.committedIn_release h.tree hr hj f hc]
      have := hin j u hu hc
      omega
    · rw [Calendar.committedIn_release_other h.tree hr hj f hc]
      have := hout j u hu hc
      omega
  refine h.put hp (h.index i o ho) (s.cal.release_only_committed r a b f g) hstands (fun j u hj hu => ?_)
    (fun j u hj hu => Or.inl (hread j u hj hu).2) hwaits
  rw [cellSum_of_cell? ho]
  exact (hread j u hj hu).1

/-! ### A live order -/

theorem live_reach (h : RingSound s) (ho : cell? s.obk.orders i = some o) (hl : o.live = true) :
    s.reachOf o < 32 := h.reachOf_lt (h.stands i o ho hl).point

/-- No order but a CLOSING one is cut. -/
theorem uncut (h : RingSound s) (ho : cell? s.obk.orders i = some o) (hl : o.live = true)
    (hn : o.state ≠ .closing) : o.cut = none := (h.stands i o ho hl).uncut hn

theorem floor_le (h : RingSound s) {u : Nat} (hw : s.cal.within u) : s.obk.slot ≤ u := h.slot.trans hw.1

/-- A CONFIRMED order that is not live after, or waits, gives up its whole window. -/
theorem put_freed (h : RingSound s) (ho : cell? s.obk.orders i = some o) (hs : o.state = .confirmed)
    (hp : Puts s t i o' (s.cal.release (s.reachOf o) o.start o.endSlot o.flow s.obk.slot) w)
    (hn : ¬o'.holding) (hstands : o'.live = true → s.Stands o') (hwaits : WaitsAfter s i o' w) : RingSound t := by
  have hl : o.live = true := by simp [Order.live, hs]
  have hc : o.cut = none := h.uncut ho hl (by simp [hs])
  have hh : o.holding := Or.inl hs
  refine h.put_released hp ho (h.live_reach ho hl) hstands (fun j u hw hcov => ?_) (fun j u hw hcov => ?_) hwaits
  · rw [State.held_covered hh hc hw hcov.1, State.held_of_not_holding hn, Nat.zero_add]
  · rw [State.held_uncovered hh hc hw fun hcov' => hcov ⟨hcov', h.floor_le hw⟩, State.held_of_not_holding hn]

/-! ### Cancel, expire, cut, trim, bump -/

theorem cancelOrder (h : RingSound s) (ho : cell? s.obk.orders i = some o)
    (hs : o.state = .pendingWait ∨ o.state = .confirmed) (why : CloseReason) :
    RingSound (s.cancelOrder i o why) := by
  have hdead : ∀ x : Order, x.state = .cancelled → x.live ≠ true ∧ ¬x.holding := by
    intro x hx
    simp [Order.live, Order.holding, hx]
  unfold State.cancelOrder State.freeOrder
  rcases hs with hs | hs
  · simp only [hs]
    refine h.put_same (w := dropFrom s.obk.waiting (s.obk.handle i))
      (.putOrder (u := s.leaveWaiting (s.obk.handle i)) rfl rfl rfl rfl (fun _ _ => rfl) id) ho
      (fun hl => absurd hl (hdead _ rfl).1) (fun j u _ _ => ?_) h.waits_left
    rw [State.held_of_not_holding (hdead _ rfl).2, State.held_of_not_holding (by simp [Order.holding, hs])]
  · simp only [hs, State.releaseOrder]
    obtain ⟨points, reports, he, hplaces, hrise⟩ :=
      s.withRing_parts (s.cal.release (s.reachOf o) o.start o.endSlot o.flow s.obk.slot)
    rw [he]
    refine h.put_freed ho hs (.putOrder rfl rfl rfl rfl hplaces hrise) (hdead _ rfl).2
      (fun hl => absurd hl (hdead _ rfl).1) ?_
    refine h.waits_same (h.index i o ho) fun x hx => ?_
    rw [ho] at hx
    cases hx
    simp [hs]

/-- The state of a table index is that of its order. -/
theorem not_waiting_of (ho : cell? s.obk.orders i = some o) (hn : o.state ≠ .pendingWait) :
    ∀ x, cell? s.obk.orders i = some x → x.state ≠ .pendingWait := by
  intro x hx
  rw [ho] at hx
  cases hx
  exact hn

theorem expireOrder (h : RingSound s) (ho : cell? s.obk.orders i = some o) (hs : o.state = .pendingWait) :
    RingSound (s.expireOrder i o) := by
  refine RingSound.redrawn ?_ (.markOrder _ i)
  refine h.put_same (w := dropFrom s.obk.waiting (s.obk.handle i))
    (.putOrder (u := s.leaveWaiting (s.obk.handle i)) rfl rfl rfl rfl (fun _ _ => rfl) id) ho
    (fun hl => by simp [Order.live] at hl) (fun j u _ _ => ?_) h.waits_left
  rw [State.held_of_not_holding (by simp [Order.holding]), State.held_of_not_holding (by simp [Order.holding, hs])]

theorem Order.holding_of_due {o : Order} (h : o.due = true) : o.holding ∧ o.state ≠ .closing ∧ o.live = true := by
  have hs : o.state = .running ∨ o.state = .suspended := by simpa [Order.due] using h
  rcases hs with hs | hs <;> simp [Order.holding, Order.live, hs]

/-- A cut releases what comes after the Order Book's slot; the order goes on holding what comes up to it. -/
theorem cutOrder (h : RingSound s) (ho : cell? s.obk.orders i = some o) (hdue : o.due = true) (why : CloseReason) :
    RingSound (s.cutOrder i o why) := by
  obtain ⟨hh, hnc, hl⟩ := Order.holding_of_due hdue
  have hc : o.cut = none := h.uncut ho hl hnc
  have hnw : o.state ≠ .pendingWait := by
    rintro hw
    simp [Order.due, hw] at hdue
  unfold State.cutOrder State.releaseOrder
  refine RingSound.redrawn ?_ (.notify _ _ _)
  obtain ⟨points, reports, he, hplaces, hrise⟩ :=
    s.withRing_parts (s.cal.release (s.reachOf o) o.start o.endSlot o.flow (s.obk.slot + 1))
  rw [he]
  obtain ⟨hpoint, hwindow, -⟩ := h.stands i o ho hl
  refine h.put_released (.putOrder rfl rfl rfl rfl hplaces hrise) ho (h.live_reach ho hl)
    (fun _ => ⟨hpoint, hwindow, fun hn => absurd rfl hn⟩) (fun j u hw hcov => ?_) (fun j u hw hcov => ?_)
    (h.waits_same (h.index i o ho) (not_waiting_of ho hnw))
  · rw [State.held_covered hh hc hw hcov.1, State.held, if_neg, Nat.zero_add]
    intro hold
    have := ((State.holds_iff _ _ _ _).1 hold).2.2 _ rfl
    omega
  · by_cases hin : s.cal.covers (s.reachOf o) o.start o.endSlot j u
    · rw [State.held_covered hh hc hw hin, State.held, if_pos]
      have hlate : ¬s.obk.slot + 1 ≤ u := fun hlt => hcov ⟨hin, hlt⟩
      obtain ⟨hj, -, -, hlo, hhi⟩ := hin
      refine (State.holds_iff _ _ _ _).2 ⟨Or.inr (Or.inr (Or.inr rfl)), ⟨hj, hlo, hhi⟩, ?_⟩
      intro c hcut
      obtain rfl : s.obk.slot = c := Option.some.inj hcut
      exact Nat.le_of_not_lt hlate
    · rw [State.held_uncovered hh hc hw hin, State.held, if_neg]
      intro hold
      obtain ⟨-, ⟨hj, hlo, hhi⟩, -⟩ := (State.holds_iff _ _ _ _).1 hold
      exact hin ⟨hj, hw.1, hw.2, hlo, hhi⟩

/-- An order whose window ends earlier, with the slots it gives up released. -/
theorem put_shortened {m : Nat} {v : Nat} (h : RingSound s) (ho : cell? s.obk.orders i = some o)
    (hh : o.holding) (hnc : o.state ≠ .closing) (hlo : o.start ≤ m) (hhi : m ≤ o.endSlot)
    (hp : Puts s t i { o with duration := m - o.start, ordered := v }
      (s.cal.release (s.reachOf o) m o.endSlot o.flow s.obk.slot) s.obk.waiting) : RingSound t := by
  have hl := hh.live
  have hc : o.cut = none := h.uncut ho hl hnc
  have hnw : o.state ≠ .pendingWait := by
    rintro hw
    simp [Order.holding, hw] at hh
  have hend : ({ o with duration := m - o.start, ordered := v } : Order).endSlot = m := by
    simp only [Order.endSlot]
    omega
  obtain ⟨hpoint, hwindow, -⟩ := h.stands i o ho hl
  have hold : ∀ j u, s.cal.covers (s.reachOf o) o.start o.endSlot j u ↔ _ :=
    fun j u => s.cal.covers_split (s.reachOf o) j u hlo hhi
  have hnew : ∀ j u, s.cal.within u → s.cal.covers (s.reachOf o) o.start m j u →
      s.held j u { o with duration := m - o.start, ordered := v } = o.flow := by
    intro j u hw hcov
    exact State.held_covered (o := { o with duration := m - o.start, ordered := v }) hh hc hw (by rwa [hend])
  have hnone : ∀ j u, s.cal.within u → ¬s.cal.covers (s.reachOf o) o.start m j u →
      s.held j u { o with duration := m - o.start, ordered := v } = 0 := by
    intro j u hw hcov
    exact State.held_uncovered (o := { o with duration := m - o.start, ordered := v }) hh hc hw (by rwa [hend])
  refine h.put_released hp ho (h.live_reach ho hl) (fun _ => ⟨hpoint, ?_, fun _ => hc⟩)
    (fun j u hw hcov => ?_) (fun j u hw hcov => ?_) (h.waits_same (h.index i o ho) (not_waiting_of ho hnw))
  · rw [hend]
    exact hhi.trans hwindow
  · rw [State.held_covered hh hc hw ((hold j u).2 (Or.inr hcov.1)),
      hnone j u hw fun hin => Calendar.covers_disjoint hin hcov.1, Nat.zero_add]
  · by_cases hin : s.cal.covers (s.reachOf o) o.start m j u
    · rw [State.held_covered hh hc hw ((hold j u).2 (Or.inl hin)), hnew j u hw hin]
    · rw [State.held_uncovered hh hc hw, hnone j u hw hin]
      rw [hold]
      exact fun hcov' => hcov'.elim hin fun htail => hcov ⟨htail, h.floor_le hw⟩

theorem trimOrder {k : Nat} (h : RingSound s) (ho : cell? s.obk.orders i = some o) (hs : o.state = .confirmed)
    (hk : k ≤ o.duration) : RingSound (s.trimOrder i o k) := by
  unfold State.trimOrder
  refine RingSound.redrawn ?_ (.markOrder _ i)
  obtain ⟨points, reports, he, hplaces, hrise⟩ :=
    s.withRing_parts (s.cal.release (s.reachOf o) (o.endSlot - k) o.endSlot o.flow s.obk.slot)
  have hdur : o.duration - k = o.endSlot - k - o.start := by
    simp only [Order.endSlot]
    omega
  rw [he, hdur]
  refine h.put_shortened ho (Or.inl hs) (by simp [hs]) ?_ (Nat.sub_le _ _)
    (.putOrder rfl rfl rfl rfl hplaces hrise)
  simp only [Order.endSlot]
  omega

/-- A bumped order waits again, its window released, or is cancelled (R58, R176). -/
theorem bumpOrder (h : RingSound s) (ho : cell? s.obk.orders i = some o) (hs : o.state = .confirmed) :
    RingSound (s.bumpOrder i o).1 := by
  unfold State.bumpOrder
  split
  · refine RingSound.redrawn ?_ (.markOrder _ i)
    obtain ⟨points, reports, he, hplaces, hrise⟩ :=
      s.withRing_parts (s.cal.release (s.reachOf o) o.start o.endSlot o.flow s.obk.slot)
    simp only [State.releaseOrder, he]
    obtain ⟨hpoint, hwindow, huncut⟩ := h.stands i o ho (by simp [Order.live, hs])
    refine h.put_freed ho hs (.joinWaiting (.putOrder rfl rfl rfl rfl hplaces hrise)) (by simp [Order.holding])
      (fun _ => ⟨hpoint, hwindow, fun _ => huncut (by simp [hs])⟩) ?_
    exact h.waits_joined (h.index i o ho) (not_waiting_of ho (by simp [hs])) rfl
  · exact (h.cancelOrder ho (Or.inr hs) .bumped).redrawn (.markOrder _ i)

end RingSound

end Sys2Proof.Machine
end

section
/-! Admitting, queueing, re-examining and amending an order, each with what it adds to the ring (R29, R31, R47, R49,
R52, R53, R75). -/

namespace Sys2Proof.Machine

/-! ### Orders named by a table index -/

/-- A free entry is one that the table does not list. -/
theorem firstFree_spec {t : Table Order} {n k i : Nat} (h : firstFree t n k = some i) :
    cell? t i = none ∧ i < k + n := by
  induction n generalizing k with
  | zero => cases h
  | succ n ih =>
    unfold firstFree at h
    split_ifs at h with hk
    · cases h
      exact ⟨Option.isNone_iff_eq_none.1 hk, by omega⟩
    · obtain ⟨hc, hlt⟩ := ih h
      exact ⟨hc, by omega⟩

theorem OrderBook.freeEntry_spec {b : OrderBook} {i : Nat} (h : b.freeEntry = some i) :
    cell? b.orders i = none ∧ i < 2048 := by
  obtain ⟨hc, hlt⟩ := firstFree_spec h
  exact ⟨hc, by simpa [Config.orders] using hlt⟩

/-- What the order book creates for an ask. -/
def Ask.order (q : Ask) (account start slidBy sequence : Nat) (st : OrderState) : Order :=
  { account := account, point := q.point, start := start, duration := q.duration, flow := q.flow,
    conflict := q.conflict, origin := q.origin, sequence := sequence, state := st,
    suspendReason := none, cut := none, ordered := q.volume, delivered := 0, estimated := 0,
    tail := 0, slidBy := slidBy, closeReason := none }

theorem State.createOrder_eq (s : State) (i : Nat) (q : Ask) (account start slidBy : Nat) (st : OrderState) :
    s.createOrder i q account start slidBy st =
      ({ s with obk.sequence := s.obk.sequence + 1 } : State).putOrder i
        (q.order account start slidBy (s.obk.sequence + 1) st) := rfl

/-- A reservation that passes has its window within horizon and room in every entry. -/
theorem Calendar.reserve_passes {c k : Calendar} {r a b f : Nat} (h : c.reserve r a b f = .pass k) :
    k = c.addFlow f (c.entries r a b 0) ∧
      ∀ j t, c.covers r a b j t → c.committedIn j t + f ≤ c.capacityIn j t := by
  obtain ⟨-, hk, hroom⟩ := Calendar.reserveTested_passes h
  exact ⟨hk, fun j t hc => hroom j t hc rfl⟩

/-- What checks 5 to 7 of R46 pass has its reservation made. -/
theorem State.tryWindow_ok {s : State} {point reach account start duration flow : Nat} {except : Option Nat}
    {c : Calendar} (h : s.tryWindow point reach account start duration flow except = .ok c) :
    s.cal.reserve reach start (start + duration) flow = .pass c := by
  unfold State.tryWindow at h
  split at h
  · cases h
  · split at h
    · split at h
      · next hp =>
        cases h
        exact hp
      · cases h
      · cases h
    · cases h

namespace RingSound

variable {s t : State} {i : Nat} {o o' : Order} {w : List Nat} {c : Calendar}

/-- An order that takes the flow of a window it did not hold, with that flow reserved (R29). -/
theorem put_reserved {r a b f : Nat} (h : RingSound s) (hp : Puts s t i o' c w) (hi : i < 2048) (hr : r < 32)
    (hpass : s.cal.reserve r a b f = .pass c) (hstands : o'.live = true → s.Stands o')
    (hin : ∀ j u, s.cal.within u → s.cal.covers r a b j u →
      s.held j u o' = cellSum (s.held j u) s.obk.orders i + f)
    (hout : ∀ j u, s.cal.within u → ¬s.cal.covers r a b j u →
      s.held j u o' = cellSum (s.held j u) s.obk.orders i)
    (hwaits : WaitsAfter s i o' w) : RingSound t := by
  obtain ⟨rfl, hroom⟩ := Calendar.reserve_passes hpass
  refine h.put hp hi (s.cal.addFlow_only_committed _ _) hstands (fun j u hj hu => ?_) (fun j u hj hu => ?_) hwaits
  · by_cases hc : s.cal.covers r a b j u
    · rw [Calendar.committedIn_added h.tree hr hj f hc, hin j u hu hc]
      omega
    · rw [Calendar.committedIn_added_other h.tree hr hj f hc, hout j u hu hc]
  · by_cases hc : s.cal.covers r a b j u
    · rw [Calendar.committedIn_added h.tree hr hj f hc]
      exact Or.inr (hroom j u hc)
    · rw [Calendar.committedIn_added_other h.tree hr hj f hc]
      exact Or.inl le_rfl

/-- An order that comes to be CONFIRMED, with its whole window reserved. -/
theorem put_confirmed (h : RingSound s) (hp : Puts s t i o' c w) (hi : i < 2048)
    (hpass : s.cal.reserve (s.reachOf o') o'.start o'.endSlot o'.flow = .pass c)
    (hold : ∀ j u, cellSum (s.held j u) s.obk.orders i = 0) (hs : o'.state = .confirmed)
    (hstands : s.Stands o') (hwaits : WaitsAfter s i o' w) : RingSound t := by
  have hh : o'.holding := Or.inl hs
  have hc : o'.cut = none := hstands.uncut (by simp [hs])
  refine h.put_reserved hp hi (h.reachOf_lt hstands.point) hpass (fun _ => hstands) (fun j u hw hcov => ?_)
    (fun j u hw hcov => ?_) hwaits
  · rw [State.held_covered hh hc hw hcov, hold, Nat.zero_add]
  · rw [State.held_uncovered hh hc hw hcov, hold]

theorem end_le (h : RingSound s) {e : Nat} (hp : s.pastHorizon e = false) : e ≤ s.cal.slot + 672 := by
  have hle : ¬s.obk.slot + 672 < e := by simpa [State.pastHorizon, Config.horizon] using hp
  have := h.slot
  omega

/-! ### Admit and queue -/

theorem admitOrder {q : Ask} {p : Point} (account start slidBy : Nat) (r : Result) (h : RingSound s)
    (hp : s.point? q.point = some p) (hpast : s.pastHorizon (start + q.duration) = false)
    (hpass : s.cal.reserve p.reach start (start + q.duration) q.flow = .pass c) :
    RingSound (s.admitOrder q account start slidBy c r).1 := by
  unfold State.admitOrder
  split
  · exact h
  · next i hi =>
    obtain ⟨hfree, hlt⟩ := OrderBook.freeEntry_spec hi
    obtain ⟨points, reports, he, hplaces, hrise⟩ := s.withRing_parts c
    dsimp only
    rw [State.createOrder_eq, he]
    have hreach : s.reachOf (q.order account start slidBy (s.obk.sequence + 1) .confirmed) = p.reach :=
      State.reachOf_of_point hp
    refine h.put_confirmed (.putOrder rfl rfl rfl rfl hplaces hrise) hlt (by rw [hreach]; exact hpass)
      (fun j u => cellSum_of_none hfree) rfl ⟨?_, h.end_le hpast, fun _ => rfl⟩
      (h.waits_same hlt fun x hx => by rw [hfree] at hx; cases hx)
    exact fun hn => Option.some_ne_none p (hp.symm.trans hn)

theorem queueOrder {q : Ask} {p : Point} (account : Nat) (h : RingSound s) (hp : s.point? q.point = some p)
    (hpast : s.pastHorizon (q.start + q.duration) = false) : RingSound (s.queueOrder q account).1 := by
  unfold State.queueOrder
  split
  · exact h
  · next i hi =>
    obtain ⟨hfree, hlt⟩ := OrderBook.freeEntry_spec hi
    split
    · dsimp only
      rw [State.createOrder_eq]
      refine h.put (.joinWaiting (.putOrder rfl rfl rfl rfl (fun _ _ => rfl) id)) hlt rfl
        (fun _ => ⟨?_, h.end_le hpast, fun _ => rfl⟩) (fun j u _ _ => ?_) (fun j u _ _ => Or.inl le_rfl)
        (h.waits_joined hlt (fun x hx => by rw [hfree] at hx; cases hx) rfl)
      · exact fun hn => Option.some_ne_none p (hp.symm.trans hn)
      · rw [cellSum_of_none hfree, State.held_of_not_holding (by simp [Order.holding, Ask.order])]
    · exact h

/-! ### Placing (R45 to R49) -/

theorem slideTries {q : Ask} {p : Point} (account : Nat) (failure : Reply) (fuel k : Nat) (h : RingSound s)
    (hp : s.point? q.point = some p) : RingSound (s.slideTries q p.reach account failure fuel k).1 := by
  induction fuel generalizing k with
  | zero =>
    unfold State.slideTries
    split <;> exact h
  | succ n ih =>
    unfold State.slideTries
    split
    · exact h
    · dsimp only
      split
      · exact h
      · next hpast =>
        split
        · exact ih _
        · split
          · next hok =>
            exact h.admitOrder _ _ _ _ hp (by simpa using hpast) (State.tryWindow_ok hok)
          · split
            · exact h
            · exact ih _

theorem turnout_point {n : Nat} {p : Point} (h : s.turnout? n = some p) : s.point? n = some p := by
  unfold State.turnout? at h
  split at h
  · next q hq =>
    split_ifs at h
    cases h
    exact hq
  · cases h

theorem placeFirst (q : Ask) (tries : Nat) (h : RingSound s) : RingSound (s.placeFirst q tries).1 := by
  unfold State.placeFirst
  split
  · exact h
  · split
    · exact h
    · next p hturnout =>
      have hp := turnout_point hturnout
      dsimp only
      split
      · exact h
      · split
        · exact h
        · next hpast =>
          have hpast : s.pastHorizon (q.start + q.duration) = false := by simpa using hpast
          split
          · next hok => exact h.admitOrder _ _ _ _ hp hpast (State.tryWindow_ok hok)
          · split
            · split
              · exact h.slideTries _ _ _ _ hp
              · exact h
            · exact h.slideTries _ _ _ _ hp
            · exact h.queueOrder _ hp hpast
            · exact h

theorem placeNext (q : Ask) (tries : Nat) (v : Search) (h : RingSound s) : RingSound (s.placeNext q tries v).1 := by
  unfold State.placeNext
  split
  · exact h
  · split
    · exact h
    · next hturnout => exact h.slideTries _ _ _ _ (turnout_point hturnout)

/-! ### Re-examination (R74, R75) -/

/-- A handle on the waiting list names an order that waits. -/
theorem named_waits (h : RingSound s) {x : Nat} (hx : x ∈ s.obk.waiting) (hn : s.obk.named? x = some (i, o)) :
    cell? s.obk.orders i = some o ∧ o.state = .pendingWait ∧ x = s.obk.handle i := by
  obtain ⟨k, y, hy, hw, rfl⟩ := h.waits x hx
  rw [OrderBook.named?_handle (h.index k y hy) hy] at hn
  cases hn
  exact ⟨hy, hw, rfl⟩

theorem reexamineEntry {x : Nat} (h : RingSound s) (hx : x ∈ s.obk.waiting) : RingSound (s.reexamineEntry x) := by
  unfold State.reexamineEntry
  split
  · exact h
  · next i o hn =>
    obtain ⟨ho, hs, rfl⟩ := h.named_waits hx hn
    split
    · exact h
    · next p hp =>
      split
      · exact h.expireOrder ho hs
      · split
        · exact h
        · next c hok =>
          refine RingSound.redrawn ?_ (.markOrder _ i)
          obtain ⟨points, reports, he, hplaces, hrise⟩ := s.withRing_parts c
          obtain ⟨hpoint, hwindow, huncut⟩ := h.stands i o ho (by simp [Order.live, hs])
          rw [he]
          refine h.put_confirmed (w := dropFrom s.obk.waiting (s.obk.handle i))
            (.putOrder (u := State.leaveWaiting (s.obk.handle i) { s with
              cal := c, points := points, mail.reports := reports }) rfl rfl rfl rfl hplaces hrise)
            (h.index i o ho) ?_ (fun j u => ?_) rfl ⟨hpoint, hwindow, fun _ => huncut (by simp [hs])⟩ h.waits_left
          · have hreach : s.reachOf { o with state := .confirmed } = p.reach := State.reachOf_of_point hp
            rw [hreach]
            exact State.tryWindow_ok hok
          · rw [cellSum_of_cell? ho, State.held_of_not_holding (by simp [Order.holding, hs])]

end RingSound

end Sys2Proof.Machine
end

section
/-! Walks over the waiting list and over the order table, and amending an order (R51 to R53, R57, R74). -/

namespace Sys2Proof.Machine

/-! ### What an order put into its entry leaves -/

@[simp] theorem State.putOrder_orders (s : State) (i : Nat) (o : Order) :
    (s.putOrder i o).obk.orders = setCell s.obk.orders i o := by
  unfold State.putOrder
  dsimp only
  split <;> rfl

@[simp] theorem State.putOrder_waiting (s : State) (i : Nat) (o : Order) :
    (s.putOrder i o).obk.waiting = s.obk.waiting := by
  unfold State.putOrder
  dsimp only
  split <;> rfl

@[simp] theorem State.putOrder_cal (s : State) (i : Nat) (o : Order) : (s.putOrder i o).cal = s.cal := by
  unfold State.putOrder
  dsimp only
  split <;> rfl

@[simp] theorem State.withRing_obk (s : State) (c : Calendar) : (s.withRing c).obk = s.obk := by
  rw [State.withRing_frame]

theorem State.cancelOrder_other (s : State) {i k : Nat} (o : Order) (why : CloseReason) (h : k ≠ i) :
    cell? (s.cancelOrder i o why).obk.orders k = cell? s.obk.orders k := by
  have hfree : (s.freeOrder i o).obk.orders = s.obk.orders := by
    unfold State.freeOrder
    split
    · rfl
    · simp [State.releaseOrder]
    all_goals rfl
  unfold State.cancelOrder
  rw [State.putOrder_orders, cell?_setCell_other _ _ h, hfree]

theorem State.bumpOrder_other (s : State) {i k : Nat} (o : Order) (h : k ≠ i) :
    cell? (s.bumpOrder i o).1.obk.orders k = cell? s.obk.orders k := by
  unfold State.bumpOrder
  split
  · dsimp only
    simp only [State.markOrder, State.joinWaiting, State.putOrder_orders, cell?_setCell_other _ _ h,
      State.releaseOrder, State.withRing_obk]
  · exact s.cancelOrder_other o .bumped h

/-! ### Walks -/

/-- The record numbers of a table stand once. -/
theorem nodup_numbers {α : Type} {t : Table α} (h : risingKeys t = true) : (t.map Prod.fst).Nodup := by
  rw [risingKeys_iff] at h
  exact (List.pairwise_map.2 h).imp Nat.ne_of_lt

/-- A walk over entries of the order table, each still what it was when the walk comes to it, keeps what each step
keeps. -/
theorem walk_entries {σ : Type} (g : σ → State) {P : State → Prop} {f : σ → Nat × Order → σ}
    (l : List (Nat × Order)) (hn : (l.map Prod.fst).Nodup)
    (hstep : ∀ x, ∀ e ∈ l, P (g x) → cell? (g x).obk.orders e.1 = some e.2 →
      P (g (f x e)) ∧ ∀ k, k ≠ e.1 → cell? (g (f x e)).obk.orders k = cell? (g x).obk.orders k)
    (x : σ) (hl : ∀ e ∈ l, cell? (g x).obk.orders e.1 = some e.2) (hx : P (g x)) : P (g (l.foldl f x)) := by
  induction l generalizing x with
  | nil => exact hx
  | cons e l ih =>
    rw [List.map_cons, List.nodup_cons] at hn
    obtain ⟨hP, hother⟩ := hstep x e (by simp) hx (hl e (by simp))
    refine ih hn.2 (fun y d hd => hstep y d (List.mem_cons_of_mem e hd)) _ (fun d hd => ?_) hP
    rw [hother d.1 fun he => hn.1 (he ▸ List.mem_map_of_mem hd)]
    exact hl d (List.mem_cons_of_mem e hd)

theorem RingSound.entries_current {s : State} (h : RingSound s) {l : List (Nat × Order)}
    (hl : ∀ e ∈ l, e ∈ s.obk.orders) : ∀ e ∈ l, cell? s.obk.orders e.1 = some e.2 :=
  fun e he => cell?_of_mem h.ordersRise (hl e he)

/-- A walk over the waiting list that takes from it at most the entry it is at. -/
theorem RingSound.walk_waiting {f : State → Nat → State}
    (hstep : ∀ s x, RingSound s → x ∈ s.obk.waiting →
      RingSound (f s x) ∧ ∀ y ∈ s.obk.waiting, y ≠ x → y ∈ (f s x).obk.waiting)
    {s : State} (h : RingSound s) : RingSound (s.obk.waiting.foldl f s) := by
  have hwalk : ∀ (l : List Nat) (s : State), l.Nodup → (∀ x ∈ l, x ∈ s.obk.waiting) → RingSound s →
      RingSound (l.foldl f s) := by
    intro l
    induction l with
    | nil => exact fun s _ _ h => h
    | cons x l ih =>
      intro s hn hl h
      obtain ⟨hx, hn⟩ := List.nodup_cons.1 hn
      obtain ⟨hsound, hkeep⟩ := hstep s x h (hl x (by simp))
      refine ih _ hn (fun y hy => hkeep y (hl y (List.mem_cons_of_mem x hy)) ?_) hsound
      rintro rfl
      exact hx hy
  exact hwalk _ s h.once (fun _ hx => hx) h

/-! ### What an exchange leaves in the ring -/

/-- What the ring holds after an exchange that passes: what was left by the release of the old window and flow, and
in the new window the new flow, which had room where it was tested (R31). -/
theorem Calendar.exchange_reads {c k : Calendar} {r a b f a' b' f' j : Nat} (hs : treeSound c.reaches)
    (hr : r < 32) (hj : j < 32) (h : c.exchange r a b f a' b' f' = .pass k) (u : Nat) :
    (c.covers r a' b' j u →
      k.committedIn j u = (c.release r a b f c.slot).committedIn j u + f' ∧
        (¬((f' < f ∨ f' = f ∧ b' < b) ∧ c.covers r a b j u) →
          (c.release r a b f c.slot).committedIn j u + f' ≤ c.capacityIn j u)) ∧
      (¬c.covers r a' b' j u → k.committedIn j u = (c.release r a b f c.slot).committedIn j u) := by
  obtain ⟨-, rfl, hroom⟩ := Calendar.reserveTested_passes h
  have hs' : treeSound (c.release r a b f c.slot).reaches := by simpa using hs
  have hcov := c.release_covers r a b f c.slot r a' b' j u
  refine ⟨fun hc => ⟨Calendar.committedIn_added hs' hr hj f' (hcov.2 hc), fun ht => ?_⟩,
    fun hc => Calendar.committedIn_added_other hs' hr hj f' (mt hcov.1 hc)⟩
  have htest := hroom j u (hcov.2 hc) ((Calendar.exchangeTests_iff hc a b f f').2 ht)
  rwa [Calendar.release_capacityIn] at htest

namespace RingSound

variable {s t : State} {i : Nat} {o o' : Order} {w : List Nat} {c : Calendar}

/-! ### The walk of a re-examination, and of an expiry -/

theorem mem_left {x y : Nat} (hy : y ∈ s.obk.waiting) (hne : y ≠ x) : y ∈ dropFrom s.obk.waiting x := by
  simp [dropFrom, hy, hne]

theorem reexamineEntry_leaves (h : RingSound s) {x : Nat} (hx : x ∈ s.obk.waiting) :
    ∀ y ∈ s.obk.waiting, y ≠ x → y ∈ (s.reexamineEntry x).obk.waiting := by
  intro y hy hne
  unfold State.reexamineEntry
  split
  · exact hy
  · next i o hn =>
    obtain ⟨-, -, rfl⟩ := h.named_waits hx hn
    split
    · exact hy
    · split
      · simpa [State.expireOrder, State.markOrder, State.leaveWaiting] using mem_left hy hne
      · split
        · exact hy
        · simpa [State.markOrder, State.leaveWaiting] using mem_left hy hne

theorem reexamine (h : RingSound s) : RingSound s.reexamine := by
  have hwalk := h.walk_waiting fun s x h hx => ⟨h.reexamineEntry hx, h.reexamineEntry_leaves hx⟩
  exact hwalk.redrawn (.of_aside _ _ _ _ _ _)

theorem startReexamination (h : RingSound s) : RingSound s.startReexamination := by
  unfold State.startReexamination
  split
  · exact h.redrawn (.of_aside _ _ _ _ _ _)
  · exact h.reexamine

theorem expiryStep (h : RingSound s) : RingSound s.expiryStep := by
  refine h.walk_waiting fun s x h hx => ?_
  unfold State.expireEntry
  split
  · exact ⟨h, fun y hy _ => hy⟩
  · next i o hn =>
    obtain ⟨ho, hs, rfl⟩ := h.named_waits hx hn
    split
    · refine ⟨h.expireOrder ho hs, fun y hy hne => ?_⟩
      simpa [State.expireOrder, State.markOrder, State.leaveWaiting] using mem_left hy hne
    · exact ⟨h, fun y hy _ => hy⟩

/-! ### Amend (R51 to R53) -/

/-- An order that takes a new flow and end by EXCHANGE (R31). -/
theorem put_exchanged {f e : Nat} (h : RingSound s) (ho : cell? s.obk.orders i = some o) (hs : o.state = .confirmed)
    (hstart : o.start ≤ e) (hend : e ≤ s.cal.slot + 672)
    (hpass : s.cal.exchange (s.reachOf o) o.start o.endSlot o.flow o.start e f = .pass c)
    (hp : Puts s t i (o.amended f e) c s.obk.waiting) : RingSound t := by
  have hl : o.live = true := by simp [Order.live, hs]
  have hh : o.holding := Or.inl hs
  have hc : o.cut = none := h.uncut ho hl (by simp [hs])
  have hr := h.live_reach ho hl
  have hamended : (o.amended f e).endSlot = e := by
    simp only [Order.endSlot, Order.amended]
    omega
  obtain ⟨hpoint, -, -⟩ := h.stands i o ho hl
  -- what the ring holds after the exchange, and the room it had, entry by entry
  have hread : ∀ j u, j < 32 → s.cal.within u →
      c.committedIn j u + s.held j u o = s.cal.committedIn j u + s.held j u (o.amended f e) ∧
        (c.committedIn j u ≤ s.cal.committedIn j u ∨ c.committedIn j u ≤ s.cal.capacityIn j u) := by
    intro j u hj hu
    have hle := h.held_le ho hj hu
    obtain ⟨hin, hout⟩ := Calendar.committedIn_released (f := o.flow) (a := o.start) (b := o.endSlot) (t := u)
      h.tree hr hj
    obtain ⟨hadd, hkeep⟩ := Calendar.exchange_reads h.tree hr hj hpass u
    by_cases hcov : s.cal.covers (s.reachOf o) o.start e j u
    · obtain ⟨hadd, htest⟩ := hadd hcov
      have hnew : s.held j u (o.amended f e) = f :=
        State.held_covered (o := o.amended f e) hh hc hu (by rw [hamended]; exact hcov)
      rw [hadd, hnew]
      by_cases hold : s.cal.covers (s.reachOf o) o.start o.endSlot j u
      · rw [State.held_covered hh hc hu hold] at hle ⊢
        rw [hin hold] at htest ⊢
        by_cases heases : f < o.flow ∨ f = o.flow ∧ e < o.endSlot
        · exact ⟨by omega, Or.inl (by omega)⟩
        · exact ⟨by omega, Or.inr (htest fun hno => heases hno.1)⟩
      · rw [State.held_uncovered hh hc hu hold, hout hold] at *
        exact ⟨by omega, Or.inr (htest fun hno => hold hno.2)⟩
    · have hnew : s.held j u (o.amended f e) = 0 :=
        State.held_uncovered (o := o.amended f e) hh hc hu (by rw [hamended]; exact hcov)
      rw [hkeep hcov, hnew]
      by_cases hold : s.cal.covers (s.reachOf o) o.start o.endSlot j u
      · rw [State.held_covered hh hc hu hold] at hle ⊢
        rw [hin hold]
        exact ⟨by omega, Or.inl (by omega)⟩
      · rw [State.held_uncovered hh hc hu hold, hout hold]
        exact ⟨rfl, Or.inl le_rfl⟩
  refine h.put hp (h.index i o ho) (Calendar.exchange_pass hpass)
    (fun _ => ⟨hpoint, by rw [hamended]; exact hend, fun _ => hc⟩)
    (fun j u hj hu => ?_) (fun j u hj hu => (hread j u hj hu).2)
    (h.waits_same (h.index i o ho) (not_waiting_of ho (by simp [hs])))
  rw [cellSum_of_cell? ho]
  exact (hread j u hj hu).1

end RingSound

end Sys2Proof.Machine
end

section
/-! The order requests, the Order Book's boundary and the sweep steps keep the ring (R53 to R66, R77, R83, R170 to
R179). -/

namespace Sys2Proof.Machine

/-- Two orders with one window, flow and cut, both holding or both not, hold the same. -/
theorem State.held_congr {s : State} {o o' : Order} (hp : o'.point = o.point) (hs : o'.start = o.start)
    (hd : o'.duration = o.duration) (hf : o'.flow = o.flow) (hc : o'.cut = o.cut)
    (hh : o'.holding ↔ o.holding) (j u : Nat) : s.held j u o' = s.held j u o := by
  have hr : s.reachOf o' = s.reachOf o := by rw [State.reachOf, hp]; rfl
  have hholds : s.holds o' j u = s.holds o j u := by
    rw [Bool.eq_iff_iff, State.holds_iff, State.holds_iff, hr, hh, hs, hd, hc]
  rw [State.held, State.held, hholds, hf]

/-- A point's reach, an order's entry: what the walk over the point chain finds is in the table. -/
theorem OrderBook.mem_of_lastOf {b : OrderBook} {n i : Nat} {o : Order} {p : Order → Bool}
    (h : b.lastOf n p = some (i, o)) : (i, o) ∈ b.orders ∧ p o = true := by
  have hm := mem_sortBy.1 (List.mem_reverse.1 (List.mem_of_find?_eq_some h))
  exact ⟨(List.mem_filter.1 hm).1, by simpa using List.find?_some h⟩

namespace RingSound

variable {s t : State} {i : Nat} {o o' : Order} {w : List Nat} {c : Calendar}

/-! ### Amend a due order (R53) -/

/-- An order whose window ends later, with the slots it gains reserved. -/
theorem put_extended {e v : Nat} (h : RingSound s) (ho : cell? s.obk.orders i = some o) (hh : o.holding)
    (hnc : o.state ≠ .closing) (hlate : o.endSlot ≤ e) (hend : e ≤ s.cal.slot + 672)
    (hpass : s.cal.reserve (s.reachOf o) o.endSlot e o.flow = .pass c)
    (hp : Puts s t i { o with duration := e - o.start, ordered := v } c s.obk.waiting) : RingSound t := by
  have hl := hh.live
  have hc : o.cut = none := h.uncut ho hl hnc
  have hnw : o.state ≠ .pendingWait := by
    rintro hw
    simp [Order.holding, hw] at hh
  have hstart : o.start ≤ o.endSlot := Nat.le_add_right _ _
  have hnewEnd : ({ o with duration := e - o.start, ordered := v } : Order).endSlot = e := by
    simp only [Order.endSlot]
    omega
  obtain ⟨hpoint, -, -⟩ := h.stands i o ho hl
  have hsplit : ∀ j u, s.cal.covers (s.reachOf o) o.start e j u ↔ _ :=
    fun j u => s.cal.covers_split (s.reachOf o) j u hstart hlate
  have hnew : ∀ j u, s.cal.within u → s.cal.covers (s.reachOf o) o.start e j u →
      s.held j u { o with duration := e - o.start, ordered := v } = o.flow := by
    intro j u hw hcov
    exact State.held_covered (o := { o with duration := e - o.start, ordered := v }) hh hc hw (by rwa [hnewEnd])
  refine h.put_reserved hp (h.index i o ho) (h.live_reach ho hl) hpass
    (fun _ => ⟨hpoint, by rw [hnewEnd]; exact hend, fun _ => hc⟩) (fun j u hw hcov => ?_) (fun j u hw hcov => ?_)
    (h.waits_same (h.index i o ho) (not_waiting_of ho hnw))
  · rw [hnew j u hw ((hsplit j u).2 (Or.inr hcov)), cellSum_of_cell? ho,
      State.held_uncovered hh hc hw fun hin => Calendar.covers_disjoint hin hcov, Nat.zero_add]
  · rw [cellSum_of_cell? ho]
    by_cases hin : s.cal.covers (s.reachOf o) o.start o.endSlot j u
    · rw [State.held_covered hh hc hw hin, hnew j u hw ((hsplit j u).2 (Or.inl hin))]
    · rw [State.held_uncovered hh hc hw hin]
      refine State.held_uncovered (o := { o with duration := e - o.start, ordered := v }) hh hc hw ?_
      rw [hnewEnd]
      exact fun hcov' => ((hsplit j u).1 hcov').elim hin hcov

theorem amendDue {x e : Nat} (h : RingSound s) (ho : cell? s.obk.orders i = some o) (hdue : o.due = true)
    (hstart : o.start ≤ e) : RingSound (s.amendDue x i o e).1 := by
  obtain ⟨hh, hnc, -⟩ := Order.holding_of_due hdue
  unfold State.amendDue
  dsimp only
  split
  · exact h
  · split
    · exact h
    · next hpast =>
      have hend := h.end_le (by simpa using hpast : s.pastHorizon e = false)
      split
      · next hlate =>
        split
        · exact h
        · split
          · split
            · next c hpass =>
              obtain ⟨points, reports, he, hplaces, hrise⟩ := s.withRing_parts c
              rw [he]
              exact h.put_extended ho hh hnc hlate.le hend hpass (.putOrder rfl rfl rfl rfl hplaces hrise)
            · exact h
            · exact h
          · exact h
      · next hlate =>
        obtain ⟨points, reports, he, hplaces, hrise⟩ :=
          s.withRing_parts (s.cal.release (s.reachOf o) e o.endSlot o.flow s.obk.slot)
        rw [he]
        exact h.put_shortened ho hh hnc hstart (Nat.le_of_not_lt hlate) (.putOrder rfl rfl rfl rfl hplaces hrise)

theorem amendConfirmed {x f e : Nat} (h : RingSound s) (ho : cell? s.obk.orders i = some o)
    (hs : o.state = .confirmed) (hstart : o.start ≤ e) : RingSound (s.amendConfirmed x i o f e).1 := by
  unfold State.amendConfirmed
  dsimp only
  split
  · exact h
  · next hpast =>
    have hend := h.end_le (by simpa using hpast : s.pastHorizon e = false)
    split
    · exact h
    · split
      · exact h
      · split
        · next c hpass =>
          obtain ⟨points, reports, he, hplaces, hrise⟩ := s.withRing_parts c
          rw [he]
          exact h.put_exchanged ho hs hstart hend hpass (.putOrder rfl rfl rfl rfl hplaces hrise)
        · exact h
        · exact h

/-- The end that AMEND gives an order does not come before its start. -/
theorem amended_end {o : Order} {flow endSlot : Option Nat} (h : s.amendBadParam o flow endSlot = false) :
    o.start ≤ endSlot.getD o.endSlot := by
  cases endSlot with
  | none => exact Nat.le_add_right _ _
  | some e =>
    simp only [State.amendBadParam, Option.any_some, Bool.or_eq_false_iff, decide_eq_false_iff_not] at h
    simp only [Option.getD_some]
    omega

theorem reexamined {r : State × Reply} {p : Prop} [Decidable p] (h : RingSound r.1) :
    RingSound (if p then (r.1.startReexamination, r.2) else r).1 := by
  split
  · exact h.startReexamination
  · exact h

theorem amendBook (handle : Nat) (flow endSlot : Option Nat) (h : RingSound s) :
    RingSound (amendBook handle flow endSlot s).1 := by
  unfold Machine.amendBook
  split
  · exact h
  · next i o hn =>
    have ho := OrderBook.cell?_of_named? hn
    dsimp only
    split
    · exact h
    · next hbad =>
      have hstart := amended_end (by simpa using hbad : s.amendBadParam o flow endSlot = false)
      split
      · exact h
      · split
        · exact h
        · next hstate =>
          split
          · exact h
          · split
            · exact h
            · refine reexamined ?_
              split
              · next hdue => exact h.amendDue ho hdue hstart
              · next hdue =>
                refine h.amendConfirmed ho ?_ hstart
                by_contra hne
                exact hstate ⟨hne, by simpa using hdue⟩

/-! ### Cancel (R54 to R57), suspend (R15), retire (R60) -/

theorem cancelOne (endRunning : Bool) (i : Nat) (acc : State × CancelCounts) (h : RingSound acc.1) :
    RingSound (State.cancelOne endRunning i acc).1 := by
  unfold State.cancelOne
  split
  · exact h
  · next o ho =>
    split
    · next hs => exact (h.cancelOrder ho (Or.inl hs) _).redrawn (.markOrder _ i)
    · next hs => exact (h.cancelOrder ho (Or.inr hs) _).redrawn (.markOrder _ i)
    · next hs =>
      split
      · exact (h.cutOrder ho (by simp [Order.due, hs]) _).redrawn (.markOrder _ i)
      · exact h
    · next hs =>
      split
      · exact (h.cutOrder ho (by simp [Order.due, hs]) _).redrawn (.markOrder _ i)
      · exact h
    all_goals exact h

theorem cancelMany (chain : List (Nat × Order)) (endRunning : Bool) (h : RingSound s) :
    RingSound (s.cancelMany chain endRunning).1 := by
  have hchain : RingSound (s.cancelChain chain endRunning).1 :=
    foldl_inv (fun acc : State × CancelCounts => RingSound acc.1)
      (fun acc (e : Nat × Order) => State.cancelOne endRunning e.1 acc)
      (fun acc e => cancelOne endRunning e.1 acc) chain (s, _) h
  unfold State.cancelMany
  dsimp only
  split
  · exact hchain.startReexamination
  · exact hchain

theorem cancelNamed (handle : Nat) (h : RingSound s) : RingSound (s.cancelNamed handle).1 := by
  unfold State.cancelNamed
  split
  · exact h
  · next i o hn =>
    have ho := OrderBook.cell?_of_named? hn
    split
    · next hs => exact (h.cancelOrder ho (Or.inl hs) _).startReexamination
    · next hs => exact (h.cancelOrder ho (Or.inr hs) _).startReexamination
    · next hs => exact (h.cutOrder ho (by simp [Order.due, hs]) _).startReexamination
    · next hs => exact (h.cutOrder ho (by simp [Order.due, hs]) _).startReexamination
    all_goals exact h

/-- ACCOUNT_SUSPEND cancels each order of the account that waits or is CONFIRMED (R15). -/
theorem suspendAll (n : Nat) (h : RingSound s) :
    RingSound ((s.obk.cancellable n).foldl (fun s e => s.suspendOne e) s) := by
  have hmem : ∀ e ∈ s.obk.cancellable n,
      e ∈ s.obk.orders ∧ (e.2.state = .confirmed ∨ e.2.state = .pendingWait) := by
    intro e he
    obtain ⟨hm, hs⟩ := List.mem_filter.1 he
    exact ⟨(List.mem_filter.1 (mem_sortBy.1 hm)).1, by simpa using hs⟩
  refine walk_entries id (P := RingSound) _ ?_ (fun s e he h ho => ?_) s
    (h.entries_current fun e he => (hmem e he).1) h
  · refine List.Nodup.sublist (List.filter_sublist.map _) ?_
    refine ((sortBy_perm _ _).map _).nodup_iff.2 ?_
    exact (nodup_numbers h.ordersRise).sublist (List.filter_sublist.map _)
  · have hone : s.suspendOne e = (s.cancelOrder e.1 e.2 .accountSuspended).markOrder e.1 := by
      unfold State.suspendOne
      rw [show cell? s.obk.orders e.1 = some e.2 from ho]
    rw [hone]
    exact ⟨(h.cancelOrder ho (hmem e he).2.symm _).redrawn (.markOrder _ e.1),
      fun k hk => s.cancelOrder_other e.2 _ hk⟩

/-- An order that is not live holds nothing, and takes nothing with it. -/
theorem retireEntry (h : RingSound s) (hn : ∀ o, cell? s.obk.orders i = some o → o.live = false) :
    RingSound (s.retireEntry i) := by
  have hread : ∀ k, cell? (s.retireEntry i).obk.orders k = if k = i then none else cell? s.obk.orders k :=
    fun k => cell?_delCell _ _ _
  have hkept : ∀ {k o}, cell? (s.retireEntry i).obk.orders k = some o →
      k ≠ i ∧ cell? s.obk.orders k = some o := by
    intro k o hk
    rw [hread] at hk
    split_ifs at hk with hki
    exact ⟨hki, hk⟩
  refine ⟨h.tree, risingKeys_delCell i h.ordersRise, fun k o hk => h.index k o (hkept hk).2, h.pointsRise, h.rooted,
    fun k o hk hl => (h.stands k o (hkept hk).2 hl).transfer id rfl, h.slot, h.presented,
    fun j u hj hu => ?_, h.room, h.once,
    fun x hx => ?_⟩
  · refine (h.flow j u hj hu).trans (Finset.sum_congr rfl fun k _ => ?_)
    by_cases hki : k = i
    · rw [cellSum_of_none ((hread k).trans (if_pos hki))]
      cases hk : cell? s.obk.orders k with
      | none => exact cellSum_of_none hk
      | some o =>
        rw [cellSum_of_cell? hk]
        refine State.held_of_not_holding (fun hh => ?_) j u
        exact absurd hh.live (by simp [hn o (hki ▸ hk)])
    · rw [cellSum, cellSum, hread, if_neg hki]
      rfl
  · obtain ⟨k, o, hk, hw, rfl⟩ := h.waits x hx
    have hki : k ≠ i := by
      rintro rfl
      have := hn o hk
      simp [Order.live, hw] at this
    refine ⟨k, o, (hread k).trans ((if_neg hki).trans hk), hw, ?_⟩
    have hgen : (s.retireEntry i).obk.generation k = s.obk.generation k :=
      (valueAt_setValue _ _ _ _ _).trans (if_neg hki)
    rw [OrderBook.handle, OrderBook.handle, hgen]

/-- The close of an account's period retires its finished orders (R160). -/
theorem closePeriod (n : Nat) (h : RingSound s) : RingSound (s.closePeriod n) := by
  unfold State.closePeriod
  split
  · exact h
  · next a _ =>
    have hset := h.redrawn (.setAccount s n (a.closePeriod s.cal.clock))
    have hmem : ∀ e ∈ s.obk.finished n, e ∈ s.obk.orders ∧ e.2.live = false := by
      intro e he
      obtain ⟨hm, hl⟩ := List.mem_filter.1 he
      exact ⟨(List.mem_filter.1 (mem_sortBy.1 hm)).1, by simpa using hl⟩
    refine walk_entries id (P := RingSound) _ ?_ (fun s e he h ho => ⟨?_, fun k hk => ?_⟩) _
      (h.entries_current fun e he => (hmem e he).1) hset
    · refine List.Nodup.sublist (List.filter_sublist.map _) ?_
      refine ((sortBy_perm _ _).map _).nodup_iff.2 ?_
      exact (nodup_numbers h.ordersRise).sublist (List.filter_sublist.map _)
    · refine h.retireEntry fun o hk => ?_
      have hko : o = e.2 := Option.some.inj (hk.symm.trans ho)
      exact hko ▸ (hmem e he).2
    · exact (cell?_delCell _ _ _).trans (if_neg hk)

/-! ### The boundary (R61 to R64) -/

/-- What the steps of the boundary that makes slot t current keep. -/
def AtBoundary (t : Nat) (s : State) : Prop := RingSound s ∧ t ≤ s.cal.slot

theorem put_other {k : Nat} (hk : k ≠ i) :
    cell? ((s.putOrder i o).markOrder i).obk.orders k = cell? s.obk.orders k := by
  simp [State.markOrder, cell?_setCell_other _ _ hk]

/-- An order that comes to hold just what it held, in a state the boundary gives it. -/
theorem put_stepped (h : RingSound s) (ho : cell? s.obk.orders i = some o) (hs : o.state ≠ .pendingWait)
    (hstands : o'.live = true → s.Stands o')
    (hheld : ∀ j u, j < 32 → s.cal.within u → s.held j u o' = s.held j u o) :
    RingSound ((s.putOrder i o').markOrder i) :=
  (h.put_same (.putOrder rfl rfl rfl rfl (fun _ _ => rfl) id) ho hstands hheld
    (h.waits_same (h.index i o ho) (not_waiting_of ho hs))).redrawn (.markOrder _ i)

/-- An order whose last delivery slot lies before the boundary's holds nothing within horizon. -/
theorem held_of_closed {t : Nat} (he : o.deliveryEnd + 1 ≤ t) (ht : t ≤ s.cal.slot)
    {j u : Nat} (hu : s.cal.within u) : s.held j u o = 0 := by
  refine if_neg fun hh => ?_
  obtain ⟨-, ⟨-, -, hhi⟩, hcut⟩ := (s.holds_iff o j u).1 hh
  have hlate := hu.1
  unfold Order.deliveryEnd at he
  split at he
  · next c hc =>
    have := hcut c hc
    omega
  · simp only [Order.endSlot] at he
    omega

theorem closeStep (t : Nat) (h : AtBoundary t s) : AtBoundary t (s.closeStep t).1 := by
  refine walk_entries Prod.fst (P := AtBoundary t) s.obk.orders (nodup_numbers h.1.ordersRise)
    (fun acc e _ h ho => ?_) (s, false) (h.1.entries_current fun e he => he) h
  unfold closeOne
  dsimp only
  split
  · next hc =>
    obtain ⟨hs, he⟩ := hc
    refine ⟨⟨h.1.put_stepped ho (by simp [hs]) (fun hl => by simp [Order.live] at hl) fun j u _ hu => ?_, ?_⟩,
      fun k hk => put_other hk⟩
    · rw [held_of_closed he h.2 hu, State.held_of_not_holding (by simp [Order.holding])]
    · simpa [State.markOrder] using h.2
  · exact ⟨h, fun _ _ => rfl⟩

theorem endStep (t : Nat) (h : RingSound s) : RingSound (s.endStep t) := by
  refine walk_entries id (P := RingSound) s.obk.orders (nodup_numbers h.ordersRise)
    (fun s e _ h ho => ?_) s (h.entries_current fun e he => he) h
  unfold endOne
  dsimp only
  split
  · next hc =>
    obtain ⟨hh, -, hl⟩ := Order.holding_of_due hc.1
    obtain ⟨hpoint, hwindow, -⟩ := h.stands _ _ ho hl
    have hclosing : Order.holding
        { e.2 with state := .closing, closeReason := some .delivered, suspendReason := none } :=
      Or.inr (Or.inr (Or.inr rfl))
    refine ⟨h.put_stepped ho ?_ (fun _ => ⟨hpoint, hwindow, fun hn => absurd rfl hn⟩) fun j u _ _ => ?_,
      fun k hk => put_other hk⟩
    · intro hw
      simp [Order.due, hw] at hc
    · exact State.held_congr (o := e.2)
        (o' := { e.2 with state := .closing, closeReason := some .delivered, suspendReason := none })
        rfl rfl rfl rfl rfl (iff_of_true hclosing hh) j u
  · exact ⟨h, fun _ _ => rfl⟩

theorem startStep (t : Nat) (h : RingSound s) : RingSound (s.startStep t) := by
  refine walk_entries id (P := RingSound) s.obk.orders (nodup_numbers h.ordersRise)
    (fun s e _ h ho => ?_) s (h.entries_current fun e he => he) h
  unfold startOne
  dsimp only
  split
  · next hc =>
    split
    · exact ⟨h, fun _ _ => rfl⟩
    · next p _ =>
      obtain ⟨hpoint, hwindow, huncut⟩ := h.stands _ _ ho (by simp [Order.live, hc.1])
      obtain ⟨hh, -, -⟩ := Order.holding_of_due (dueUnder_due p.mode e.2)
      refine ⟨h.put_stepped ho (by simp [hc.1]) (fun _ => ⟨hpoint, hwindow, fun _ => huncut (by simp [hc.1])⟩)
        fun j u _ _ => ?_, fun k hk => put_other hk⟩
      exact State.held_congr (o := e.2)
        (o' := { e.2 with state := (dueUnder p.mode).1, suspendReason := (dueUnder p.mode).2 })
        rfl rfl rfl rfl rfl (iff_of_true hh (Or.inl hc.1)) j u
  · exact ⟨h, fun _ _ => rfl⟩

theorem fire (x : Nat) (m : Template) (h : RingSound s) : RingSound (s.fire x m) := by
  have hplaced := h.placeFirst (m.ask x) 96
  refine hplaced.redrawn (Redrawn.ite (.after (.report _ _ _) ?_) ?_) <;>
    exact .after (.of_aside _ _ _ _ _ _) (.markHandle _ _)

theorem firingStep (t : Nat) (h : RingSound s) : RingSound (s.firingStep t) := by
  refine foldl_inv RingSound _ (fun s e h => ?_) s.obk.templates s h
  split
  · exact h.fire _ _
  · exact h

theorem bookBoundary {t : Nat} (h : RingSound s) (ht : t ≤ s.cal.slot) : RingSound (s.bookBoundary t) := by
  have h0 : RingSound { s with obk.slot := t } :=
    ⟨h.tree, h.ordersRise, h.index, h.pointsRise, h.rooted,
      fun i o ho hl => (h.stands i o ho hl).transfer id rfl, ht, h.presented, h.flow, h.room, h.once,
      h.waits⟩
  have h1 := closeStep t ⟨h0, ht⟩
  have h3 := ((h1.1.endStep t).startStep t).redrawn
    (.foldl _ (fun s p => Redrawn.notify s p (s.obk.scheduledOf p))
      (changedPoints t (({ s with obk.slot := t } : State).closeStep t).1.obk.orders))
  have h5 := (h3.expiryStep).firingStep t
  unfold State.bookBoundary
  dsimp only
  split
  · exact h5.startReexamination
  · exact h5

/-! ### Sweep steps (R170 to R179) -/

theorem trimOne (e : Nat) (h : RingSound s) (ho : cell? s.obk.orders i = some o) (hs : o.state = .confirmed) :
    RingSound (s.trimOne i o e) := by
  unfold State.trimOne
  dsimp only
  split
  · next hk => exact (h.trimOrder ho hs hk.le).redrawn (.tally _ _)
  · exact ((h.cancelOrder ho (Or.inr hs) _).redrawn (.markOrder _ i)).redrawn (.tally _ _)

theorem trimLoop (n fuel : Nat) (acc : State × Bool) (h : RingSound acc.1) :
    RingSound (State.trimLoop n fuel acc).1 := by
  induction fuel generalizing acc with
  | zero => exact h
  | succ fuel ih =>
    unfold State.trimLoop
    split
    · exact h
    · split
      · exact h
      · next i o hlast =>
        obtain ⟨hm, hs⟩ := OrderBook.mem_of_lastOf hlast
        exact ih _ (h.trimOne _ (cell?_of_mem h.ordersRise hm) (by simpa using hs))

theorem drainOne (h : RingSound s) (ho : cell? s.obk.orders i = some o) (hdue : o.due = true) :
    RingSound (s.drainOne i o) := by
  unfold State.drainOne
  exact ((h.cutOrder ho hdue _).redrawn (.markOrder _ i)).redrawn (.tally _ _)

theorem drainLoop (n fuel : Nat) (acc : State × Bool) (h : RingSound acc.1) :
    RingSound (State.drainLoop n fuel acc).1 := by
  induction fuel generalizing acc with
  | zero => exact h
  | succ fuel ih =>
    unfold State.drainLoop
    split
    · exact h
    · split
      · exact h
      · next i o hlast =>
        obtain ⟨hm, hdue⟩ := OrderBook.mem_of_lastOf hlast
        exact ih _ (h.drainOne (cell?_of_mem h.ordersRise hm) hdue)

theorem curtailAccount (n : Nat) (a : Account) (q : Nat) (d : Drain) (h : RingSound s) :
    RingSound (s.curtailAccount n a q d) := by
  have h1 := trimLoop n s.obk.orders.length (s.reviseAccount n (fun a => { a with curtailment := q }), false)
    (h.redrawn (.reviseAccount s n _))
  have h2 : RingSound (match d with
      | .letRun => State.trimLoop n s.obk.orders.length
          (s.reviseAccount n (fun a => { a with curtailment := q }), false)
      | .stopRunning => State.drainLoop n s.obk.orders.length (State.trimLoop n s.obk.orders.length
          (s.reviseAccount n (fun a => { a with curtailment := q }), false))).1 := by
    cases d with
    | letRun => exact h1
    | stopRunning => exact drainLoop n _ _ h1
  have hend : ∀ r : State × Bool, RingSound r.1 → ∀ (p p' : Prop) [Decidable p] [Decidable p'],
      RingSound (if p' then (if p then r.1.owe else r.1).accountChanged n else if p then r.1.owe else r.1) := by
    intro r hr p p' _ _
    have howe : RingSound (if p then r.1.owe else r.1) := by
      split
      · exact hr.redrawn (.owe _)
      · exact hr
    split
    · exact howe.redrawn (.accountChanged _ n)
    · exact howe
  exact hend _ h2 _ _

theorem curtailVisit (v : Sweep) (h : RingSound s) : RingSound (s.curtailVisit v) := by
  unfold State.curtailVisit
  refine RingSound.redrawn ?_ (.moveCursor _ _)
  split
  · exact h
  · split
    · exact h.curtailAccount _ _ _ _
    · exact h

theorem closeVisit (v : Sweep) (h : RingSound s) : RingSound (s.closeVisit v) := by
  unfold State.closeVisit
  refine RingSound.redrawn ?_ (.moveCursor _ _)
  split
  · exact h
  · split
    · exact (h.closePeriod _).redrawn (.accountChanged _ _)
    · exact h

end RingSound

/-- What stands at a number after every record of a table has been changed. -/
theorem cell?_map {α β : Type} (f : α → β) (t : Table α) (n : Nat) :
    cell? (t.map (fun e => (e.1, f e.2))) n = (cell? t n).map f := by
  induction t with
  | nil => rfl
  | cons e t ih =>
    obtain ⟨k, v⟩ := e
    simp only [List.map_cons, cell?_cons, ih]
    split <;> rfl

/-- A season's step changes the meters of points, none of their reaches. -/
theorem Redrawn.mapPoints (s : State) (f : Point → Point) (hf : ∀ p, (f p).reach = p.reach) :
    Redrawn s { s with points := s.points.map (fun e => (e.1, f e.2)) } := by
  refine ⟨.of_eq rfl rfl, rfl, fun _ n => ?_, fun hr => risingKeys_map (fun e => f e.2) hr⟩
  rw [State.point?, cell?_map, Option.map_map, State.point?]
  exact congrArg (fun g => Option.map g (cell? s.points n)) (funext hf)

theorem RingSound.seasonVisit {s : State} (v : Sweep) (h : RingSound s) : RingSound (s.seasonVisit v) := by
  unfold State.seasonVisit
  refine RingSound.redrawn ?_ (.moveCursor _ _)
  split
  · exact h
  · unfold State.seasonAccount
    refine RingSound.redrawn ?_ (.accountChanged _ _)
    refine RingSound.redrawn ?_ (.mapPoints _ (Point.newSeason _) fun p => ?_)
    · have hclosed := h.closePeriod v.cursor
      split
      · exact hclosed
      · exact hclosed.redrawn (.setAccount _ _ _)
    · unfold Point.newSeason
      split <;> rfl

end Sys2Proof.Machine
end

section
/-! The calendar's own operations, the reaches and the points: the minute, CLOCK_SET, SUPPLY_SET, the step of a bump
sweep, REACH_SET and POINT_SET keep the ring (R3 to R11, R21, R33, R36, R175). -/

namespace Sys2Proof.Machine

namespace RingSound

variable {s t : State}

/-! ### Supplies and head marks -/

/-- A calendar with other supplies and head marks, none of which takes room without a mark. -/
theorem recal {c : Calendar} (h : RingSound s) (hslot : c.slot = s.cal.slot) (hcom : c.committed = s.cal.committed)
    (hreach : c.reaches = s.cal.reaches)
    (hroom : ∀ j u, j < 32 → s.cal.within u → s.cal.roomy j u → c.roomy j u) :
    RingSound { s with cal := c } := by
  have hplaces : SamePlaces s { s with cal := c } := fun _ => rfl
  refine h.refit (.of_eq rfl rfl) hslot hcom (by simpa only [hreach] using h.tree) h.pointsRise
    (hplaces.rooted hreach h.rooted) (fun i o ho hl => (h.stands i o ho hl).point) (fun i o _ _ j u => ?_) hroom
  rw [hplaces.holds hreach]

/-- A head mark is set on a slot, or taken from one whose head flow has room (R25). -/
theorem setHeadMark (h : RingSound s) (k : Nat) (m : HeadMark)
    (hm : m = .unmarked → s.cal.committedIn 0 k ≤ s.cal.capacityIn 0 k) :
    RingSound { s with cal := s.cal.setHeadMark k m } := by
  refine h.recal rfl rfl rfl fun j u _ _ hroom => ?_
  have hread : (s.cal.setHeadMark k m).headMark u = if u = k then m else s.cal.headMark u :=
    valueAt_setValue _ _ _ _ _
  unfold Calendar.roomy at hroom ⊢
  rw [hread]
  rcases hroom with hle | ⟨rfl, hmark⟩
  · exact Or.inl hle
  · by_cases hu : u = k
    · subst hu
      by_cases hun : m = .unmarked
      · exact Or.inl (hm hun)
      · exact Or.inr ⟨rfl, by rwa [if_pos rfl]⟩
    · exact Or.inr ⟨rfl, by rwa [if_neg hu]⟩

theorem headOver_iff (c : Calendar) (k : Nat) : c.headOver k = true ↔ ¬c.committedIn 0 k ≤ c.capacityIn 0 k := by
  simp [Calendar.headOver]

/-- A slot that stays over after its bumps is marked SHORTFALL, one that does not has room (R175). -/
theorem bumpSlot (k : Nat) (h : RingSound s) : RingSound (s.bumpSlot k) := by
  have hmem : ∀ e ∈ s.bumpList k, e ∈ s.obk.orders ∧ e.2.state = .confirmed := by
    intro e he
    obtain ⟨hm, hs⟩ := List.mem_filter.1 (mem_sortBy.1 he)
    simp only [Bool.and_eq_true, decide_eq_true_eq] at hs
    exact ⟨hm, hs.1⟩
  have hwalk : RingSound ((s.bumpList k).foldl (bumpOne k) s) := by
    refine walk_entries id (P := RingSound) _ ?_ (fun s e he h ho => ?_) s
      (h.entries_current fun e he => (hmem e he).1) h
    · refine ((sortBy_perm _ _).map _).nodup_iff.2 ?_
      exact (nodup_numbers h.ordersRise).sublist (List.filter_sublist.map _)
    · dsimp only [id] at h ho ⊢
      unfold bumpOne
      split
      · exact ⟨((h.bumpOrder ho (hmem e he).2).redrawn (.owe _)).redrawn (.tally _ _),
          fun x hx => State.bumpOrder_other _ e.2 hx⟩
      · exact ⟨h, fun _ _ => rfl⟩
  unfold State.bumpSlot
  dsimp only
  split
  · exact (hwalk.setHeadMark k .shortfall nofun).redrawn (.report _ _ _)
  · next hover =>
    exact hwalk.setHeadMark k .unmarked fun _ => not_not.1 (mt (headOver_iff _ _).2 hover)

theorem bumpVisit (v : Sweep) (h : RingSound s) : RingSound (s.bumpVisit v) := by
  unfold State.bumpVisit
  refine RingSound.redrawn ?_ (.moveCursor _ _)
  split
  · exact h.bumpSlot _
  · exact h

/-- SUPPLY_SET marks every slot of its run that is left without room (R25, R36). -/
theorem supplied (first count flow : Nat) (h : RingSound s) :
    RingSound { s with cal := s.cal.supplied first count flow } := by
  have honly := s.cal.supplied_eq flow first count
  refine h.recal (by rw [honly]; rfl) (by rw [honly]) (by rw [honly]) fun j u _ _ hroom => ?_
  have hcom : (s.cal.supplied first count flow).committedIn = s.cal.committedIn := by rw [honly]; rfl
  have hcap : j ≠ 0 → (s.cal.supplied first count flow).capacityIn j u = s.cal.capacityIn j u := by
    intro hj
    rw [honly]
    simp [Calendar.capacityIn, hj]
  have hcap0 : (s.cal.supplied first count flow).supplyIn u = s.cal.supplyIn u →
      (s.cal.supplied first count flow).capacityIn 0 u = s.cal.capacityIn 0 u := by
    intro hsup
    rw [Calendar.capacityIn, Calendar.capacityIn, hsup]
    rw [honly]
  have hsup := s.cal.supplied_supplyIn flow first count u
  have hmark := s.cal.supplied_headMark flow first count u
  unfold Calendar.roomy at hroom ⊢
  rw [hcom]
  by_cases hj : j = 0
  · subst hj
    by_cases hu : first ≤ u ∧ u < first + count
    · rw [if_pos hu] at hmark
      by_cases hover : (s.cal.supplied first count flow).headOver u = true
      · rw [hmark, if_pos hover]
        exact Or.inr ⟨rfl, nofun⟩
      · rw [headOver_iff, not_not, hcom] at hover
        exact Or.inl hover
    · rw [if_neg hu] at hmark hsup
      rwa [hcap0 hsup, hmark]
  · rw [hcap hj]
    exact Or.inl (hroom.resolve_right fun hm => hj hm.1)

/-! ### The minute (R21, R22) and CLOCK_SET (R33) -/

/-- A minute within a slot. -/
theorem tick (h : RingSound s) (hm : (s.cal.clock + 1) % 15 ≠ 0) : RingSound { s with cal := s.cal.tick } := by
  refine h.recal ?_ rfl rfl fun _ _ _ _ hroom => hroom
  change (s.cal.clock + 1) / 15 = s.cal.clock / 15
  omega

theorem advanced (h : RingSound s) (hm : (s.cal.clock + 1) % 15 = 0) :
    RingSound { s with cal := s.cal.tick.advance, mail := s.mail.present s.cal.tick.slot } := by
  have hslot : s.cal.tick.slot = s.cal.slot + 1 := by
    change (s.cal.clock + 1) / 15 = s.cal.clock / 15 + 1
    omega
  have hnew : s.cal.tick.advance.slot = s.cal.slot + 1 := hslot
  refine ⟨h.tree, h.ordersRise, h.index, h.pointsRise, h.rooted, fun i o ho hl => ?_, ?_, fun u hu => ?_,
    fun j u hj hu => ?_, fun j u hj hu => ?_, h.once, h.waits⟩
  · obtain ⟨hp, hw, hc⟩ := h.stands i o ho hl
    exact ⟨hp, by change _ ≤ s.cal.tick.advance.slot + 672; omega, hc⟩
  · change s.obk.slot ≤ s.cal.tick.advance.slot
    have := h.slot
    omega
  · change u ≤ s.cal.tick.advance.slot
    rcases List.mem_append.1 hu with hu | hu
    · have := h.presented u hu
      omega
    · rw [List.mem_singleton.1 hu, hnew, hslot]
  · obtain ⟨hlo, hhi⟩ := hu
    change s.cal.tick.advance.slot ≤ u at hlo
    change u < s.cal.tick.advance.slot + 672 at hhi
    change s.cal.tick.advance.committedIn j u = ∑ i ∈ Finset.range 2048, cellSum (s.held j u) s.obk.orders i
    rw [s.cal.tick.advance_committedIn u hj, hslot]
    by_cases hlast : u = s.cal.slot + 672
    · rw [if_pos (by omega)]
      refine (Finset.sum_eq_zero fun i _ => ?_).symm
      cases ho : cell? s.obk.orders i with
      | none => exact cellSum_of_none ho
      | some o =>
        rw [cellSum_of_cell? ho]
        refine if_neg fun hh => ?_
        obtain ⟨hh, ⟨-, -, hend⟩, -⟩ := (s.holds_iff o j u).1 hh
        have hwindow := (h.stands i o ho hh.live).window
        simp only [Order.endSlot] at hwindow
        omega
    · rw [if_neg (by omega)]
      exact h.flow j u hj ⟨by omega, by omega⟩
  · obtain ⟨hlo, hhi⟩ := hu
    change s.cal.tick.advance.slot ≤ u at hlo
    change u < s.cal.tick.advance.slot + 672 at hhi
    change s.cal.tick.advance.roomy j u
    unfold Calendar.roomy
    rw [s.cal.tick.advance_committedIn u hj, s.cal.tick.advance_headMark u, hslot]
    by_cases hlast : u = s.cal.slot + 672
    · rw [if_pos (by omega)]
      exact Or.inl (Nat.zero_le _)
    · have hsup := s.cal.tick.advance_supplyIn u
      rw [hslot, if_neg (by omega), if_neg (by omega)] at hsup
      rw [if_neg (by omega), if_neg (by omega)]
      have hcap : s.cal.tick.advance.capacityIn j u = s.cal.tick.capacityIn j u := by
        rw [Calendar.capacityIn, hsup]
        rfl
      rw [hcap]
      exact h.room j u hj ⟨by omega, by omega⟩

theorem minute (h : RingSound s) : RingSound s.minute := by
  rcases Nat.lt_or_ge s.cal.clock 4294967295 with hlt | htop
  · by_cases hm : (s.cal.clock + 1) % 15 = 0
    · rw [State.minute_boundary hlt hm]
      exact h.advanced hm
    · rw [State.minute_within hlt hm]
      exact h.tick hm
  · rw [State.minute_top htop]
    exact h

theorem not_live {b : OrderBook} (h : b.anyLive = false) {i : Nat} {o : Order} (ho : cell? b.orders i = some o) :
    o.live = false := by
  simp only [OrderBook.anyLive, List.any_eq_false] at h
  exact Bool.eq_false_of_not_eq_true (h _ (mem_of_cell? ho))

/-- Without live orders the rings are empty, whatever minute they are built around (R33). -/
theorem setClock (m : Nat) (h : RingSound s) (hn : s.obk.anyLive = false) : RingSound (s.setClock m) := by
  unfold State.setClock
  refine RingSound.redrawn ?_ (.after (.arbitrate _) (.recheckMany _ _))
  refine ⟨h.tree, h.ordersRise, h.index, h.pointsRise, h.rooted, fun i o ho hl => ?_, le_rfl, nofun,
    fun j u _ _ => ?_, fun j u _ _ => Or.inl (Nat.zero_le _), h.once, h.waits⟩
  · rw [not_live hn ho] at hl
    cases hl
  · refine (Finset.sum_eq_zero fun i _ => ?_).symm
    cases ho : cell? s.obk.orders i with
    | none => exact cellSum_of_none ho
    | some o =>
      refine (cellSum_of_cell? ho).trans (State.held_of_not_holding (fun hh => ?_) j u)
      exact absurd hh.live (by simp [not_live hn ho])

end RingSound

end Sys2Proof.Machine
end

section
/-! REACH_SET and POINT_SET keep the ring (R3 to R11). -/

namespace Sys2Proof.Machine

/-- The capacity of a reach in a slot: its own, and for the head reach no more than the supply (R26). -/
theorem Calendar.capacityIn_eq (c : Calendar) (j u : Nat) :
    c.capacityIn j u = if j = 0 then min (((cell? c.reaches j).map Reach.capacity).getD 0) (c.supplyIn u)
      else ((cell? c.reaches j).map Reach.capacity).getD 0 := by
  unfold Calendar.capacityIn
  cases cell? c.reaches j with
  | none => simp
  | some v => rfl

/-! ### What an order holds depends on its own path -/

/-- Two reach tables with one parent and one lag on every reach of an order's path. -/
theorem State.holds_of_path {s t : State} {o : Order} (hr : t.reachOf o = s.reachOf o)
    (hparent : ∀ k ∈ pathOf s.cal.reaches (s.reachOf o),
      (cell? t.cal.reaches k).bind Reach.parent = (cell? s.cal.reaches k).bind Reach.parent)
    (hlag : ∀ k ∈ pathOf s.cal.reaches (s.reachOf o), lagOf t.cal.reaches k = lagOf s.cal.reaches k) (j u : Nat) :
    t.holds o j u = s.holds o j u := by
  have hpath : pathOf t.cal.reaches (s.reachOf o) = pathOf s.cal.reaches (s.reachOf o) := pathUp_congr hparent
  rw [Bool.eq_iff_iff, State.holds_iff, State.holds_iff, hr, hpath, hlag _ (mem_pathOf_self _ _)]
  by_cases hj : j ∈ pathOf s.cal.reaches (s.reachOf o)
  · rw [hlag j hj]
  · simp [hj]

theorem SameShape.capacityIn {c k : Calendar} (h : SameShape c.reaches k.reaches) (hs : k.supply = c.supply) :
    k.capacityIn = c.capacityIn := by
  funext j u
  have hcap : (cell? k.reaches j).map Reach.capacity = (cell? c.reaches j).map Reach.capacity := by
    have hj := congrArg (Option.map fun x => x.2.1) (h j)
    rwa [Option.map_map, Option.map_map] at hj
  have hsup : k.supplyIn u = c.supplyIn u := by rw [Calendar.supplyIn, hs]; rfl
  rw [Calendar.capacityIn_eq, Calendar.capacityIn_eq, hcap, hsup]

theorem SameShape.tree {rs rs' : Table Reach} (h : SameShape rs rs') (ht : treeSound rs) : treeSound rs' := by
  intro r v hv
  have hr := h r
  rw [hv, Option.map_some, eq_comm, Option.map_eq_some_iff] at hr
  obtain ⟨v', hv', hshape⟩ := hr
  have hparent : v'.parent = v.parent := congrArg (fun x => x.1) hshape
  obtain ⟨hlt, hp⟩ := ht r v' hv'
  exact ⟨hlt, fun p hvp => hp p (hparent.trans hvp)⟩

theorem SameShape.none_iff {rs rs' : Table Reach} (h : SameShape rs rs') (r : Nat) :
    cell? rs' r = none ↔ cell? rs r = none := by
  rw [← Option.map_eq_none_iff, h r, Option.map_eq_none_iff]

/-- The check point fields are no part of a reach's shape. -/
theorem sameShape_of_map {rs rs' : Table Reach} {f : Nat → Reach → Reach}
    (h : ∀ k, cell? rs' k = (cell? rs k).map (f k)) (hf : ∀ k v, (f k v).shape = v.shape) : SameShape rs rs' := by
  intro k
  rw [h k, Option.map_map]
  exact congrArg (fun g => Option.map g (cell? rs k)) (funext (hf k))

namespace RingSound

variable {s t : State} {r : Nat}

/-- A live order of a live point has every reach of its path configured. -/
theorem path_configured (h : RingSound s) {i : Nat} {o : Order} (ho : cell? s.obk.orders i = some o)
    (hl : o.live = true) {k : Nat} (hk : k ∈ pathOf s.cal.reaches (s.reachOf o)) : cell? s.cal.reaches k ≠ none :=
  configured_of_mem_pathUp h.rooted.1 (h.reachOf_configured (h.stands i o ho hl).point) hk

/-- A reach on no live order's path carries nothing. -/
theorem committed_zero (h : RingSound s) (hr : r < 32)
    (hpath : ∀ i o, cell? s.obk.orders i = some o → o.live = true → r ∉ pathOf s.cal.reaches (s.reachOf o))
    {u : Nat} (hu : s.cal.within u) : s.cal.committedIn r u = 0 := by
  rw [h.flow r u hr hu]
  refine Finset.sum_eq_zero fun i _ => ?_
  cases ho : cell? s.obk.orders i with
  | none => exact cellSum_of_none ho
  | some o =>
    rw [cellSum_of_cell? ho]
    refine if_neg fun hh => ?_
    obtain ⟨hh, ⟨hj, -⟩, -⟩ := (s.holds_iff o r u).1 hh
    exact hpath i o ho hh.live hj

/-! ### A reach changes (R3 to R5) -/

/-- The record of one reach changes: it lies on no live order's path or keeps its parent and lag, and it has the
capacity for what it carries. -/
theorem reshape {rs : Table Reach} (h : RingSound s) (tree : treeSound rs)
    (rooted : ({ s with cal.reaches := rs } : State).rooted)
    (hother : ∀ k, k ≠ r → cell? rs k = cell? s.cal.reaches k)
    (hsame : ∀ i o, cell? s.obk.orders i = some o → o.live = true →
      r ∉ pathOf s.cal.reaches (s.reachOf o) ∨
        (cell? rs r).bind Reach.parent = (cell? s.cal.reaches r).bind Reach.parent ∧
          lagOf rs r = lagOf s.cal.reaches r)
    (hroom : ∀ u, r < 32 → s.cal.within u → s.cal.committedIn r u ≤ ((cell? rs r).map Reach.capacity).getD 0) :
    RingSound { s with cal.reaches := rs } := by
  refine h.refit (.of_eq rfl rfl) rfl rfl tree h.pointsRise rooted (fun i o ho hl => (h.stands i o ho hl).point)
    (fun i o ho hl j u => ?_) (fun j u hj hu hjroom => ?_)
  · have hk : ∀ k ∈ pathOf s.cal.reaches (s.reachOf o),
        (cell? rs k).bind Reach.parent = (cell? s.cal.reaches k).bind Reach.parent ∧
          lagOf rs k = lagOf s.cal.reaches k := by
      intro k hk
      by_cases hkr : k = r
      · subst hkr
        exact (hsame i o ho hl).resolve_left (not_not.2 hk)
      · simp only [lagOf, hother k hkr, and_self]
    exact State.holds_of_path (s := s) (t := { s with cal.reaches := rs }) rfl (fun k hm => (hk k hm).1)
      (fun k hm => (hk k hm).2) j u
  · have hcap := Calendar.capacityIn_eq { s.cal with reaches := rs } j u
    have hcap' := s.cal.capacityIn_eq j u
    refine hjroom.imp_left fun hle => ?_
    change s.cal.committedIn j u ≤ Calendar.capacityIn { s.cal with reaches := rs } j u
    rw [hcap]
    rw [hcap'] at hle
    by_cases hjr : j = r
    · subst hjr
      have hnew := hroom u hj hu
      by_cases hj0 : j = 0
      · rw [if_pos hj0] at hle ⊢
        exact le_min hnew (hle.trans (min_le_right _ _))
      · rw [if_neg hj0]
        exact hnew
    · rw [hother j hjr]
      exact hle

/-! #### REACH_SET -/

theorem fits_bounds {parent : Option Nat} {cap lag : Nat} (h : badReachRange r parent cap lag = false) :
    r < 32 ∧ ∀ p, parent = some p → p < r := by
  have hbad := mt (badReachRange_iff r cap lag parent).2 (by simp [h])
  simp only [not_or, not_and, not_forall, not_le] at hbad
  obtain ⟨hr, -, -, hhead, hparent⟩ := hbad
  refine ⟨by omega, fun p hp => ?_⟩
  by_cases h0 : r = 0
  · exact absurd (by simp [hp]) (hhead h0).1
  · obtain ⟨q, hq, hlt⟩ := hparent h0
    rw [hp] at hq
    cases hq
    exact hlt

/-- The reach tree with one record written, its parent configured and of smaller number. -/
theorem setReach_tree {v : Reach} (h : RingSound s) (hr : r < 32) (hp : ∀ p, v.parent = some p → p < r) :
    treeSound (setCell s.cal.reaches r v) := by
  intro k w hk
  rw [cell?_setCell] at hk
  split_ifs at hk with hkr
  · cases hk
    exact hkr ▸ ⟨hr, hp⟩
  · exact h.tree k w hk

theorem setReach_rooted {v : Reach} (h : RingSound s) (hp : ∀ p, v.parent = some p → s.reach? p ≠ none) :
    ({ s with cal.reaches := setCell s.cal.reaches r v } : State).rooted := by
  have hkept : ∀ p, s.reach? p ≠ none →
      ({ s with cal.reaches := setCell s.cal.reaches r v } : State).reach? p ≠ none := by
    intro p hp
    rw [State.reach?_setCell]
    split_ifs
    · nofun
    · exact hp
  refine ⟨fun k w p hk hw => hkept p ?_, fun n p hn => hkept _ (h.rooted.2 n p hn)⟩
  rw [State.reach?_setCell] at hk
  split_ifs at hk
  · cases hk
    exact hp p hw
  · exact h.rooted.1 k w p hk hw

theorem reconfigure {old new : Reach} (h : RingSound s) (hold : s.reach? r = some old) (hr : r < 32)
    (hlt : ∀ p, new.parent = some p → p < r) (hp : ∀ p, new.parent = some p → s.reach? p ≠ none)
    (huse : s.reachInUse r old new.parent new.capacity new.lag = false) : RingSound (s.reconfigure r old new) := by
  have hold' : cell? s.cal.reaches r = some old := hold
  simp only [State.reachInUse, Bool.or_eq_false_iff, Bool.and_eq_false_iff] at huse
  obtain ⟨htraffic, habove⟩ := huse
  have hset : RingSound { s with cal.reaches := setCell s.cal.reaches r new } := by
    refine h.reshape (h.setReach_tree hr hlt) (h.setReach_rooted hp)
      (fun k hk => cell?_setCell_other _ _ hk) (fun i o ho hl => ?_) (fun u _ hu => ?_)
    · rcases htraffic with hsame | hnone
      · right
        simp only [decide_eq_false_iff_not, not_not] at hsame
        simp [lagOf, hold', hsame.1, hsame.2]
      · left
        intro hm
        have hb := mt (s.trafficBelow_iff r).2 (by simp [hnone])
        exact hb ⟨(i, o), mem_of_cell? ho, hl, hm⟩
    · rw [cell?_setCell_self]
      by_contra hgt
      have hlt : new.capacity < s.cal.committedIn r u := Nat.lt_of_not_le hgt
      have hmem := Calendar.mem_of_committedIn (Nat.zero_lt_of_lt hlt)
      simp only [State.committedAbove, List.any_eq_false] at habove
      refine habove _ hmem ?_
      have hmod : ringKey r u % Config.reaches = r := ringKey_mod u hr
      have hdiv : ringKey r u / Config.reaches = u := ringKey_div u hr
      simpa only [hmod, hdiv, Bool.and_eq_true, decide_eq_true_eq, true_and] using ⟨⟨hlt, hu.1⟩, hu.2⟩
  unfold State.reconfigure
  dsimp only
  split
  · refine RingSound.redrawn (RingSound.startReexamination ?_) (.arbitrate _)
    exact hset.redrawn (.ite (.refl _) (.refreshFrost _ _))
  · refine RingSound.redrawn ?_ (.arbitrate _)
    exact hset.redrawn (.ite (.refl _) (.refreshFrost _ _))

theorem configureReach (parent : Option Nat) (cap lag : Nat) (h : RingSound s) :
    RingSound (s.configureReach r parent cap lag).1 := by
  unfold State.configureReach
  split
  · exact h
  · next hrange =>
    obtain ⟨hr, hlt⟩ := fits_bounds (eq_false_of_ne_true hrange)
    split
    · exact h
    · next hmissing =>
      have hp : ∀ p, parent = some p → s.reach? p ≠ none := fun p hp hn =>
        hmissing ((parentMissing_iff s parent).2 ⟨p, hp, hn⟩)
      split
      · exact h
      · split
        · next hnone =>
          have hpath : ∀ i o, cell? s.obk.orders i = some o → o.live = true →
              r ∉ pathOf s.cal.reaches (s.reachOf o) :=
            fun i o ho hl hm => h.path_configured ho hl hm hnone
          refine h.reshape (h.setReach_tree hr hlt) (h.setReach_rooted hp)
            (fun k hk => cell?_setCell_other _ _ hk) (fun i o ho hl => Or.inl (hpath i o ho hl)) (fun u _ hu => ?_)
          rw [h.committed_zero hr hpath hu]
          exact Nat.zero_le _
        · next old hold =>
          split
          · exact h
          · next huse => exact h.reconfigure hold hr hlt hp (eq_false_of_ne_true huse)

theorem unconfigureReach (h : RingSound s) : RingSound (s.unconfigureReach r).1 := by
  unfold State.unconfigureReach
  split
  · exact h
  · next hr =>
    have hr : r < 32 := Nat.lt_of_not_le hr
    split
    · exact h
    · split
      · exact h
      · next hused =>
        rw [reach_used_iff, not_or] at hused
        obtain ⟨hchild, hpoint⟩ := hused
        have hread : ∀ k, cell? (delCell s.cal.reaches r) k = if k = r then none else cell? s.cal.reaches k :=
          fun k => cell?_delCell _ _ _
        have hkept : ∀ {k v}, cell? (delCell s.cal.reaches r) k = some v → cell? s.cal.reaches k = some v := by
          intro k v hk
          rw [hread] at hk
          split_ifs at hk
          exact hk
        have hpath : ∀ i o, cell? s.obk.orders i = some o → o.live = true →
            r ∉ pathOf s.cal.reaches (s.reachOf o) := by
          intro i o ho hl hm
          rcases child_of_mem_pathUp hm with he | ⟨k, v, hk, hv⟩
          · obtain ⟨p, hp⟩ := Option.ne_none_iff_exists'.1 (h.stands i o ho hl).point
            exact hpoint ⟨(o.point, p), mem_of_cell? hp, by rw [he, State.reachOf_of_point hp]⟩
          · exact hchild ⟨(k, v), mem_of_cell? hk, hv⟩
        refine h.reshape (fun k v hk => h.tree k v (hkept hk)) ⟨fun k v p hk hv => ?_, fun n p hn => ?_⟩
          (fun k hk => (hread k).trans (if_neg hk)) (fun i o ho hl => Or.inl (hpath i o ho hl)) (fun u _ hu => ?_)
        · have hpr : p ≠ r := by
            rintro rfl
            exact hchild ⟨(k, v), mem_of_cell? (hkept hk), hv⟩
          rw [State.reach?, hread, if_neg hpr]
          exact h.rooted.1 k v p (hkept hk) hv
        · have hpr : p.reach ≠ r := fun he => hpoint ⟨(n, p), mem_of_cell? hn, he⟩
          rw [State.reach?, hread, if_neg hpr]
          exact h.rooted.2 n p hn
        · rw [h.committed_zero hr hpath hu]
          exact Nat.zero_le _

/-! ### A point changes (R7 to R11) -/

/-- The check point fields and the points change so that every point lies on a configured reach, and the point of
each live order on the reach it lay on. -/
theorem repoint (h : RingSound s) (hobk : t.obk = s.obk) (hmail : t.mail.orderBook = s.mail.orderBook)
    (hcal : t.cal = { s.cal with reaches := t.cal.reaches }) (hshape : SameShape s.cal.reaches t.cal.reaches)
    (hrise : risingKeys t.points = true) (hplaces : ∀ n p, t.point? n = some p → s.reach? p.reach ≠ none)
    (hlive : ∀ i o, cell? s.obk.orders i = some o → o.live = true →
      (t.point? o.point).map Point.reach = (s.point? o.point).map Point.reach) : RingSound t := by
  have hreach : ∀ r, t.reach? r = none ↔ s.reach? r = none := hshape.none_iff
  have hrooted : t.rooted := by
    refine ⟨fun r v p hv hp => ?_, fun n p hp => mt (hreach _).1 (hplaces n p hp)⟩
    have hr := hshape.parent r
    have hv' : cell? t.cal.reaches r = some v := hv
    rw [hv', Option.bind_some, hp, eq_comm, Option.bind_eq_some_iff] at hr
    obtain ⟨w, hw, hwp⟩ := hr
    exact mt (hreach p).1 (h.rooted.1 r w p hw hwp)
  refine h.refit (.of_eq hobk hmail) (by rw [hcal]; rfl) (by rw [hcal]) (hshape.tree h.tree) hrise hrooted
    (fun i o ho hl => ?_) (fun i o ho hl j u => ?_) (fun j u _ _ hroom => ?_)
  · rw [Ne, ← Option.map_eq_none_iff (f := Point.reach), hlive i o ho hl, Option.map_eq_none_iff]
    exact (h.stands i o ho hl).point
  · exact State.holds_of_path (congrArg (fun x : Option Nat => x.getD 0) (hlive i o ho hl))
      (fun k _ => hshape.parent k) (fun k _ => hshape.lagOf k) j u
  · have hcap := hshape.capacityIn (c := s.cal) (k := t.cal) (by rw [hcal])
    have hcom : t.cal.committedIn = s.cal.committedIn := by rw [hcal]; rfl
    have hmark : t.cal.headMark = s.cal.headMark := by rw [hcal]; rfl
    rwa [Calendar.roomy, hcap, hcom, hmark]

theorem not_liveAt {n : Nat} (hn : s.liveAt n = false) {i : Nat} {o : Order} (ho : cell? s.obk.orders i = some o)
    (hl : o.live = true) : o.point ≠ n := by
  rintro rfl
  exact mt (s.liveAt_iff _).2 (by simp [hn]) ⟨(i, o), mem_of_cell? ho, rfl, hl⟩

/-- A point takes a record: it keeps its reach, or no live order is at it. -/
theorem setPoint {n : Nat} {q : Point} (h : RingSound s) (hq : s.reach? q.reach ≠ none)
    (hn : (∃ p, s.point? n = some p ∧ p.reach = q.reach) ∨
      ∀ i o, cell? s.obk.orders i = some o → o.live = true → o.point ≠ n) : RingSound (s.setPoint n q) := by
  refine h.repoint rfl rfl rfl (fun _ => rfl) (risingKeys_setCell n q h.pointsRise) (fun m p hm => ?_)
    (fun i o ho hl => ?_)
  · rw [State.setPoint_point?] at hm
    split_ifs at hm
    · cases hm
      exact hq
    · exact h.rooted.2 m p hm
  · rw [State.setPoint_point?]
    by_cases hon : o.point = n
    · obtain ⟨p, hp, hpr⟩ := hn.resolve_right fun hn => hn i o ho hl hon
      rw [if_pos hon, hon, hp, Option.map_some, Option.map_some, hpr]
    · rw [if_neg hon]

/-- The check point fields are not read. -/
theorem followCheck (n : Nat) (old : Option Point) (q : Point) (h : RingSound s) :
    RingSound (s.followCheck n old (some q)) := by
  have hframe := s.followCheck_frame n old (some q)
  refine h.repoint (by rw [hframe]) (by rw [hframe]) (by rw [hframe]) ?_ (by rw [hframe]; exact h.pointsRise)
    (fun m p hm => h.rooted.2 m p ?_) (fun i o ho hl => by rw [hframe]; rfl)
  · refine sameShape_of_map (s.followCheck_reach? n · old q) fun k v => ?_
    split_ifs <;> rfl
  · rw [hframe] at hm
    exact hm

/-- The poll rotation is not read. -/
theorem followPolling (a : Nat) (h : RingSound s) : RingSound (s.followPolling a) := by
  rw [State.followPolling_frame]
  exact h.redrawn (.of_eq rfl rfl rfl rfl)

theorem createPoint {n : Nat} {q : Point} (old : Option Point) (h : RingSound s) (hq : s.reach? q.reach ≠ none)
    (hn : ∀ i o, cell? s.obk.orders i = some o → o.live = true → o.point ≠ n) :
    RingSound (s.createPoint n old q) :=
  ((h.setPoint hq (Or.inr hn)).followCheck n old q).followPolling _

theorem removePoint {n : Nat} {p : Point} (h : RingSound s) (hn : s.liveAt n = false) :
    RingSound (s.removePoint n p) := by
  have hframe := s.removePoint_frame n p
  refine h.repoint (by rw [hframe]) (by rw [hframe]; rfl) (by rw [hframe]) ?_ ?_ (fun m q hm => ?_)
    (fun i o ho hl => ?_)
  · refine sameShape_of_map (s.removePoint_reach? n p) fun k v => ?_
    split_ifs <;> rfl
  · rw [s.removePoint_points]
    exact risingKeys_delCell n h.pointsRise
  · rw [s.removePoint_point?] at hm
    split_ifs at hm
    exact h.rooted.2 m q hm
  · rw [s.removePoint_point?, if_neg (not_liveAt hn ho hl)]

/-- What the checks of R8 leave of a point that passes them. -/
theorem pointRefused_none {n reach rated : Nat} {k : PointKind} {owner : Option Nat}
    (h : s.pointRefused n k reach owner rated = none) :
    s.reach? reach ≠ none ∧
      ∀ p, s.point? n = some p → p.moves k reach owner = true → s.liveAt n = false := by
  unfold State.pointRefused at h
  cases hv : s.reach? reach with
  | none => simp [hv] at h
  | some v =>
    refine ⟨nofun, fun p hp hm => ?_⟩
    simp only [hv, hp, hm, true_and] at h
    split_ifs at h with h1 h2 h3 h4
    exact eq_false_of_ne_true h4

/-- A point that keeps its kind (R9 to R11). -/
theorem updatePoint {n reach rated frost : Nat} {p : Point} {owner : Option Nat} (c : Calibration) (h : RingSound s)
    (hp : s.point? n = some p) (hr : s.reach? reach ≠ none)
    (hn : p.reach = reach ∨ ∀ i o, cell? s.obk.orders i = some o → o.live = true → o.point ≠ n) :
    RingSound (s.updatePoint n p reach owner rated frost c) := by
  have hset : ∀ q : Point, q.reach = reach → RingSound (s.setPoint n q) := fun q hq =>
    h.setPoint (by rwa [hq]) (hn.imp_left fun he => ⟨p, hp, he.trans hq.symm⟩)
  unfold State.updatePoint
  dsimp only
  split
  · have hmoved := hset { p with reach := reach, account := owner, rated := rated, frostRate := frost } rfl
    split
    · exact hmoved.followCheck n (some p) _
    · exact (hmoved.followCheck n (some p) _).redrawn (.recheck _ n)
  · have hturnout := hset (Point.calibrate c
      { p with reach := reach, account := owner, rated := rated, frostRate := frost }) (by
        unfold Point.calibrate
        split <;> rfl)
    split
    · exact (hturnout.redrawn (.retarget _ n)).redrawn (.refreshPath _ reach)
    · exact hturnout

theorem givePoint {n reach rated frost : Nat} {k : PointKind} {owner : Option Nat} (c : Calibration)
    (h : RingSound s) : RingSound (s.givePoint n k reach owner rated frost c).1 := by
  unfold State.givePoint
  split
  · exact h
  · next hrefused =>
    obtain ⟨hr, hmoves⟩ := pointRefused_none hrefused
    dsimp only
    split
    · next hp =>
      refine (h.createPoint none hr fun i o ho hl hon => ?_).redrawn (.arbitrate _)
      exact (h.stands i o ho hl).point (hon ▸ hp)
    · next p hp =>
      have hfree : p.moves k reach owner = true →
          ∀ i o, cell? s.obk.orders i = some o → o.live = true → o.point ≠ n :=
        fun hm i o ho hl => not_liveAt (hmoves p hp hm) ho hl
      split
      · refine (h.updatePoint c hp hr ?_).redrawn (.arbitrate _)
        by_cases he : p.reach = reach
        · exact Or.inl he
        · exact Or.inr (hfree ((p.moves_iff k reach owner).2 (Or.inr (Or.inl he))))
      · next hk =>
        exact (h.createPoint (some p) hr (hfree ((p.moves_iff k reach owner).2 (Or.inl hk)))).redrawn
          (.arbitrate _)

theorem clearPoint {n : Nat} (h : RingSound s) : RingSound (s.clearPoint n).1 := by
  unfold State.clearPoint
  split
  · exact h
  · split
    · exact h
    · split
      · exact h
      · next hlive => exact (h.removePoint (eq_false_of_ne_true hlive)).redrawn (.arbitrate _)

end RingSound

end Sys2Proof.Machine
end

section
/-! Every request at its owning block keeps the ring. -/

namespace Sys2Proof.Machine

namespace RingSound

variable {s t : State}

/-- What a request makes of a state. -/
abbrev After (r : State × Reply) : Prop := RingSound r.1

theorem ite {p : Prop} [Decidable p] {a b : State × Reply} (ha : After a) (hb : After b) :
    After (if p then a else b) := by
  split
  · exact ha
  · exact hb

theorem arbitrate (h : RingSound s) : RingSound s.arbitrate := h.redrawn (.arbitrate s)

theorem settle {r : State × Reply} (h : RingSound s) (hr : RingSound r.1) : After (s.settle r) := ite h hr.arbitrate

/-! ### The tables (chapter 1) -/

theorem reqReachSet (a r : Nat) (p : Option Nat) (q l : Nat) (h : RingSound s) : After (reqReachSet a r p q l s) := by
  unfold Machine.reqReachSet
  split
  · exact h.configureReach p q l
  · exact h.unconfigureReach
  · exact h

theorem reqPointSet (n k r a f g m i : Nat) (h : RingSound s) : After (reqPointSet n k r a f g m i s) := by
  unfold Machine.reqPointSet
  refine ite h ?_
  dsimp only
  split
  · exact h.clearPoint
  · exact h.givePoint _
  · exact h.givePoint _

theorem reqAccountSet (n c b : Nat) (h : RingSound s) : After (reqAccountSet n c b s) := by
  unfold Machine.reqAccountSet
  refine ite h ?_
  split
  · exact h.redrawn (.setAccount s n _)
  · next old _ =>
    have hset := h.redrawn (.setAccount s n (old.revise (Account.reset c b)))
    exact ite hset.startReexamination.arbitrate hset

theorem reqAccountSuspend (n : Nat) (h : RingSound s) : After (reqAccountSuspend n s) := by
  unfold Machine.reqAccountSuspend
  refine ite h ?_
  split
  · exact h
  · next a _ =>
    refine ite ?_ h
    have hgone := (h.redrawn (.setAccount s n (a.revise fun a => { a with state := .suspended }))).suspendAll n
    refine RingSound.arbitrate ?_
    split
    · exact hgone
    · exact hgone.startReexamination

theorem reqAccountResume (n : Nat) (h : RingSound s) : After (reqAccountResume n s) := by
  unfold Machine.reqAccountResume
  refine ite h ?_
  split
  · exact h
  · exact ite (h.redrawn (.setAccount s n _)).startReexamination.arbitrate h

theorem reqAccountClose (n : Nat) (h : RingSound s) : After (reqAccountClose n s) := by
  unfold Machine.reqAccountClose
  refine ite h ?_
  split
  · exact h
  · exact ite h (ite h (h.redrawn (.setAccount s n _)))

/-! ### The calendar (chapter 2) -/

theorem reqDistrictSet (l d b o p : Nat) (h : RingSound s) : After (reqDistrictSet l d b o p s) :=
  (h.recal (c := { s.cal with defaultSupply := min 60000 d }) rfl rfl rfl fun _ _ _ _ hr => hr).redrawn
    (.of_eq rfl rfl rfl rfl)

theorem reqClockSet (m : Nat) (h : RingSound s) : After (reqClockSet m s) := by
  unfold Machine.reqClockSet
  refine ite h ?_
  split
  · exact h
  · next hlive => exact h.setClock m (eq_false_of_ne_true hlive)

theorem writeSupplies (first count flow : Nat) (h : RingSound s) : After (s.writeSupplies first count flow) := by
  have hset := h.supplied first count flow
  have hsweep : ∀ (p : Prop) [Decidable p] w, RingSound (if p then
      ({ s with cal := s.cal.supplied first count flow } : State)
      else ({ s with cal := s.cal.supplied first count flow } : State).startSweep w) :=
    fun p _ w => hset.redrawn (.ite (.refl _) (.startSweep _ w))
  unfold State.writeSupplies
  dsimp only [After]
  split
  · exact (hsweep _ _).startReexamination.arbitrate
  · exact hsweep _ _

theorem reqSupplySet (first count flow : Nat) (h : RingSound s) : After (reqSupplySet first count flow s) :=
  ite h (ite h (ite h (h.writeSupplies first count flow)))

/-! ### Orders (chapters 3 and 4) -/

theorem placeEvent (q : Ask) (tries : Nat) (h : RingSound s) : RingSound (placeEvent q tries s).1 := by
  have hplaced : RingSound (match s.obk.search with
      | none => s.placeFirst q tries
      | some v => s.placeNext q tries v).1 := by
    split
    · exact h.placeFirst q tries
    · exact h.placeNext q tries _
  unfold Machine.placeEvent
  dsimp only
  split <;> exact hplaced.redrawn (.of_aside _ _ _ _ _ _)

theorem reqPlace (p u d f o l n : Nat) (h : RingSound s) : RingSound (reqPlace p u d f o l n s).1 := by
  unfold Machine.reqPlace
  split
  · exact h
  · next q _ =>
    have hplaced := h.placeEvent q n
    dsimp only
    split
    · exact hplaced
    · split
      · exact hplaced
      · exact hplaced.arbitrate

theorem reqAmend (x : Nat) (f e : Option Nat) (h : RingSound s) : After (reqAmend x f e s) :=
  h.settle (h.amendBook x f e)

theorem reqCancel (c r o : Nat) (h : RingSound s) : After (reqCancel c r o s) := by
  refine h.settle ?_
  unfold cancelBook
  split
  · exact h.cancelNamed r
  · refine ite h ?_
    split
    · exact h
    · exact h.cancelMany _ _
  · refine ite h ?_
    split
    · exact h
    · exact h.cancelMany _ _
  · exact h

theorem reqRetire (x : Nat) (h : RingSound s) : After (reqRetire x s) := by
  unfold Machine.reqRetire
  split
  · exact h
  · next i o hn =>
    split
    · exact h
    · next hl =>
      refine h.retireEntry fun y hy => ?_
      have hyo : y = o := Option.some.inj (hy.symm.trans (OrderBook.cell?_of_named? hn))
      exact hyo ▸ eq_false_of_ne_true hl

theorem reqNextChanged (h : RingSound s) : After (reqNextChanged s) := by
  unfold Machine.reqNextChanged
  split
  · exact h
  · dsimp only
    split <;> exact h.redrawn (.of_aside _ _ _ _ _ _)

theorem reqStandingSet (x p o d f c : Nat) (n : Option Nat) (h : RingSound s) :
    After (reqStandingSet x p o d f c n s) := by
  unfold Machine.reqStandingSet
  refine ite h ?_
  split
  · exact h
  · split
    · exact h
    · exact h.redrawn (.of_aside _ _ _ _ _ _)

theorem reqStandingResume (x : Nat) (h : RingSound s) : After (reqStandingResume x s) := by
  unfold Machine.reqStandingResume
  refine ite h ?_
  split
  · exact h
  · exact ite (h.redrawn (.of_aside _ _ _ _ _ _)) h

theorem reqStandingClear (x : Nat) (h : RingSound s) : After (reqStandingClear x s) :=
  ite h (h.redrawn (.of_aside _ _ _ _ _ _))

/-! ### Release Control, the field line and the meters (chapters 5 to 7) -/

theorem reqPointEnable (n : Nat) (h : RingSound s) : After (reqPointEnable n s) := by
  unfold Machine.reqPointEnable
  refine ite h ?_
  split
  · exact h
  · next hp => exact ite h (h.redrawn (.enablePoint s hp)).arbitrate

theorem reqPointDisable (n a : Nat) (h : RingSound s) : After (reqPointDisable n a s) := by
  unfold Machine.reqPointDisable
  refine ite h ?_
  split
  · exact h
  · next hp =>
    exact RingSound.arbitrate (h.redrawn (.ite (.closePoint s hp) (.leavePoint s n _)))

theorem reqLocalAck (n : Nat) (h : RingSound s) : After (reqLocalAck n s) := by
  unfold Machine.reqLocalAck
  refine ite h ?_
  split
  · exact h
  · next hp => exact ite h (h.redrawn (.setPoint _ hp rfl))

theorem reqFrostCall (c r : Nat) (h : RingSound s) : After (reqFrostCall c r s) := by
  unfold Machine.reqFrostCall
  refine ite h (ite h ?_)
  dsimp only [After]
  exact RingSound.arbitrate (h.redrawn (.after (.refreshFrost _ _) (.foldl s (fun s e => .enterFrost s e) _)))

theorem reqFrostEnd (c r : Nat) (h : RingSound s) : After (reqFrostEnd c r s) := by
  unfold Machine.reqFrostEnd
  refine ite h (ite h ?_)
  dsimp only [After]
  exact RingSound.arbitrate (h.redrawn (.after (.refreshFrost _ _) (.foldl s (fun s e => .leaveFrost s e) _)))

theorem setMode (m : FieldMode) (h : RingSound s) : RingSound (s.setMode m) := h.redrawn (.of_eq rfl rfl rfl rfl)

theorem reqFieldStart (h : RingSound s) : After (reqFieldStart s) := by
  unfold Machine.reqFieldStart
  split
  · exact (h.setMode _).arbitrate
  · exact h
  · exact h

theorem reqFieldStop (h : RingSound s) : After (reqFieldStop s) := by
  unfold Machine.reqFieldStop
  dsimp only
  split
  · exact h
  · exact ((h.setMode _).redrawn (.cutShort _)).redrawn (.abandonPoll _)
  · exact ((h.setMode _).redrawn (.cutShort _)).redrawn (.abandonPoll _)

theorem reqResume (h : RingSound s) : After (reqResume s) := by
  unfold Machine.reqResume
  split
  · exact ite h (h.setMode _).arbitrate
  · exact h
  · exact h

theorem reqMeterRebase (n : Nat) (h : RingSound s) : After (reqMeterRebase n s) := by
  unfold Machine.reqMeterRebase
  refine ite h ?_
  split
  · exact h
  · next hp => exact ite h (h.redrawn (.setPoint _ hp rfl))

/-! ### Accounts, sweeps and faults (chapters 8 to 10) -/

theorem reqTransfer (g k v : Nat) (h : RingSound s) : After (reqTransfer g k v s) := by
  unfold Machine.reqTransfer
  refine ite h ?_
  split
  · exact ite h (ite h (ite h (h.redrawn (.moveLitres s g k v)).startReexamination.arbitrate))
  · exact h

theorem reqPeriodClose (c r : Nat) (h : RingSound s) : After (reqPeriodClose c r s) := by
  have hscope : ∀ sc, After (s.closeScopePeriod sc) := fun sc =>
    ite h (h.redrawn (.startSweep s _))
  unfold Machine.reqPeriodClose
  split
  · unfold State.closeAccountPeriod
    refine ite h (ite h ?_)
    split
    · exact h
    · exact h.closePeriod r
  · exact ite h (hscope _)
  · exact hscope _
  · exact h

theorem reqSeasonOpen (h : RingSound s) : After (reqSeasonOpen s) :=
  ite h (ite h ((h.redrawn (.startSweep s _)).redrawn (.openSeason _)))

theorem reqNextAccountChanged (h : RingSound s) : After (reqNextAccountChanged s) := by
  unfold Machine.reqNextAccountChanged
  split
  · exact h
  · exact h.redrawn (.setAccount s _ _)

theorem reqCurtail (c k b z q d : Nat) (h : RingSound s) : After (reqCurtail c k b z q d s) := by
  unfold Machine.reqCurtail
  split
  · exact h
  · refine ite h (ite h ?_)
    dsimp only
    split
    · exact h
    · exact h.redrawn (.startSweep s _)

/-! ### Every request -/

/-- A query hands the state back. -/
theorem of_query {r : State × Reply} {a : Reply} (h : RingSound s) (hr : r = (s, a)) : After r := hr ▸ h

theorem runRequest (c : Instr) (h : RingSound s) : RingSound (runRequest c s).1 := by
  have aside {t : State} (hc : t.cal = s.cal) (ho : t.obk = s.obk) (hp : t.points = s.points)
      (hm : t.mail.orderBook = s.mail.orderBook) : RingSound t := h.redrawn (.of_eq hc ho hp hm)
  cases c
  case reachSet a r p q l => exact h.reqReachSet a r p q l
  case reachQuery n => exact h.of_query (reqReachQuery_eq n s)
  case pointSet p k r a f q m i => exact h.reqPointSet p k r a f q m i
  case pointQuery n => exact h.of_query (reqPointQuery_eq n s)
  case accountSet a c b => exact h.reqAccountSet a c b
  case accountQuery a p => exact h.of_query (reqAccountQuery_eq a p s)
  case accountSuspend a => exact h.reqAccountSuspend a
  case accountResume a => exact h.reqAccountResume a
  case accountClose a => exact h.reqAccountClose a
  case tariffSet => exact ite h (aside rfl rfl rfl rfl)
  case tariffQuery c => exact h.of_query (reqTariffQuery_eq c s)
  case districtSet l d b o p => exact h.reqDistrictSet l d b o p
  case clockSet m => exact h.reqClockSet m
  case capacityQuery r f n => exact h.of_query (reqCapacityQuery_eq r f n s)
  case supplySet f n w => exact h.reqSupplySet f n w
  case place p u d f o l n => exact h.reqPlace p u d f o l n
  case amend x f e => exact h.reqAmend x f e
  case cancel c r o => exact h.reqCancel c r o
  case orderQuery x => exact h.of_query (reqOrderQuery_eq x s)
  case retire x => exact h.reqRetire x
  case nextChanged => exact h.reqNextChanged
  case waitlistQuery k => exact h.of_query (reqWaitlistQuery_eq k s)
  case standingSet x p o d f c n => exact h.reqStandingSet x p o d f c n
  case standingResume x => exact h.reqStandingResume x
  case standingClear x => exact h.reqStandingClear x
  case standingQuery x => exact h.of_query (reqStandingQuery_eq x s)
  case pointEnable n => exact h.reqPointEnable n
  case pointDisable n a => exact h.reqPointDisable n a
  case localAck n => exact h.reqLocalAck n
  case frostCall c r => exact h.reqFrostCall c r
  case frostEnd c r => exact h.reqFrostEnd c r
  case fieldStart => exact h.reqFieldStart
  case fieldStop => exact h.reqFieldStop
  case resume => exact h.reqResume
  case stationQuery a => exact h.of_query (reqStationQuery_eq a s)
  case meterRebase n => exact h.reqMeterRebase n
  case meterQuery n => exact h.of_query (reqMeterQuery_eq n s)
  case transfer g k v => exact h.reqTransfer g k v
  case periodClose c r => exact h.reqPeriodClose c r
  case seasonOpen => exact h.reqSeasonOpen
  case statementQuery n => exact h.of_query (reqStatementQuery_eq n s)
  case nextAccountChanged => exact h.reqNextAccountChanged
  case curtail c k b z q d => exact h.reqCurtail c k b z q d
  case sweepQuery => exact aside rfl rfl rfl rfl
  case errorClear => exact ite h (aside rfl rfl rfl rfl)
  case severitySet => exact ite h (aside rfl rfl rfl rfl)
  case countSelect => exact ite h (aside rfl rfl rfl rfl)
  case attentionMask => exact aside rfl rfl rfl rfl
  all_goals exact h

end RingSound

end Sys2Proof.Machine
end

section
/-! Every command keeps the ring (O35). -/

namespace Sys2Proof.Machine

/-- The next state of an outcome, if it is one, has the ring. -/
def SoundNext (r : Host.Outcome State Fault Refusal) : Prop := ∀ t, r = .next t → RingSound t

namespace SoundNext

variable {s t : State}

theorem next (h : RingSound t) : SoundNext (.next t) := by
  rintro _ ⟨⟩
  exact h

theorem ite {p : Prop} [Decidable p] {x y : Host.Outcome State Fault Refusal} (hx : SoundNext x) (hy : SoundNext y) :
    SoundNext (if p then x else y) := by
  split
  · exact hx
  · exact hy

end SoundNext

namespace RingSound

variable {s t : State}

/-- What stands aside of the calendar, the Order Book, the points and the presented boundaries may change. -/
theorem aside (h : RingSound s) (hc : t.cal = s.cal) (ho : t.obk = s.obk) (hp : t.points = s.points)
    (hm : t.mail.orderBook = s.mail.orderBook) : RingSound t := h.redrawn (.of_eq hc ho hp hm)

theorem setPort (h : RingSound s) (p : Port) : RingSound { s with port := p } := h.aside rfl rfl rfl rfl

/-! ### Requests -/

theorem exec_request {c : Instr} (hc : (requestBytes c).isSome = true) (hp : isPlace c = false)
    (hs : c ≠ .softReset) (h : RingSound s) : SoundNext (exec c s) := by
  obtain ⟨act, hact, hrun⟩ := exec_of_request hc hp hs
  have hdone := h.runRequest c
  rw [hrun] at hdone
  rw [hact]
  exact .ite (.next (hdone.setPort _)) (.next h)

theorem execPlace (p u d f o l n : Nat) (h : RingSound s) : SoundNext (execPlace p u d f o l n s) := by
  have hplaced := h.reqPlace p u d f o l n
  refine .ite ?_ (.next h)
  dsimp only
  split
  · exact .next hplaced
  · exact .next (hplaced.setPort _)

/-! ### Transactions, resets and power (chapter 11) -/

theorem execCommand (m : Clocked) (h : RingSound s) : SoundNext (execCommand m s) := by
  have hdrive : RingSound (s.drive (8 + clockedBits m) []) := h.aside rfl rfl rfl rfl
  refine .next ?_
  split_ifs
  · unfold State.takeFrame
    split
    · exact hdrive.setPort _
    · exact hdrive.setPort _
  · exact hdrive.aside rfl rfl rfl rfl
  · exact hdrive

theorem execFetch (bits : Nat) (h : RingSound s) : SoundNext (execFetch bits s) := by
  unfold Machine.execFetch
  split
  · exact .next (h.aside rfl rfl rfl rfl)
  · refine .next ?_
    split_ifs
    · exact h.aside rfl rfl rfl rfl
    · exact h.aside rfl rfl rfl rfl

theorem warmReset (h : RingSound s) : RingSound s.warmReset := h.redrawn (.warmReset s)

theorem execResetAsserted (h : RingSound s) : SoundNext (execResetAsserted s) := by
  have hline : RingSound { s with resetAsserted := true } := h.aside rfl rfl rfl rfl
  refine .ite (.next h) (.next ?_)
  split
  · exact hline.warmReset
  · exact hline

theorem execOrphanCompletion (h : RingSound s) : SoundNext (execOrphanCompletion s) := by
  refine .ite ?_ (.next h)
  cases s.port.executing? with
  | none => exact .next h
  | some c =>
    have hrun := h.runRequest c
    dsimp only
    split
    · exact .next hrun
    · next a _ => exact .next ((hrun.redrawn (.markHandle _ a.names)).setPort _)

/-- Power-on values: nothing is configured, no order exists, and no flow is committed. -/
theorem powerOn : RingSound State.reset where
  tree _ _ hr := nomatch hr
  ordersRise := rfl
  index _ _ ho := nomatch ho
  pointsRise := rfl
  rooted := ⟨fun _ _ _ hr => (nomatch hr), fun _ _ hp => (nomatch hp)⟩
  stands _ _ ho := nomatch ho
  slot := Nat.le_refl 0
  presented _ hm := nomatch hm
  flow _ _ _ _ := (Finset.sum_eq_zero fun _ _ => rfl).symm
  room _ _ _ _ := .inl (Nat.zero_le _)
  once := List.nodup_nil
  waits _ hw := nomatch hw

theorem powered (p : Power) : RingSound (s.powered p) := powerOn.aside rfl rfl rfl rfl

/-! ### The minute and the boundary (chapters 2 to 5, 7 and 9) -/

theorem execMinuteEdge (h : RingSound s) : SoundNext (execMinuteEdge s) := by
  refine .next ?_
  split
  · exact h.minute
  · exact h

theorem execOrderBookBoundary (h : RingSound s) : SoundNext (execOrderBookBoundary s) := by
  unfold Machine.execOrderBookBoundary
  split
  · exact .next h
  · next u rest hm =>
    have hrest : RingSound { s with mail.orderBook := rest } :=
      { h with
        stands := fun i o ho hl => (h.stands i o ho hl).transfer id rfl
        presented := fun t ht => h.presented t (hm ▸ List.mem_cons_of_mem u ht) }
    exact .next (hrest.bookBoundary (h.presented u (hm ▸ List.mem_cons_self))).arbitrate

theorem execScheduledOrderNotice (n : Nat) (h : RingSound s) : SoundNext (execScheduledOrderNotice n s) := by
  unfold Machine.execScheduledOrderNotice
  split
  · exact .next h
  · next x rest _ =>
    have hrest : RingSound { s with mail.notices := rest } := h.aside rfl rfl rfl rfl
    exact .next (hrest.redrawn (.takeNotice _ x)).arbitrate

theorem execReleaseControlBoundary (h : RingSound s) : SoundNext (execReleaseControlBoundary s) := by
  unfold Machine.execReleaseControlBoundary
  split
  · exact .next h
  · next u rest _ =>
    have hrest : RingSound { s with mail.release := rest } := h.aside rfl rfl rfl rfl
    exact .next (hrest.redrawn (.recheckMany _ _)).arbitrate

theorem execMeterBoundary (h : RingSound s) : SoundNext (execMeterBoundary s) := by
  unfold Machine.execMeterBoundary
  split
  · exact .next h
  · next t rest _ =>
    have hrest : RingSound { s with mail.meter := rest } := h.aside rfl rfl rfl rfl
    exact .next (hrest.redrawn (.meterBoundary _ t))

theorem execSweepBoundary (h : RingSound s) : SoundNext (execSweepBoundary s) := by
  unfold Machine.execSweepBoundary
  split
  · exact .next h
  · next u rest _ =>
    have hrest : RingSound { s with mail.sweep := rest } := h.aside rfl rfl rfl rfl
    exact .next (hrest.redrawn (.skipPassed _))

/-! ### The field line and its deliveries (chapters 5 to 7) -/

theorem execPollIntervalElapsed (a : Nat) (h : RingSound s) : SoundNext (execPollIntervalElapsed a s) :=
  .ite (.next (h.redrawn (.setStation s a _)).arbitrate) (.next h)

theorem execOutFrameSent (h : RingSound s) : SoundNext (execOutFrameSent s) := by
  unfold Machine.execOutFrameSent
  split
  · exact .next h
  · exact .ite (.next (h.aside rfl rfl rfl rfl)) (.next h)

theorem execAttemptDeadline (h : RingSound s) : SoundNext (execAttemptDeadline s) := by
  unfold Machine.execAttemptDeadline
  split
  · exact .next h
  · next t _ =>
    exact .ite (.next h)
      (.ite (.next (h.redrawn (.endUnanswered s t)).arbitrate) (.next (h.aside rfl rfl rfl rfl)))

theorem badReply (t : Transaction) (length : Nat) (h : RingSound s) : RingSound (s.badReply t length).arbitrate :=
  (h.redrawn (.badReply s t length)).arbitrate

theorem execReplyKindByte (a k : Byte) (h : RingSound s) : SoundNext (execReplyKindByte a k s) := by
  unfold Machine.execReplyKindByte
  split
  · exact .next h
  · refine .ite ?_ (.next h)
    split
    · exact .next (h.aside rfl rfl rfl rfl)
    · exact .next (h.badReply _ 0)

theorem execFieldReply (f : List Byte) (h : RingSound s) : SoundNext (execFieldReply f s) := by
  unfold Machine.execFieldReply
  split
  · exact .next h
  · next t _ =>
    refine .ite (.next h) ?_
    split
    · exact .ite (.next (h.badReply t 0)) (.next h)
    · next n _ =>
      exact .ite (.next h)
        (.ite (.next (h.redrawn (.endAnswered s t (f.take n))).arbitrate) (.next (h.badReply t n)))

theorem execAppliedSetpointReport (n v : Nat) (h : RingSound s) : SoundNext (execAppliedSetpointReport n v s) := by
  unfold Machine.execAppliedSetpointReport
  split
  · exact .next h
  · next rest _ =>
    have hrest : RingSound { s with mail.applied := rest } := h.aside rfl rfl rfl rfl
    refine .next ?_
    dsimp only
    split_ifs
    · exact (hrest.redrawn (.clearCloseOwed _ n)).arbitrate
    · exact hrest

theorem execGateReport (n : Nat) (w : Switch) (g : Nat) (b : Bool) (h : RingSound s) :
    SoundNext (execGateReport n w g b s) := by
  unfold Machine.execGateReport
  dsimp only
  split
  · exact .next h
  · next rest _ =>
    have hrest : RingSound { s with mail.gates := rest } := h.aside rfl rfl rfl rfl
    exact .next (hrest.redrawn (.takeGate _ _)).arbitrate

theorem execMeterReading (n v : Nat) (b : Bool) (h : RingSound s) : SoundNext (execMeterReading n v b s) := by
  unfold Machine.execMeterReading
  dsimp only
  split
  · exact .next h
  · next rest _ =>
    have hrest : RingSound { s with mail.readings := rest } := h.aside rfl rfl rfl rfl
    exact .next (hrest.redrawn (.takeReading _ _))

theorem execErrorReport (k : ErrorKind) (r : ErrorRef) (h : RingSound s) : SoundNext (execErrorReport k r s) := by
  unfold Machine.execErrorReport
  split
  · exact .next h
  · exact .next (h.aside rfl rfl rfl rfl)

theorem execHoldRequest (h : RingSound s) : SoundNext (execHoldRequest s) := by
  unfold Machine.execHoldRequest
  split
  · exact .next h
  · next n _ =>
    have hrest : RingSound { s with mail.holds := n } := h.aside rfl rfl rfl rfl
    exact .next (hrest.redrawn (.holdLine _))

/-! ### Sweep steps (chapter 9) -/

theorem execCurtailStep (h : RingSound s) : SoundNext (execCurtailStep s) := by
  unfold Machine.execCurtailStep
  split
  · exact .next h
  · next w _ => exact .next (h.curtailVisit w).arbitrate

theorem execSupplyBumpStep (h : RingSound s) : SoundNext (execSupplyBumpStep s) := by
  unfold Machine.execSupplyBumpStep
  split
  · exact .next h
  · next w _ => exact .next (h.bumpVisit w).arbitrate

theorem execPeriodCloseStep (h : RingSound s) : SoundNext (execPeriodCloseStep s) := by
  unfold Machine.execPeriodCloseStep
  split
  · exact .next h
  · next w _ => exact .next (h.closeVisit w)

theorem execSeasonOpenStep (h : RingSound s) : SoundNext (execSeasonOpenStep s) := by
  unfold Machine.execSeasonOpenStep
  split
  · exact .next h
  · next w _ => exact .next (h.seasonVisit w)

theorem execSweepEnd (h : RingSound s) : SoundNext (execSweepEnd s) := by
  unfold Machine.execSweepEnd
  split
  · exact .next h
  · exact .ite (.next (h.redrawn (.closeSweep s _)).reexamine.arbitrate) (.next h)

/-! ### Every command -/

/-- An event that is no request. -/
theorem exec_event {c : Instr} (hc : (requestBytes c).isSome = false) (h : RingSound s) : SoundNext (exec c s) := by
  cases c
  case command m => exact h.execCommand m
  case fetch bits => exact h.execFetch bits
  case status piece => exact .next (h.setPort _)
  case ignoredTransaction m => exact .next (h.aside rfl rfl rfl rfl)
  case resetAsserted => exact h.execResetAsserted
  case orphanCompletion => exact h.execOrphanCompletion
  case powerOn => exact .next (powered _)
  case powerOnInitComplete => exact .next (by split <;> [exact h.aside rfl rfl rfl rfl; exact h])
  case minuteEdge => exact h.execMinuteEdge
  case orderBookBoundary => exact h.execOrderBookBoundary
  case scheduledOrderNotice n => exact h.execScheduledOrderNotice n
  case releaseControlBoundary => exact h.execReleaseControlBoundary
  case meterBoundary => exact h.execMeterBoundary
  case sweepBoundary => exact h.execSweepBoundary
  case pollIntervalElapsed a => exact h.execPollIntervalElapsed a
  case attemptDeadline => exact h.execAttemptDeadline
  case fieldReply f => exact h.execFieldReply f
  case appliedSetpointReport n v => exact h.execAppliedSetpointReport n v
  case gateReport n w g b => exact h.execGateReport n w g b
  case meterReading n v b => exact h.execMeterReading n v b
  case errorReport k r => exact h.execErrorReport k r
  case holdRequest => exact h.execHoldRequest
  case curtailStep => exact h.execCurtailStep
  case supplyBumpStep => exact h.execSupplyBumpStep
  case periodCloseStep => exact h.execPeriodCloseStep
  case seasonOpenStep => exact h.execSeasonOpenStep
  case sweepEnd => exact h.execSweepEnd
  case resetReleased => exact .next (h.aside rfl rfl rfl rfl)
  case powerOff => exact .next (powered _)
  case replyKindByte a k => exact h.execReplyKindByte a k
  case outFrameSent => exact h.execOutFrameSent
  all_goals cases hc

theorem exec (c : Instr) (h : RingSound s) : SoundNext (exec c s) := by
  cases hc : (requestBytes c).isSome with
  | false => exact h.exec_event hc
  | true =>
    cases hp : isPlace c with
    | true =>
      cases c
      case place p u d f o l n => exact h.execPlace p u d f o l n
      all_goals cases hp
    | false =>
      by_cases hs : c = .softReset
      · subst hs
        exact .ite (.next h.warmReset) (.next h)
      · exact h.exec_request hc hp hs

theorem step (h : RingSound s) : SoundNext (step s) := by
  unfold Machine.step
  split
  · exact .next h
  · next c rest _ =>
    have hrest : RingSound { s with pending := rest } := h.aside rfl rfl rfl rfl
    exact hrest.exec c

end RingSound

/-- No order waits right after a power-on reset (R72). -/
theorem State.reset_queued : State.reset.queued := by
  refine ⟨rfl, fun _ _ ho => (nomatch ho), fun h => ⟨fun hw => (nomatch hw), ?_⟩,
    List.Pairwise.nil, Nat.zero_le _⟩
  rintro ⟨_, _, ho, -⟩
  cases ho

/-- Settles O35: the ring and what it rests on are one invariant, RingSound; a step that leaves the windows and
flows of the orders alone redraws it, and each operation on a reservation moves the committed flow and the
flow that the orders hold by the same amount. -/
theorem stepKeepsTheCapacityRing : Obligations.StepKeepsTheCapacityRing :=
  ⟨⟨RingSound.powerOn.kept, State.reset_queued⟩,
    fun _ t hk hq hs => ((RingSound.of_kept hk hq).step t hs).kept⟩

end Sys2Proof.Machine
end

section
/-! What a choice of the line leaves of points and stations, and the rings that CLOCK_SET builds around a new
minute (R33, R93, R116). -/

namespace Sys2Proof.Machine

/-! ### A transaction that begins (R116) -/

variable {s : State}

theorem State.beginPoll_frame (s : State) (a : Nat) :
    s.beginPoll a = { s with line := (s.beginPoll a).line } := rfl

theorem State.offerPoll_frame (s : State) : s.offerPoll = { s with line := s.offerPoll.line } := by
  unfold State.offerPoll
  split
  · exact s.beginPoll_frame _
  · rfl

/-- What begins writes points and the line alone. -/
theorem State.arbitrate_frame (s : State) :
    s.arbitrate = { s with points := s.arbitrate.points, line := s.arbitrate.line } := by
  have hpoll : s.offerPoll = { s with points := s.offerPoll.points, line := s.offerPoll.line } := by
    rw [State.offerPoll_frame]
  unfold State.arbitrate
  split
  · rfl
  · split
    · rfl
    · exact hpoll
    · split
      · rfl
      · exact hpoll

theorem State.beginSet_point? {n : Nat} {p : Point} (h : s.point? n = some p) {m : Nat} {q : Point}
    (hq : s.point? m = some q) : ∃ g, (s.beginSet n p).point? m = some { q with field := g } := by
  change ∃ g, (s.setPoint n _).point? m = _
  rw [State.setPoint_point?]
  by_cases hm : m = n
  · subst hm
    cases h.symm.trans hq
    exact ⟨_, if_pos rfl⟩
  · exact ⟨q.field, by rw [if_neg hm, hq]⟩

/-- What begins changes the field side of points alone. -/
theorem State.arbitrate_point? (hr : risingKeys s.points = true) {n : Nat} {p : Point} (h : s.point? n = some p) :
    ∃ g, s.arbitrate.point? n = some { p with field := g } := by
  have hpoll : ∃ g, s.offerPoll.point? n = some { p with field := g } := by
    rw [State.offerPoll_frame]
    exact ⟨p.field, h⟩
  unfold State.arbitrate
  split
  · exact ⟨p.field, h⟩
  · split
    · exact ⟨p.field, h⟩
    · exact hpoll
    · split
      · next e he => exact State.beginSet_point? (cell?_of_mem hr (List.mem_of_find?_eq_some he)) h
      · exact hpoll

theorem State.beginPoll_silentSince (s : State) (a b : Nat) :
    ((s.beginPoll a).station b).silentSince = (s.station b).silentSince := by
  change ((s.setStation a { s.station a with due := false }).station b).silentSince = _
  rw [State.setStation_station]
  by_cases hb : b = a
  · rw [if_pos hb, hb]
  · rw [if_neg hb]

theorem State.offerPoll_silentSince (s : State) (b : Nat) :
    (s.offerPoll.station b).silentSince = (s.station b).silentSince := by
  unfold State.offerPoll
  split
  · exact s.beginPoll_silentSince _ b
  · rfl

/-- What begins leaves each station's time of silence. -/
theorem State.arbitrate_silentSince (s : State) (b : Nat) :
    (s.arbitrate.station b).silentSince = (s.station b).silentSince := by
  unfold State.arbitrate
  split
  · rfl
  · split
    · rfl
    · exact s.offerPoll_silentSince b
    · split
      · rfl
      · exact s.offerPoll_silentSince b

/-! ### Every check target, and then the line (R93) -/

/-- What RELEASE_CONTROL_BOUNDARY and CLOCK_SET end with. -/
def State.retold (s : State) : State := s.recheckAll.arbitrate

theorem State.retold_frame (s : State) :
    s.retold = { s with
      points := s.retold.points, line := s.retold.line, mail.reports := s.retold.mail.reports } := by
  unfold State.retold
  rw [State.arbitrate_frame, State.recheckAll_eq, State.recheckMany_frame]

theorem State.retold_check (hr : risingKeys s.points = true) {n : Nat} {p : Point} (h : s.point? n = some p)
    (hp : p.isAutoCheck) : ∃ g, s.retold.point? n = some (p.rechecked (s.checkDemand p.reach) g) := by
  have hn : n ∈ s.points.map (fun e => e.1) := List.mem_map_of_mem (mem_of_cell? h)
  obtain ⟨g, hg⟩ := State.recheckMany_self hn h hp
  exact State.arbitrate_point? (State.recheckMany_rising _ hr) hg

theorem State.retold_silentSince (s : State) (b : Nat) :
    (s.retold.station b).silentSince = (s.station b).silentSince := by
  unfold State.retold
  rw [State.arbitrate_silentSince, State.recheckAll_eq, State.recheckMany_frame]
  rfl

/-! ### RELEASE_CONTROL_BOUNDARY -/

theorem execReleaseControlBoundary_empty (h : s.mail.release = []) : exec .releaseControlBoundary s = .next s := by
  change Machine.execReleaseControlBoundary s = _
  unfold Machine.execReleaseControlBoundary
  rw [h]

theorem execReleaseControlBoundary_presented {u : Nat} {rest : List Nat} (h : s.mail.release = u :: rest) :
    exec .releaseControlBoundary s = .next ({ s with mail.release := rest } : State).retold := by
  change Machine.execReleaseControlBoundary s = _
  unfold Machine.execReleaseControlBoundary
  rw [h]
  rfl

/-! ### CLOCK_SET -/

/-- What stands at a number of a table written over a run of numbers. -/
theorem cell?_map_range' {α : Type} (f : Nat → α) (a n k : Nat) :
    cell? ((List.range' a n).map (fun t => (t, f t))) k = if a ≤ k ∧ k < a + n then some (f k) else none := by
  induction n generalizing a with
  | zero => exact (if_neg (by omega)).symm
  | succ n ih =>
    rw [List.range'_succ, List.map_cons, cell?_cons, ih]
    by_cases hk : a = k
    · rw [if_pos hk, if_pos (by omega), hk]
    · rw [if_neg hk]
      exact if_congr (by omega) rfl rfl

theorem Calendar.rebuild_supplyIn (c : Calendar) (m u : Nat) :
    (c.rebuild m).supplyIn u = if m / 15 ≤ u ∧ u < m / 15 + 672 then c.defaultSupply else 0 := by
  change valueAt 0 (if c.defaultSupply = 0 then []
    else (List.range' (m / 15) 672).map fun t => (t, c.defaultSupply)) u = _
  by_cases hd : c.defaultSupply = 0
  · rw [if_pos hd, hd, ite_self]
    rfl
  · rw [if_neg hd, valueAt, cell?_map_range']
    split <;> rfl

/-- The records that follow a new minute, before the check targets do (R33). -/
def State.reclocked (m : Nat) (s : State) : State :=
  { s with
    cal := s.cal.rebuild m
    obk.slot := m / 15
    obk.templates := s.obk.templates.map (fun e => (e.1, e.2.rebased (m / 15)))
    line.stations := s.line.stations.map (fun e => (e.1, e.2.rebased (m / 15)))
    mail.orderBook := [] }

theorem State.setClock_eq (m : Nat) (s : State) : s.setClock m = (s.reclocked m).retold := rfl

theorem Station.rebased_silentSince (k : Nat) (v : Station) :
    (v.rebased k).silentSince = if v.state = .silent then some k else v.silentSince := by
  unfold Station.rebased
  split <;> rfl

theorem State.reclocked_station (m : Nat) (s : State) (a : Nat) :
    (s.reclocked m).station a = (s.station a).rebased (m / 15) := by
  change (cell? (s.line.stations.map fun e => (e.1, e.2.rebased (m / 15))) a).getD .powerOn =
    ((cell? s.line.stations a).getD .powerOn).rebased (m / 15)
  rw [cell?_map]
  cases cell? s.line.stations a <;> rfl

/-- No flow is committed right after CLOCK_SET. -/
theorem State.reclocked_checkDemand (m : Nat) (s : State) (r : Nat) : (s.reclocked m).checkDemand r = s.extraLoad r :=
  Nat.zero_add _

theorem OrderBook.anyLive_iff (b : OrderBook) : b.anyLive = true ↔ ∃ e ∈ b.orders, e.2.live = true :=
  List.any_eq_true

theorem reqClockSet_sweeping (m : Nat) (h : s.sweeping = true) : reqClockSet m s = (s, refusal .busySweep) :=
  if_pos h

theorem reqClockSet_inUse (m : Nat) (hw : s.sweeping = false) (h : s.obk.anyLive = true) :
    reqClockSet m s = (s, refusal .inUse) :=
  (if_neg (by simp [hw])).trans (if_pos h)

theorem reqClockSet_taken (m : Nat) (hw : s.sweeping = false) (h : s.obk.anyLive = false) :
    reqClockSet m s = (s.setClock m, answer .done (be32 m ++ be32 (m / 15))) :=
  (if_neg (by simp [hw])).trans (if_neg (by simp [h]))

end Sys2Proof.Machine
end

section
/-! A change of a point's mode, operation by operation: its due order, its target, the frost extra loads, its
field side (R65, R90, R91, R101). -/

namespace Sys2Proof.Machine

/-! ### What Release Control writes -/

/-- Points, frost extra loads and reports are all that changed. -/
def Retold (s t : State) : Prop :=
  t = { s with points := t.points, frostLoad := t.frostLoad, mail.reports := t.mail.reports }

namespace Retold

variable {s t u : State}

theorem refl (s : State) : Retold s s := rfl

theorem trans (h : Retold s t) (h' : Retold t u) : Retold s u := by
  unfold Retold at *
  rw [h', h]

theorem points_only (h : t = { s with points := t.points }) : Retold s t := by
  unfold Retold
  rw [h]

theorem ite {p : Prop} [Decidable p] (h : Retold s t) (h' : Retold s u) : Retold s (if p then t else u) := by
  split
  · exact h
  · exact h'

theorem recheckMany (ns : List Nat) (s : State) : Retold s (s.recheckMany ns) := by
  unfold Retold
  rw [State.recheckMany_frame]

theorem setTarget (s : State) (n flow : Nat) : Retold s (s.setTarget n flow) := points_only (s.setTarget_frame n flow)

theorem changePoint (s : State) (n : Nat) (f : Point → Point) : Retold s (s.changePoint n f) :=
  points_only (s.changePoint_frame n f)

theorem retarget (s : State) (n : Nat) : Retold s (s.retarget n) := by
  unfold State.retarget
  split
  · exact refl s
  · split
    · exact setTarget s n _
    · exact recheckMany [n] s

theorem resend (s : State) (n : Nat) : Retold s (s.resend n) :=
  (changePoint s n _).trans (points_only (State.reevaluate_frame _ n))

theorem withdraw (s : State) (n : Nat) : Retold s (s.withdraw n) := changePoint s n _

end Retold

/-! ### Frost terms (R101) -/

/-- What each point adds to the frost extra load of the reaches on its path. -/
def State.frostTerms (s : State) : List (Nat × Nat) := s.points.map (fun e => (e.2.reach, e.2.frostTerm))

theorem State.frostSum_eq (s : State) (r : Nat) :
    s.frostSum r =
      (s.frostTerms.filter (fun e => inSubtree s.cal.reaches r e.1)).foldl (fun n e => n + e.2) 0 := by
  rw [State.frostTerms, List.filter_map, List.foldl_map]
  rfl

/-- A record that keeps what is read of the one it replaces. -/
theorem map_setCell_of_eq {α β : Type} (f : α → β) {t : Table α} {k : Nat} {v w : α} (hr : risingKeys t = true)
    (h : cell? t k = some v) (hf : f w = f v) :
    (setCell t k w).map (fun e => f e.2) = t.map (fun e => f e.2) := by
  induction t with
  | nil => cases h
  | cons e t ih =>
    obtain ⟨j, u⟩ := e
    rw [cell?_cons] at h
    unfold setCell
    by_cases hj : j = k
    · subst hj
      rw [if_pos rfl] at h
      cases h
      simp [hf]
    · rw [if_neg hj] at h
      have hjk : j < k := (List.pairwise_cons.1 ((risingKeys_iff _).1 hr)).1 _ (mem_of_cell? h)
      rw [if_neg hjk.asymm, if_neg (Ne.symm hj), List.map_cons, List.map_cons, ih (risingKeys_tail hr) h]

/-- The points rise still, and add what they added. -/
structure FrostAlike (s t : State) : Prop where
  rise : risingKeys t.points = true
  terms : t.frostTerms = s.frostTerms

namespace FrostAlike

variable {s t u : State}

theorem refl (h : risingKeys s.points = true) : FrostAlike s s := ⟨h, rfl⟩

theorem trans (h : FrostAlike s t) (h' : FrostAlike t u) : FrostAlike s u := ⟨h'.rise, h'.terms.trans h.terms⟩

theorem setPoint {n : Nat} {p q : Point} (hr : risingKeys s.points = true) (h : s.point? n = some p)
    (hreach : q.reach = p.reach) (hterm : q.frostTerm = p.frostTerm) : FrostAlike s (s.setPoint n q) :=
  ⟨risingKeys_setCell n q hr,
    map_setCell_of_eq (fun p : Point => (p.reach, p.frostTerm)) hr h (congrArg₂ Prod.mk hreach hterm)⟩

theorem changePoint (n : Nat) (f : Point → Point) (hr : risingKeys s.points = true)
    (hreach : ∀ p, (f p).reach = p.reach) (hterm : ∀ p, (f p).frostTerm = p.frostTerm) :
    FrostAlike s (s.changePoint n f) := by
  unfold State.changePoint
  cases h : s.point? n with
  | none => exact refl hr
  | some p => exact setPoint hr h (hreach p) (hterm p)

theorem reevaluate (n : Nat) (hr : risingKeys s.points = true) : FrostAlike s (s.reevaluate n) := by
  unfold State.reevaluate
  split
  · exact refl hr
  · exact changePoint n _ hr (fun _ => rfl) (fun _ => rfl)

theorem setTarget (n flow : Nat) (hr : risingKeys s.points = true) : FrostAlike s (s.setTarget n flow) := by
  unfold State.setTarget
  cases h : s.point? n with
  | none => exact refl hr
  | some p =>
    have hset : FrostAlike s (s.setPoint n { p with target := flow }) := setPoint hr h rfl rfl
    dsimp only
    split_ifs
    · exact refl hr
    · exact hset.trans (reevaluate n hset.rise)
    · exact hset

theorem recheck (n : Nat) (hr : risingKeys s.points = true) : FrostAlike s (s.recheck n) := by
  by_cases h : ∃ p, s.point? n = some p ∧ p.isAutoCheck
  · obtain ⟨p, hp, hc⟩ := h
    have hset : FrostAlike s (s.setPoint n { p with overload := decide (p.rated < s.checkDemand p.reach) }) :=
      setPoint hr hp rfl rfl
    rw [State.recheck_eq hp hc]
    dsimp only
    split_ifs
    · have hreport : FrostAlike s ((s.setPoint n _).report .reachOverload (.number p.reach)) :=
        ⟨hset.rise, hset.terms⟩
      exact hreport.trans (setTarget n _ hreport.rise)
    · exact hset.trans (setTarget n _ hset.rise)
  · rw [State.recheck_idle fun p hp hc => h ⟨p, hp, hc⟩]
    exact refl hr

theorem recheckMany (ns : List Nat) (hr : risingKeys s.points = true) : FrostAlike s (s.recheckMany ns) :=
  foldl_inv (FrostAlike s) _ (fun _ n ht => ht.trans (recheck n ht.rise)) ns s (refl hr)

theorem resend (n : Nat) (hr : risingKeys s.points = true) : FrostAlike s (s.resend n) := by
  have hset := changePoint n (fun p => { p with field.resendOwed := true }) hr (fun _ => rfl) (fun _ => rfl)
  exact hset.trans (reevaluate n hset.rise)

theorem withdraw (n : Nat) (hr : risingKeys s.points = true) : FrostAlike s (s.withdraw n) :=
  changePoint n _ hr (fun _ => rfl) (fun _ => rfl)

theorem frostSum (h : FrostAlike s t) (hc : t.cal.reaches = s.cal.reaches) (r : Nat) :
    t.frostSum r = s.frostSum r := by
  rw [State.frostSum_eq, State.frostSum_eq, h.terms, hc]

end FrostAlike

/-! ### The frost extra loads are recomputed (R101) -/

theorem valueAt_foldl_setValue (g : Nat → Nat) (rs : List Nat) (t : Table Nat) (k : Nat) :
    valueAt 0 (rs.foldl (fun t r => setValue 0 t r (g r)) t) k = if k ∈ rs then g k else valueAt 0 t k := by
  induction rs generalizing t with
  | nil => rfl
  | cons r rs ih =>
    rw [List.foldl_cons, ih, valueAt_setValue]
    by_cases hk : k = r
    · subst hk
      simp
    · simp [hk]

/-- The reaches whose frost extra load is not the one R101 gives. -/
def State.frostStale (rs : List Nat) (s : State) : List Nat :=
  rs.filter (fun r => decide (s.frostSum r ≠ s.extraLoad r))

/-- The frost extra loads of some reaches as R101 gives them. -/
def State.reload (rs : List Nat) (s : State) : State :=
  { s with frostLoad := (s.frostStale rs).foldl (fun t r => setValue 0 t r (s.frostSum r)) s.frostLoad }

theorem State.refreshFrost_eq (rs : List Nat) (s : State) :
    s.refreshFrost rs = (s.reload rs).recheckMany (s.cal.checkPoints (s.frostStale rs)) := by
  have h := State.foldl_recheckReach (fun r : Nat => r) (s.frostStale rs) (s.reload rs)
  rw [List.map_id'] at h
  exact h

theorem State.reload_extraLoad {rs : List Nat} {s : State} {r : Nat} (h : r ∈ rs) :
    (s.reload rs).extraLoad r = s.frostSum r := by
  change valueAt 0 ((s.frostStale rs).foldl _ s.frostLoad) r = _
  rw [valueAt_foldl_setValue]
  split
  · rfl
  · next hn =>
    have heq : s.frostSum r = s.extraLoad r := by simpa [State.frostStale, h] using hn
    exact heq.symm

theorem Retold.refreshFrost (s : State) (rs : List Nat) : Retold s (s.refreshFrost rs) := by
  rw [State.refreshFrost_eq]
  exact Retold.trans (t := s.reload rs) rfl (.recheckMany _ _)

theorem FrostAlike.refreshFrost {s : State} (rs : List Nat) (hr : risingKeys s.points = true) :
    FrostAlike s (s.refreshFrost rs) := by
  rw [State.refreshFrost_eq]
  exact FrostAlike.trans (t := s.reload rs) ⟨hr, rfl⟩ (.recheckMany _ hr)

theorem Retold.reaches {s t : State} (h : Retold s t) : t.cal.reaches = s.cal.reaches := by rw [h]

/-- The frost extra loads of the reaches are then those R101 gives. -/
theorem State.refreshFrost_extraLoad {rs : List Nat} {s : State} {r : Nat} (hr : risingKeys s.points = true)
    (h : r ∈ rs) : (s.refreshFrost rs).extraLoad r = (s.refreshFrost rs).frostSum r := by
  rw [(FrostAlike.refreshFrost rs hr).frostSum (Retold.refreshFrost s rs).reaches, ← State.reload_extraLoad h,
    State.refreshFrost_eq, State.recheckMany_frame]
  rfl

/-- A turnout is left alone. -/
theorem State.refreshFrost_turnout {rs : List Nat} {s : State} {n : Nat} {p : Point} (h : s.point? n = some p)
    (hk : p.kind = .turnout) : (s.refreshFrost rs).point? n = some p := by
  rw [State.refreshFrost_eq]
  refine (State.recheckMany_other fun _ q hq hc => ?_).trans h
  cases h.symm.trans hq
  exact absurd (hk.symm.trans hc.1) (by simp)

/-! ### The due order follows the mode (R65) -/

/-- An order with the state and the reason that a mode gives it while it is due. -/
def Order.under (m : Mode) (o : Order) : Order := { o with state := (dueUnder m).1, suspendReason := (dueUnder m).2 }

theorem Order.under_share (m : Mode) {o : Order} (h : o.due = true) : (o.under m).share = o.share := by
  have hs : o.state = .running ∨ o.state = .suspended := by simpa [Order.due] using h
  unfold Order.share
  rcases hs with hs | hs <;> rw [hs] <;> cases m <;> rfl

theorem Order.under_liveCount (m : Mode) {o : Order} (h : o.due = true) : (o.under m).liveCount = o.liveCount := by
  have hs : o.state = .running ∨ o.state = .suspended := by simpa [Order.due] using h
  unfold Order.liveCount Order.live
  rcases hs with hs | hs <;> rw [hs] <;> cases m <;> rfl

/-- An order that holds and counts what the one it replaces did leaves every account's figures. -/
theorem State.putOrder_account? {s : State} {i : Nat} {o o' : Order} (h : cell? s.obk.orders i = some o)
    (hshare : o'.share = o.share) (hcount : o'.liveCount = o.liveCount) (a : Nat) :
    (s.putOrder i o').account? a = s.account? a := by
  unfold State.putOrder
  simp only [h, Option.map_some, Option.getD_some, hshare, hcount, Nat.add_sub_cancel]
  split
  · rfl
  · next b hb =>
    change cell? (setCell s.accounts o'.account b) a = cell? s.accounts a
    rw [cell?_setCell]
    by_cases ha : a = o'.account
    · rw [if_pos ha, ha]
      exact hb.symm
    · rw [if_neg ha]

theorem State.putOrder_frame (s : State) (i : Nat) (o : Order) :
    s.putOrder i o =
      { s with obk.orders := setCell s.obk.orders i o, accounts := (s.putOrder i o).accounts } := by
  unfold State.putOrder
  dsimp only
  split <;> rfl

section AlignOrder

variable {s : State} {n i : Nat} {m : Mode} {o : Order}

theorem State.alignOrder_none (h : s.obk.dueOrder n = none) : s.alignOrder n m = s := by
  unfold State.alignOrder
  rw [h]

theorem State.alignOrder_same (h : s.obk.dueOrder n = some (i, o))
    (hs : o.state = (dueUnder m).1 ∧ o.suspendReason = (dueUnder m).2) : s.alignOrder n m = s := by
  unfold State.alignOrder
  rw [h]
  exact if_pos hs

theorem State.alignOrder_changed (h : s.obk.dueOrder n = some (i, o))
    (hs : ¬(o.state = (dueUnder m).1 ∧ o.suspendReason = (dueUnder m).2)) :
    s.alignOrder n m = (s.putOrder i (o.under m)).markOrder i := by
  unfold State.alignOrder
  rw [h]
  exact if_neg hs

/-- Only the order's record, its mark and the account records are written. -/
theorem State.alignOrder_frame (s : State) (n : Nat) (m : Mode) :
    s.alignOrder n m = { s with obk := (s.alignOrder n m).obk, accounts := (s.alignOrder n m).accounts } := by
  unfold State.alignOrder
  split
  · rfl
  · dsimp only
    split
    · rfl
    · rw [State.putOrder_frame]
      rfl

theorem State.alignOrder_account? (hr : risingKeys s.obk.orders = true) (a : Nat) :
    (s.alignOrder n m).account? a = s.account? a := by
  unfold State.alignOrder
  split
  · rfl
  · next i o h =>
    obtain ⟨hm, hdue, -⟩ := OrderBook.mem_of_dueOrder h
    dsimp only
    split
    · rfl
    · exact State.putOrder_account? (cell?_of_mem hr hm) (Order.under_share m hdue) (Order.under_liveCount m hdue) a

end AlignOrder

end Sys2Proof.Machine
end

section
/-! CLOCK_SET, the boundary and the change of mode, each as O16 states it. -/

namespace Sys2Proof.Machine

/-! ### The parts of a change of mode -/

/-- A point as its new mode finds it. -/
def Point.inMode (m : Mode) (p : Point) : Point := { p with mode := m, overload := p.overload && decide (m = .auto) }

/-- The mode stands, and the turnout's due order is in line with it (R65). -/
def State.aligned (n : Nat) (p : Point) (m : Mode) (s : State) : State :=
  if p.kind = .turnout then (s.setPoint n (p.inMode m)).alignOrder n m else s.setPoint n (p.inMode m)

/-- Entry into AUTO recomputes the target (R90). -/
def State.retargeted (n : Nat) (m : Mode) (s : State) : State := if m = .auto then s.retarget n else s

/-- The frost extra loads follow a turnout in frost (R101). -/
def State.reloaded (p : Point) (s : State) : State :=
  if p.kind = .turnout ∧ p.backup.isSome then s.refreshPath p.reach else s

/-- Entry into AUTO owes a resend; a point that stops being sendable is withdrawn (R91). -/
def State.resided (n : Nat) (p : Point) (m : Mode) (s : State) : State :=
  if m = .auto then s.resend n else if p.mode = .auto ∧ p.closeOwed = false then s.withdraw n else s

theorem State.changeMode_eq {s : State} {n : Nat} {p : Point} (m : Mode) (h : s.point? n = some p) :
    s.changeMode n m = (((s.aligned n p m).retargeted n m).reloaded p).resided n p m := by
  unfold State.changeMode
  rw [h]
  rfl

section Parts

variable {s : State} {n : Nat} {p q : Point} {m : Mode}

theorem State.aligned_frame (s : State) (n : Nat) (p : Point) (m : Mode) :
    s.aligned n p m = { s with
      points := setCell s.points n (p.inMode m)
      obk := (s.aligned n p m).obk, accounts := (s.aligned n p m).accounts } := by
  unfold State.aligned
  split
  · rw [State.alignOrder_frame]
    rfl
  · rfl

theorem State.aligned_self (s : State) (n : Nat) (p : Point) (m : Mode) :
    (s.aligned n p m).point? n = some (p.inMode m) := by
  rw [State.aligned_frame]
  exact cell?_setCell_self _ _ _

theorem State.aligned_rising (n : Nat) (p : Point) (m : Mode) (h : risingKeys s.points = true) :
    risingKeys (s.aligned n p m).points = true := by
  rw [State.aligned_frame]
  exact risingKeys_setCell n _ h

theorem State.aligned_account? (hr : risingKeys s.obk.orders = true) (a : Nat) :
    (s.aligned n p m).account? a = s.account? a := by
  unfold State.aligned
  split
  · exact State.alignOrder_account? (s := s.setPoint n (p.inMode m)) hr a
  · rfl

theorem Retold.retargeted (s : State) (n : Nat) (m : Mode) : Retold s (s.retargeted n m) :=
  .ite (.retarget s n) (.refl s)

theorem Retold.reloaded (s : State) (p : Point) : Retold s (s.reloaded p) := .ite (.refreshFrost s _) (.refl s)

theorem FrostAlike.retargeted (n : Nat) (m : Mode) (hr : risingKeys s.points = true) :
    FrostAlike s (s.retargeted n m) := by
  unfold State.retargeted State.retarget
  split
  · split
    · exact .refl hr
    · split
      · exact .setTarget n _ hr
      · exact .recheck n hr
  · exact .refl hr

theorem FrostAlike.resided (n : Nat) (p : Point) (m : Mode) (hr : risingKeys s.points = true) :
    FrostAlike s (s.resided n p m) := by
  unfold State.resided
  split_ifs
  · exact .resend n hr
  · exact .withdraw n hr
  · exact .refl hr

theorem State.resided_frame (s : State) (n : Nat) (p : Point) (m : Mode) :
    s.resided n p m = { s with points := (s.resided n p m).points } := by
  unfold State.resided State.resend
  split_ifs
  · rw [State.reevaluate_frame, State.changePoint_frame]
  · exact s.changePoint_frame n _
  · rfl

theorem State.retarget_turnout (h : s.point? n = some q) (hk : q.kind = .turnout) :
    s.retarget n = s.setTarget n q.turnoutTarget := by
  unfold State.retarget
  simp only [h, hk]

theorem State.retarget_check (h : s.point? n = some q) (hk : q.kind = .check) : s.retarget n = s.recheck n := by
  unfold State.retarget
  simp only [h, hk]

/-- A turnout's target in AUTO is that of R92, a check point's that of R93. -/
theorem State.retarget_self (h : s.point? n = some q) (hm : q.mode = .auto) :
    ∃ v c g, (s.retarget n).point? n = some { q with target := v, overload := c, field := g } ∧
      (q.kind = .turnout → v = q.turnoutTarget) ∧
      (q.kind = .check → v = min (s.checkDemand q.reach) q.rated) := by
  have hkind : q.kind = .turnout ∨ q.kind = .check := by cases q.kind <;> simp
  rcases hkind with hk | hk
  · obtain ⟨g, hg⟩ := State.setTarget_self q.turnoutTarget h
    rw [State.retarget_turnout h hk]
    exact ⟨_, q.overload, g, hg, fun _ => rfl, fun hc => (nomatch hk.symm.trans hc)⟩
  · obtain ⟨g, hg⟩ := State.recheck_self h ⟨hk, hm⟩
    rw [State.retarget_check h hk]
    exact ⟨_, _, g, hg, fun ht => (nomatch hk.symm.trans ht), fun _ => rfl⟩

theorem State.reloaded_self (h : s.point? n = some q) (hk : q.kind = p.kind) : (s.reloaded p).point? n = some q := by
  unfold State.reloaded
  split
  · next ht => exact State.refreshFrost_turnout h (hk.trans ht.1)
  · exact h

theorem State.resend_self (h : s.point? n = some q) :
    (s.resend n).point? n =
      some (Point.pendingAgain (s.line.settingPoint n) { q with field.resendOwed := true }) := by
  unfold State.resend
  rw [State.reevaluate_point?, if_pos rfl, State.changePoint_point?, if_pos rfl, h, State.changePoint_frame]
  rfl

theorem State.withdraw_self (h : s.point? n = some q) :
    (s.withdraw n).point? n = some { q with field.sendPending := false, field.resendOwed := false } := by
  unfold State.withdraw
  rw [State.changePoint_point?, if_pos rfl, h]
  rfl

/-- A point in AUTO that owes a resend has send pending, unless a SET for it is in flight (R113). -/
theorem Point.sendPending_of_resend (hm : q.mode = .auto) :
    (Point.pendingAgain false { q with field.resendOwed := true }).field.sendPending = true := by
  simp [Point.pendingAgain, Point.wantsSet, Point.sendable, hm]

end Parts

/-! ### A change of mode -/

section ChangeMode

variable {s : State} {n : Nat} {p : Point}

theorem State.changeMode_retold (m : Mode) (h : s.point? n = some p) :
    Retold (s.aligned n p m) (s.changeMode n m) := by
  rw [State.changeMode_eq m h]
  exact ((Retold.retargeted _ n m).trans (.reloaded _ p)).trans (.points_only (State.resided_frame _ n p m))

theorem State.changeMode_frame (m : Mode) (h : s.point? n = some p) :
    s.changeMode n m = { s with
      points := (s.changeMode n m).points, obk := (s.changeMode n m).obk
      accounts := (s.changeMode n m).accounts, frostLoad := (s.changeMode n m).frostLoad
      mail.reports := (s.changeMode n m).mail.reports } := by
  have hr := State.changeMode_retold m h
  unfold Retold at hr
  rw [hr, State.aligned_frame]

theorem State.changeMode_obk (m : Mode) (h : s.point? n = some p) :
    (s.changeMode n m).obk = (s.aligned n p m).obk := by
  rw [State.changeMode_retold m h]

theorem State.changeMode_account? (m : Mode) (h : s.point? n = some p)
    (hr : risingKeys s.obk.orders = true) (a : Nat) : (s.changeMode n m).account? a = s.account? a := by
  rw [State.changeMode_retold m h]
  exact State.aligned_account? hr a

/-- On entry into AUTO. -/
theorem State.changeMode_enters (h : s.point? n = some p) :
    ∃ (v : Nat) (c : Bool) (g : FieldSide), (s.changeMode n .auto).point? n =
        some (Point.pendingAgain (s.line.settingPoint n)
          { p with mode := .auto, target := v, overload := c, field := { g with resendOwed := true } }) ∧
      (p.kind = .turnout → v = p.turnoutTarget) ∧
      (p.kind = .check → v = min (s.checkDemand p.reach) p.rated) := by
  obtain ⟨v, c, g, hq, hturnout, hcheck⟩ := State.retarget_self (s.aligned_self n p .auto) rfl
  refine ⟨v, c, g, ?_, hturnout, fun hk => (hcheck hk).trans ?_⟩
  · rw [State.changeMode_eq .auto h]
    have hline : (((s.aligned n p .auto).retargeted n .auto).reloaded p).line = s.line := by
      rw [(Retold.retargeted _ n .auto).trans (.reloaded _ p), State.aligned_frame]
    refine (State.resend_self (State.reloaded_self (p := p) hq rfl)).trans ?_
    rw [← hline]
    rfl
  · rw [State.aligned_frame]
    rfl

/-- On a change into another mode. -/
theorem State.changeMode_leaves {m : Mode} (h : s.point? n = some p) (hm : m ≠ .auto) :
    (s.changeMode n m).point? n = some { p with
      mode := m, overload := false
      field := if p.mode = .auto ∧ p.closeOwed = false then
        { p.field with sendPending := false, resendOwed := false } else p.field } := by
  have hq : (s.aligned n p m).point? n = some { p with mode := m, overload := false } := by
    rw [State.aligned_self, Point.inMode]
    simp [hm]
  have hkept := State.reloaded_self (p := p) hq rfl
  rw [State.changeMode_eq m h, State.retargeted, if_neg hm, State.resided, if_neg hm]
  split
  · exact State.withdraw_self hkept
  · exact hkept

/-- A turnout in frost takes the frost extra loads of its path along. -/
theorem State.changeMode_frost (m : Mode) (h : s.point? n = some p) (hr : risingKeys s.points = true)
    (hk : p.kind = .turnout) (hb : p.backup.isSome = true) {r : Nat} (hmem : r ∈ pathOf s.cal.reaches p.reach) :
    (s.changeMode n m).extraLoad r = (s.changeMode n m).frostSum r := by
  have htarget : FrostAlike (s.aligned n p m) ((s.aligned n p m).retargeted n m) :=
    .retargeted n m (State.aligned_rising n p m hr)
  have hload : ((s.aligned n p m).retargeted n m).reloaded p =
      ((s.aligned n p m).retargeted n m).refreshFrost (pathOf s.cal.reaches p.reach) := by
    rw [State.reloaded, if_pos ⟨hk, hb⟩, State.refreshPath, Retold.reaches (.retargeted _ n m), State.aligned_frame]
  have hside := FrostAlike.resided n p m (FrostAlike.refreshFrost (pathOf s.cal.reaches p.reach) htarget.rise).rise
  rw [State.changeMode_eq m h, hload, hside.frostSum (by rw [State.resided_frame]),
    ← State.refreshFrost_extraLoad htarget.rise hmem, State.resided_frame]
  rfl

end ChangeMode

end Sys2Proof.Machine
end

section
/-! O16, part by part. -/

namespace Sys2Proof.Machine

section

variable {s : State} {n : Nat} {p : Point}

/-! ### CLOCK_SET -/

theorem clockSet_completes {m : Nat} {t : State} {a : Reply} (hh : s.handed (.clockSet m) = true)
    (he : reqClockSet m s = (t, a)) : Completes (.clockSet m) s t a := by
  have hf := reqClockSet_fixed s m
  rw [he] at hf
  obtain ⟨-, -, hport, -⟩ := State.fixed_fields hf
  exact completes_of_handed rfl hh he (congrArg Port.command hport)

theorem OrderBook.anyLive_false {b : OrderBook} (h : ∀ e ∈ b.orders, e.2.live = false) : b.anyLive = false := by
  rw [Bool.eq_false_iff, ne_eq, OrderBook.anyLive_iff]
  rintro ⟨e, he, hl⟩
  exact absurd (hl.symm.trans (h e he)) (by simp)

/-- The records that CLOCK_SET writes. -/
theorem State.setClock_frame (m : Nat) (s : State) :
    s.setClock m = { s.reclocked m with
      points := (s.setClock m).points, line := (s.setClock m).line, mail.reports := (s.setClock m).mail.reports } :=
  (s.reclocked m).retold_frame

theorem State.setClock_silentSince (m : Nat) (s : State) (a : Nat) :
    ((s.setClock m).station a).silentSince =
      if (s.station a).state = .silent then some (m / 15) else (s.station a).silentSince := by
  rw [State.setClock_eq, State.retold_silentSince, State.reclocked_station, Station.rebased_silentSince]

theorem State.setClock_target (m : Nat) (hr : risingKeys s.points = true) (h : s.point? n = some p)
    (hc : p.isAutoCheck) :
    ∃ q, (s.setClock m).point? n = some q ∧ q.target = min (s.extraLoad p.reach) p.rated := by
  obtain ⟨g, hg⟩ := State.retold_check (s := s.reclocked m) hr h hc
  rw [State.reclocked_checkDemand] at hg
  exact ⟨_, hg, rfl⟩

/-! ### RELEASE_CONTROL_BOUNDARY -/

theorem State.retold_target (hr : risingKeys s.points = true) (h : s.point? n = some p) (hc : p.isAutoCheck) :
    ∃ q, s.retold.point? n = some q ∧ q.target = min (s.checkDemand p.reach) p.rated ∧
      q.overload = decide (p.rated < s.checkDemand p.reach) := by
  obtain ⟨g, hg⟩ := State.retold_check hr h hc
  exact ⟨_, hg, rfl, rfl⟩

/-! ### A change of mode -/

theorem State.aligned_check {m : Mode} (h : p.kind = .check ∨ s.obk.dueOrder n = none) :
    (s.aligned n p m).obk = s.obk := by
  unfold State.aligned
  split
  · next hk =>
    have hnone : s.obk.dueOrder n = none := h.resolve_left fun hc => nomatch hk.symm.trans hc
    rw [State.alignOrder_none (s := s.setPoint n _) hnone]
    rfl
  · rfl

theorem State.aligned_same {m : Mode} {i : Nat} {o : Order} (hd : s.obk.dueOrder n = some (i, o))
    (hs : o.state = (dueUnder m).1 ∧ o.suspendReason = (dueUnder m).2) : (s.aligned n p m).obk = s.obk := by
  unfold State.aligned
  split
  · rw [State.alignOrder_same (s := s.setPoint n _) hd hs]
    rfl
  · rfl

theorem State.aligned_changed {m : Mode} {i : Nat} {o : Order} (hk : p.kind = .turnout)
    (hd : s.obk.dueOrder n = some (i, o)) (hs : ¬(o.state = (dueUnder m).1 ∧ o.suspendReason = (dueUnder m).2)) :
    (s.aligned n p m).obk =
      { s.obk with orders := setCell s.obk.orders i (o.under m), marks := addTo s.obk.marks i } := by
  unfold State.aligned
  rw [if_pos hk, State.alignOrder_changed (s := s.setPoint n _) hd hs, State.putOrder_frame]
  rfl

end

/-- Settles O16: CLOCK_SET and the boundary recompute every check point and then let the line begin something,
which leaves targets alone; a change of mode is its due order, its target, its path's frost extra loads and its
field side, in this order, each with its own frame. -/
theorem clockBoundaryAndModeSetTheTargets : Obligations.ClockBoundaryAndModeSetTheTargets := by
  refine ⟨fun s m hh hr => ⟨fun hw => ?sweeping, fun hw hl => ?inUse, fun hw hl => ?taken⟩,
    fun s n p h => ⟨fun hidle => ?idle, fun hk hm => ?recheck⟩,
    fun s hr => ⟨fun hnone => ?empty, fun u rest hmail => ?presented⟩,
    fun s n p m h hr ho => ⟨?point, fun hk i o hd => ⟨?same, ?changed⟩, ?check, ?frost, ?frame, ?accounts⟩⟩
  case sweeping => exact refuses_of_handed rfl hh (reqClockSet_sweeping m hw)
  case inUse => exact refuses_of_handed rfl hh (reqClockSet_inUse m hw ((OrderBook.anyLive_iff _).2 hl))
  case taken =>
    have hf := s.setClock_frame m
    refine ⟨s.setClock m, clockSet_completes hh (reqClockSet_taken m hw (OrderBook.anyLive_false hl)),
      ?_, ?_, fun u => ?_, ?_, fun x => ?_, s.setClock_silentSince m, fun n p h hk hm => ?_⟩
    · rw [hf]; rfl
    · rw [hf]; rfl
    · rw [hf]; exact s.cal.rebuild_supplyIn m u
    · rw [hf]; rfl
    · rw [hf]; exact cell?_map (Template.rebased (m / 15)) s.obk.templates x
    · exact State.setClock_target m hr h ⟨hk, hm⟩
  case idle =>
    refine State.recheck_idle fun q hq hc => ?_
    cases h.symm.trans hq
    exact hidle.elim (absurd hc.1) (absurd hc.2)
  case recheck => exact State.recheck_eq h ⟨hk, hm⟩
  case empty => exact execReleaseControlBoundary_empty hnone
  case presented =>
    refine ⟨_, execReleaseControlBoundary_presented hmail, ?_, fun n p h hk hm => ?_⟩
    · rw [State.retold_frame]
    · exact State.retold_target (s := { s with mail.release := rest }) hr h ⟨hk, hm⟩
  case point =>
    by_cases hm : m = .auto
    · subst hm
      obtain ⟨v, c, g, hq, hturnout, hcheck⟩ := State.changeMode_enters h
      refine ⟨_, hq, rfl, rfl, rfl, rfl, absurd rfl, fun _ => hturnout, fun _ => hcheck,
        fun _ => ⟨rfl, fun hset => ?_⟩, absurd rfl, absurd rfl⟩
      rw [hset]
      exact Point.sendPending_of_resend (q := { p with mode := .auto, target := v, overload := c, field := g }) rfl
    · refine ⟨_, State.changeMode_leaves h hm, rfl, rfl, rfl, rfl, fun _ => ⟨rfl, rfl⟩, fun ha => absurd ha hm,
        fun ha => absurd ha hm, fun ha => absurd ha hm, fun _ ha hc => ?_, fun _ hkept => ?_⟩
      · rw [if_pos ⟨ha, hc⟩]
        exact ⟨rfl, rfl⟩
      · exact if_neg fun hw => hkept.elim (absurd hw.1) fun hc => Bool.noConfusion (hc.symm.trans hw.2)
  case same =>
    intro hs
    rw [State.changeMode_obk m h]
    exact State.aligned_same hd hs
  case changed =>
    intro hs
    obtain ⟨hmem, -, -⟩ := OrderBook.mem_of_dueOrder hd
    rw [State.changeMode_obk m h, State.aligned_changed hk hd hs]
    exact ⟨rfl, fun j => cell?_setCell s.obk.orders i j (o.under m)⟩
  case check =>
    intro hc
    rw [State.changeMode_obk m h, State.aligned_check hc]
  case frost => exact fun hk hb r hmem => State.changeMode_frost m h hr hk hb hmem
  case frame => exact State.changeMode_frame m h
  case accounts => exact State.changeMode_account? m h ho

end Sys2Proof.Machine
end

section
/-! The books as an invariant: what an account has reserved and its live orders are sums over the order table (R42,
R68), and how the sums follow an order that is written or removed. -/

namespace Sys2Proof.Machine

/-! ### Sums over the entries of a table after a write -/

theorem sum_setCell {α : Type} (f : α → Nat) {t : Table α} (i : Nat) (v : α) (h : risingKeys t = true) :
    ((setCell t i v).map (fun e => f e.2)).sum + cellSum f t i = (t.map (fun e => f e.2)).sum + f v := by
  induction t with
  | nil => simp [setCell, cellSum]
  | cons e t ih =>
    obtain ⟨j, w⟩ := e
    have hrise := List.pairwise_cons.1 ((risingKeys_iff _).1 h)
    by_cases hlt : i < j
    · have hout : cell? ((j, w) :: t) i = none := by
        cases hc : cell? ((j, w) :: t) i with
        | none => rfl
        | some x =>
          rcases List.mem_cons.1 (mem_of_cell? hc) with he | hm
          · cases he
            omega
          · have := hrise.1 _ hm
            simp only at this
            omega
      simp [setCell, hlt, cellSum_of_none hout]
      omega
    · by_cases he : i = j
      · subst he
        have hself : cellSum f ((i, w) :: t) i = f w := cellSum_of_cell? (by simp [cell?_cons])
        simp [setCell, hself]
        omega
      · have hskip : cellSum f ((j, w) :: t) i = cellSum f t i := by simp [cellSum, cell?_cons, Ne.symm he]
        have := ih (risingKeys_tail h)
        simp only [setCell, hlt, he, if_false, List.map_cons, List.sum_cons, hskip]
        omega

theorem sum_delCell {α : Type} (f : α → Nat) {t : Table α} (i : Nat) (h : risingKeys t = true) :
    ((delCell t i).map (fun e => f e.2)).sum + cellSum f t i = (t.map (fun e => f e.2)).sum := by
  induction t with
  | nil => simp [delCell, cellSum]
  | cons e t ih =>
    obtain ⟨j, w⟩ := e
    have htail := ih (risingKeys_tail h)
    unfold delCell at htail ⊢
    by_cases he : j = i
    · subst he
      rw [cellSum_of_none (cell?_tail_of_rising h)] at htail
      have hself : cellSum f ((j, w) :: t) j = f w := cellSum_of_cell? (by simp [cell?_cons])
      simp [hself]
      omega
    · have hskip : cellSum f ((j, w) :: t) i = cellSum f t i := by simp [cellSum, cell?_cons, he]
      simp [he, hskip]
      omega

/-! ### The account of an order that is written (R42, R68) -/

/-- An account as its order in entry i, written, leaves it. -/
def State.entered (i : Nat) (o : Order) (s : State) (a : Account) : Account :=
  { a with
    reserved := a.reserved + o.share - cellSum Order.share s.obk.orders i
    live := a.live + o.liveCount - cellSum Order.liveCount s.obk.orders i }

theorem State.putOrder_eq {s : State} {i : Nat} {o : Order} {a : Account} (h : s.account? o.account = some a) :
    s.putOrder i o =
      ({ s with obk.orders := setCell s.obk.orders i o } : State).setAccount o.account (s.entered i o a) := by
  unfold State.putOrder
  simp only [State.account?] at h
  simp only [State.account?, h]
  rfl

theorem State.putOrder_vacant {s : State} {i : Nat} {o : Order} (h : s.account? o.account = none) :
    s.putOrder i o = { s with obk.orders := setCell s.obk.orders i o } := by
  unfold State.putOrder
  simp only [State.account?] at h
  simp only [State.account?, h]

/-- The order's account alone follows it. -/
theorem State.putOrder_account?_eq (s : State) (i : Nat) (o : Order) (m : Nat) :
    (s.putOrder i o).account? m = if m = o.account then (s.account? m).map (s.entered i o) else s.account? m := by
  cases ha : s.account? o.account with
  | none =>
    rw [State.putOrder_vacant ha]
    split
    · next hm =>
      subst hm
      rw [ha]
      exact ha
    · rfl
  | some a =>
    rw [State.putOrder_eq ha]
    refine (cell?_setCell _ _ _ _).trans ?_
    split
    · next hm =>
      subst hm
      rw [ha]
      rfl
    · rfl

theorem State.putOrder_accountsRise {s : State} (i : Nat) (o : Order) (h : risingKeys s.accounts = true) :
    risingKeys (s.putOrder i o).accounts = true := by
  cases ha : s.account? o.account with
  | none =>
    rw [State.putOrder_vacant ha]
    exact h
  | some a =>
    rw [State.putOrder_eq ha]
    exact risingKeys_setCell _ _ h

/-! ### The invariant -/

/-- What an order adds to a figure of account n. -/
def Order.addsTo (n : Nat) (f : Order → Nat) (o : Order) : Nat := if o.account = n then f o else 0

/-- A figure of account n: the sum over its orders. -/
def figure (n : Nat) (f : Order → Nat) (t : Table Order) : Nat := (t.map (fun e => e.2.addsTo n f)).sum

theorem figure_ordersOf (s : State) (n : Nat) (f : Order → Nat) :
    ((s.ordersOf n).map f).sum = figure n f s.obk.orders := by
  unfold State.ordersOf figure
  induction s.obk.orders with
  | nil => rfl
  | cons e l ih => by_cases he : e.2.account = n <;> simp_all [Order.addsTo]

/-- Orders of other accounts add nothing to a figure of account n. -/
theorem figure_of_none {t : Table Order} {n : Nat} (f : Order → Nat) (h : ∀ e ∈ t, e.2.account ≠ n) :
    figure n f t = 0 := by
  refine List.sum_eq_zero fun x hx => ?_
  obtain ⟨e, he, rfl⟩ := List.mem_map.1 hx
  exact if_neg (h e he)

/-- The two figures of an account that follow its orders (R42, R68). -/
def Account.figures (a : Account) : Nat × Nat := (a.reserved, a.live)

/-- The books, read at table indexes and account numbers. -/
structure Booked (s : State) : Prop where
  ordersRise : risingKeys s.obk.orders = true
  accountsRise : risingKeys s.accounts = true
  owned : ∀ i o, cell? s.obk.orders i = some o → (s.account? o.account).isSome = true
  figures : ∀ n a, s.account? n = some a →
    a.figures = (figure n Order.share s.obk.orders, figure n Order.liveCount s.obk.orders)

theorem booked_iff (s : State) : s.booked ↔ Booked s := by
  constructor
  · rintro ⟨ho, ha, hown, hfig⟩
    refine ⟨ho, ha, fun i o hc => hown _ (mem_of_cell? hc), fun n a hn => ?_⟩
    obtain ⟨hr, hl⟩ := hfig n a hn
    rw [figure_ordersOf] at hr hl
    exact Prod.ext hr hl
  · rintro ⟨ho, ha, hown, hfig⟩
    refine ⟨ho, ha, fun e he => hown e.1 e.2 (cell?_of_mem ho he), fun n a hn => ?_⟩
    rw [figure_ordersOf, figure_ordersOf]
    exact Prod.mk.inj (hfig n a hn)

/-! ### What the books read -/

/-- The order table and the accounts. -/
def State.books (s : State) : Table Order × Table Account := (s.obk.orders, s.accounts)

namespace Booked

variable {s t : State} {i n : Nat} {o o' : Order} {a : Account}

theorem of_books (h : Booked s) (hb : t.books = s.books) : Booked t := by
  obtain ⟨ho, ha⟩ := Prod.mk.inj hb
  obtain ⟨hor, har, hown, hfig⟩ := h
  refine ⟨?_, ?_, ?_, ?_⟩ <;> simp only [State.account?, ho, ha]
  · exact hor
  · exact har
  · exact hown
  · exact hfig

/-! ### An account is written -/

/-- The account's record is written with the figures that its orders give. -/
theorem setAccount (h : Booked s)
    (hf : a.figures = (figure n Order.share s.obk.orders, figure n Order.liveCount s.obk.orders)) :
    Booked (s.setAccount n a) := by
  have hread : ∀ m, (s.setAccount n a).account? m = if m = n then some a else s.account? m :=
    fun m => cell?_setCell _ _ _ _
  refine ⟨h.ordersRise, risingKeys_setCell n a h.accountsRise, fun i o ho => ?_, fun m b hm => ?_⟩
  · rw [hread]
    split
    · rfl
    · exact h.owned i o ho
  · rw [hread] at hm
    split_ifs at hm with hmn
    · cases hm
      exact hmn ▸ hf
    · exact h.figures m b hm

theorem rewriteAccount {b : Account} (h : Booked s) (ha : s.account? n = some a) (hf : b.figures = a.figures) :
    Booked (s.setAccount n b) :=
  h.setAccount (hf.trans (h.figures n a ha))

theorem revise (a : Account) {f : Account → Account} (hf : (f a).figures = a.figures) :
    (a.revise f).figures = a.figures := hf

theorem reviseAccount {f : Account → Account} (h : Booked s) (hf : ∀ a, (f a).figures = a.figures) :
    Booked (s.reviseAccount n f) := by
  unfold State.reviseAccount
  split
  · exact h
  · next a ha => exact h.rewriteAccount ha (revise a (hf a))

/-- No order belongs to an account that is VACANT. -/
theorem figure_vacant (h : Booked s) (hn : s.account? n = none) (f : Order → Nat) :
    figure n f s.obk.orders = 0 := by
  refine figure_of_none f fun e he => ?_
  rintro rfl
  have := h.owned e.1 e.2 (cell?_of_mem h.ordersRise he)
  rw [hn] at this
  cases this

/-- Every account changes, none in its figures. -/
theorem mapAccounts (h : Booked s) (f : Account → Account) (hf : ∀ a, (f a).figures = a.figures) :
    Booked { s with accounts := s.accounts.map (fun e => (e.1, f e.2)) } := by
  have hread : ∀ m, cell? (s.accounts.map fun e => (e.1, f e.2)) m = (s.account? m).map f :=
    fun m => cell?_map f s.accounts m
  refine ⟨h.ordersRise, risingKeys_map (fun e => f e.2) h.accountsRise, fun i o ho => ?_, fun m b hm => ?_⟩
  · rw [State.account?, hread, Option.isSome_map]
    exact h.owned i o ho
  · rw [State.account?, hread, Option.map_eq_some_iff] at hm
    obtain ⟨a, ha, rfl⟩ := hm
    exact (hf a).trans (h.figures m a ha)

/-! ### An order is written or removed -/

/-- The figure of an account after the order of one entry is written. -/
theorem figure_setCell (h : Booked s) (f : Order → Nat) :
    figure n f (setCell s.obk.orders i o) + cellSum (Order.addsTo n f) s.obk.orders i =
      figure n f s.obk.orders + o.addsTo n f :=
  sum_setCell (Order.addsTo n f) i o h.ordersRise

/-- What an entry added to a figure of its account, when the account stays the same. -/
theorem cellSum_addsTo (f : Order → Nat) (hold : ∀ x, cell? s.obk.orders i = some x → x.account = n) :
    cellSum (Order.addsTo n f) s.obk.orders i = cellSum f s.obk.orders i := by
  cases hc : cell? s.obk.orders i with
  | none => rw [cellSum_of_none hc, cellSum_of_none hc]
  | some x => rw [cellSum_of_cell? hc, cellSum_of_cell? hc, Order.addsTo, if_pos (hold x hc)]

/-- What an entry added to a figure of an account that is not its order's: nothing. -/
theorem cellSum_addsTo_other {m : Nat} (f : Order → Nat) (hm : m ≠ n)
    (hold : ∀ x, cell? s.obk.orders i = some x → x.account = n) :
    cellSum (Order.addsTo m f) s.obk.orders i = 0 := by
  cases hc : cell? s.obk.orders i with
  | none => exact cellSum_of_none hc
  | some x => exact (cellSum_of_cell? hc).trans (if_neg fun he => hm (he.symm.trans (hold x hc)))

/-- An order written into an entry that was free or held an order of the same account. -/
theorem putOrder (h : Booked s) (hown : (s.account? o.account).isSome = true)
    (hold : ∀ x, cell? s.obk.orders i = some x → x.account = o.account) : Booked (s.putOrder i o) := by
  refine ⟨?_, State.putOrder_accountsRise i o h.accountsRise, fun k x hk => ?_, fun m b hm => ?_⟩
  · rw [State.putOrder_orders]
    exact risingKeys_setCell i o h.ordersRise
  · have hkept : (s.account? x.account).isSome = true := by
      rw [State.putOrder_orders, cell?_setCell] at hk
      split_ifs at hk
      · exact Option.some.inj hk ▸ hown
      · exact h.owned k x hk
    rw [State.putOrder_account?_eq]
    split
    · rwa [Option.isSome_map]
    · exact hkept
  · rw [State.putOrder_account?_eq] at hm
    rw [State.putOrder_orders]
    have hsum := fun f => h.figure_setCell (n := m) (i := i) (o := o) f
    split_ifs at hm with hmo
    · obtain ⟨a, ha, rfl⟩ := Option.map_eq_some_iff.1 hm
      obtain ⟨hr, hl⟩ := Prod.mk.inj (h.figures m a ha)
      have hadds : ∀ f : Order → Nat, o.addsTo m f = f o := fun f => if_pos hmo.symm
      have hshare := hsum Order.share
      have hcount := hsum Order.liveCount
      rw [cellSum_addsTo _ (hmo ▸ hold), hadds] at hshare hcount
      refine Prod.ext ?_ ?_
      · dsimp only [Account.figures, State.entered]
        omega
      · dsimp only [Account.figures, State.entered]
        omega
    · have hrest : ∀ f : Order → Nat, figure m f (setCell s.obk.orders i o) = figure m f s.obk.orders := by
        intro f
        have hnew : o.addsTo m f = 0 := if_neg (Ne.symm hmo)
        have := hsum f
        rw [cellSum_addsTo_other f hmo hold] at this
        omega
      rw [hrest, hrest]
      exact h.figures m b hm

/-- An order that takes the place of one of the same account. -/
theorem rewriteOrder (h : Booked s) (ho : cell? s.obk.orders i = some o) (ha : o'.account = o.account) :
    Booked (s.putOrder i o') := by
  refine h.putOrder (ha ▸ h.owned i o ho) fun x hx => ?_
  cases ho.symm.trans hx
  exact ha.symm

/-- An order that is not live has no share and is not counted. -/
theorem finished_figures (h : o.live = false) : o.share = 0 ∧ o.liveCount = 0 := by
  refine ⟨?_, if_neg (by simp [h])⟩
  unfold Order.live at h
  unfold Order.share
  split at h <;> simp_all

/-- An entry whose order is not live is freed. -/
theorem retireEntry (h : Booked s) (hn : ∀ o, cell? s.obk.orders i = some o → o.live = false) :
    Booked (s.retireEntry i) := by
  have hread : ∀ k, cell? (s.retireEntry i).obk.orders k = if k = i then none else cell? s.obk.orders k :=
    fun k => cell?_delCell _ _ _
  have hsum : ∀ n (f : Order → Nat), (∀ o, o.live = false → f o = 0) →
      figure n f (s.retireEntry i).obk.orders = figure n f s.obk.orders := by
    intro n f hf
    have hzero : cellSum (Order.addsTo n f) s.obk.orders i = 0 := by
      cases hc : cell? s.obk.orders i with
      | none => exact cellSum_of_none hc
      | some o =>
        rw [cellSum_of_cell? hc, Order.addsTo, hf o (hn o hc)]
        exact ite_self 0
    have hdel : figure n f (s.retireEntry i).obk.orders + cellSum (Order.addsTo n f) s.obk.orders i =
        figure n f s.obk.orders := sum_delCell (Order.addsTo n f) i h.ordersRise
    omega
  refine ⟨risingKeys_delCell i h.ordersRise, h.accountsRise, fun k o hk => ?_, fun n a ha => ?_⟩
  · rw [hread] at hk
    split_ifs at hk
    exact h.owned k o hk
  · rw [hsum n _ fun o ho => (finished_figures ho).1, hsum n _ fun o ho => (finished_figures ho).2]
    exact h.figures n a ha

end Booked
end Sys2Proof.Machine
end

section
/-! What the field line, Release Control, the points and the reaches leave of the books: the order table and the
accounts, or each account's figures (R42, R68). -/

namespace Sys2Proof.Machine

/-! ### Operations that write neither orders nor accounts -/

@[simp] theorem State.books_mk (s : State) (power : Power) (line' : Bool) (port : Port) (cal : Calendar)
    (settings : Settings) (gens : Table Nat) (marks waiting : List Nat) (owed : Bool) (sequence slot : Nat)
    (templates : Table Template) (search : Option Search) (points : Table Point) (load : Table Nat) (line : Line)
    (tariffs : Table Tariff) (sweep : SweepEngine) (faults : Faults) (mail : Mail) (pending : List Instr) :
    (State.mk power line' port cal settings
      (OrderBook.mk s.obk.orders gens marks waiting owed sequence slot templates search) points load line s.accounts
      tariffs sweep faults mail pending).books = s.books := rfl

@[simp] theorem State.books_mk_book (s : State) (power : Power) (line' : Bool) (port : Port) (cal : Calendar)
    (settings : Settings) (points : Table Point) (load : Table Nat) (line : Line)
    (tariffs : Table Tariff) (sweep : SweepEngine) (faults : Faults) (mail : Mail) (pending : List Instr) :
    (State.mk power line' port cal settings s.obk points load line s.accounts tariffs sweep faults mail pending).books =
      s.books := rfl

theorem Retold.books {s t : State} (h : Retold s t) : t.books = s.books := by
  rw [h]
  rfl

section

variable (s : State) (n : Nat)

@[simp] theorem State.setPoint_books (p : Point) : (s.setPoint n p).books = s.books := rfl
@[simp] theorem State.setStation_books (v : Station) : (s.setStation n v).books = s.books := rfl
@[simp] theorem State.report_books (k : ErrorKind) (r : ErrorRef) : (s.report k r).books = s.books := rfl
@[simp] theorem State.notify_books (o : Option Scheduled) : (s.notify n o).books = s.books := rfl
@[simp] theorem State.markOrder_books : (s.markOrder n).books = s.books := rfl
@[simp] theorem State.joinWaiting_books : (s.joinWaiting n).books = s.books := rfl
@[simp] theorem State.leaveWaiting_books : (s.leaveWaiting n).books = s.books := rfl
@[simp] theorem State.owe_books : s.owe.books = s.books := rfl
@[simp] theorem State.lineIdle_books : s.lineIdle.books = s.books := rfl
@[simp] theorem State.setMode_books (m : FieldMode) : (s.setMode m).books = s.books := rfl
@[simp] theorem State.tally_books (f : Counts → Counts) : (s.tally f).books = s.books := rfl
@[simp] theorem State.moveCursor_books : (s.moveCursor n).books = s.books := rfl
@[simp] theorem State.startSweep_books (w : Sweep) : (s.startSweep w).books = s.books := rfl
@[simp] theorem State.closeSweep_books (x : SweepState) : (s.closeSweep x).books = s.books := rfl

@[simp] theorem State.changePoint_books (f : Point → Point) : (s.changePoint n f).books = s.books :=
  (Retold.changePoint s n f).books

@[simp] theorem State.reevaluate_books : (s.reevaluate n).books = s.books := by
  rw [State.reevaluate_frame]
  rfl

@[simp] theorem State.resend_books : (s.resend n).books = s.books := (Retold.resend s n).books
@[simp] theorem State.withdraw_books : (s.withdraw n).books = s.books := (Retold.withdraw s n).books
@[simp] theorem State.setTarget_books (flow : Nat) : (s.setTarget n flow).books = s.books :=
  (Retold.setTarget s n flow).books
@[simp] theorem State.recheck_books : (s.recheck n).books = s.books := (Retold.recheckMany [n] s).books
@[simp] theorem State.retarget_books : (s.retarget n).books = s.books := (Retold.retarget s n).books
@[simp] theorem State.refreshFrost_books (rs : List Nat) : (s.refreshFrost rs).books = s.books :=
  (Retold.refreshFrost s rs).books
@[simp] theorem State.refreshPath_books : (s.refreshPath n).books = s.books := (Retold.refreshFrost s _).books

@[simp] theorem State.withRing_books (c : Calendar) : (s.withRing c).books = s.books := by
  rw [State.withRing_frame]
  rfl

@[simp] theorem State.arbitrate_books : s.arbitrate.books = s.books := by
  rw [State.arbitrate_frame]
  rfl

theorem foldl_books {β : Type} {f : State → β → State} (h : ∀ s x, (f s x).books = s.books) (l : List β) :
    (l.foldl f s).books = s.books :=
  foldl_keeps State.books f h l s

@[simp] theorem State.recheckAll_books : s.recheckAll.books = s.books := (Retold.recheckMany _ s).books

/-! #### Points (chapters 1 and 5) -/

@[simp] theorem State.clearCloseOwed_books : (s.clearCloseOwed n).books = s.books := by
  unfold State.clearCloseOwed
  split
  · rfl
  · split
    · dsimp only
      split <;> simp
    · rfl

@[simp] theorem State.removePoint_books (p : Point) : (s.removePoint n p).books = s.books := by
  rw [State.removePoint_frame]
  rfl

@[simp] theorem State.createPoint_books (old : Option Point) (q : Point) :
    (s.createPoint n old q).books = s.books := by
  rw [State.createPoint_frame]
  rfl

@[simp] theorem State.updatePoint_books (p : Point) (r : Nat) (a : Option Nat) (f g : Nat) (c : Calibration) :
    (s.updatePoint n p r a f g c).books = s.books := by
  have hcheck : ∀ old q, ((s.setPoint n q).followCheck n old (some q)).books = s.books := by
    intro old q
    rw [State.followCheck_frame]
    rfl
  unfold State.updatePoint
  dsimp only
  split
  · split
    · exact hcheck _ _
    · exact (State.recheck_books _ _).trans (hcheck _ _)
  · split <;> simp

@[simp] theorem State.enterFrost_books (e : Nat × Point) : (s.enterFrost e).books = s.books := by
  simp [State.enterFrost]

@[simp] theorem State.leaveFrost_books (e : Nat × Point) : (s.leaveFrost e).books = s.books := by
  unfold State.leaveFrost
  dsimp only
  split <;> simp

@[simp] theorem State.takeNotice_books (x : Notice) : (s.takeNotice x).books = s.books := by
  have hnext : ∀ t : State, ∀ (c : Prop) [Decidable c] m,
      (if c then t.retarget m else t).books = t.books := by
    intro t c _ m
    split <;> simp
  unfold State.takeNotice
  split
  · rfl
  · dsimp only
    split
    · rw [State.refreshPath_books, hnext]
      rfl
    · rw [hnext]
      rfl

/-! #### The calendar and the reaches (chapters 1 and 2) -/

@[simp] theorem State.minute_books : s.minute.books = s.books := by
  unfold State.minute
  split
  · rfl
  · dsimp only
    split <;> rfl

@[simp] theorem State.setClock_books : (s.setClock n).books = s.books := by
  rw [State.setClock_frame]
  rfl

/-! #### The field line (chapter 6) -/

@[simp] theorem State.stationFailed_books : (s.stationFailed n).books = s.books := by
  unfold State.stationFailed
  dsimp only
  split
  · rfl
  · split <;> rfl

@[simp] theorem State.setAcknowledged_books (v applied : Nat) : (s.setAcknowledged n v applied).books = s.books := by
  unfold State.setAcknowledged
  dsimp only
  split <;> simp

@[simp] theorem State.setLost_books : (s.setLost n).books = s.books := by simp [State.setLost]
@[simp] theorem State.setFailed_books : (s.setFailed n).books = s.books := by simp [State.setFailed]

@[simp] theorem State.endUnanswered_books (t : Transaction) : (s.endUnanswered t).books = s.books := by
  unfold State.endUnanswered
  dsimp only
  split
  · simp
  · split_ifs <;> simp

@[simp] theorem State.badReply_books (t : Transaction) (length : Nat) : (s.badReply t length).books = s.books := by
  unfold State.badReply
  dsimp only
  split <;> simp

@[simp] theorem deliverChannel_books (frame : List Byte) (c : Nat) : (deliverChannel n frame s c).books = s.books := by
  unfold deliverChannel
  dsimp only
  split <;> rfl

@[simp] theorem State.cutShort_books : s.cutShort.books = s.books := by
  unfold State.cutShort
  split
  · split <;> rfl
  · rfl

@[simp] theorem State.abandonPoll_books : s.abandonPoll.books = s.books := by
  unfold State.abandonPoll
  split
  · split <;> rfl
  · rfl

@[simp] theorem State.holdLine_books : s.holdLine.books = s.books := by
  unfold State.holdLine
  split <;> simp

@[simp] theorem State.abandon_books : s.abandon.books = s.books := by
  unfold State.abandon
  split
  · rfl
  · split
    · rfl
    · split <;> simp

@[simp] theorem State.resetLine_books : s.resetLine.books = s.books := by
  unfold State.resetLine State.reevaluateAll
  dsimp only
  exact (foldl_books _ (fun s (e : Nat × Point) => State.reevaluate_books s e.1) _).trans (by simp)

/-! #### Resets and sweeps (chapters 9 and 11) -/

@[simp] theorem State.markHandle_books (h : Option Nat) : (s.markHandle h).books = s.books := by
  unfold State.markHandle
  split <;> rfl

@[simp] theorem State.resetPort_books : s.resetPort.books = s.books := by
  unfold State.resetPort
  dsimp only
  split
  · simp [State.markNamed]
  · rfl

@[simp] theorem State.abortSweep_books : s.abortSweep.books = s.books := by
  unfold State.abortSweep
  split
  · rfl
  · split <;> rfl

@[simp] theorem State.skipPassed_books : s.skipPassed.books = s.books := by
  unfold State.skipPassed
  split
  · rfl
  · split <;> rfl

@[simp] theorem State.warmReset_books : s.warmReset.books = s.books := by simp [State.warmReset]

/-! #### Meters (chapter 7) -/

@[simp] theorem State.failMeter_books (p : Point) : (s.failMeter n p).books = s.books := by
  unfold State.failMeter
  split <;> rfl

@[simp] theorem State.silenceTest_books : (s.silenceTest n).books = s.books := by
  unfold State.silenceTest
  split
  · rfl
  · refine foldl_books _ (fun s m => ?_) _
    unfold State.silentMeter
    split
    · rfl
    · dsimp only
      split <;> simp

end

end Sys2Proof.Machine
end

section
/-! Modes, meters, and the operations on one order keep the books: a posting, a cancellation, an expiry, a cut, a trim,
a bump, a re-examination, an amendment and a placing (R47 to R58, R65, R68, R75, R139). -/

namespace Sys2Proof.Machine

/-! ### What the books read after an operation beside them -/

@[simp] theorem State.releaseOrder_books (s : State) (o : Order) (floor : Nat) :
    (s.releaseOrder o floor).books = s.books := s.withRing_books _

@[simp] theorem State.freeOrder_books (s : State) (i : Nat) (o : Order) : (s.freeOrder i o).books = s.books := by
  unfold State.freeOrder
  split
  · rfl
  · exact s.releaseOrder_books o _
  all_goals rfl

/-- What checks 1 to 3 of R45 pass has an account. -/
theorem State.placeRefused_account {s : State} {q : Ask} {p : Point} (h : s.placeRefused q = none)
    (hp : s.turnout? q.point = some p) : (s.account? (p.account.getD 0)).isSome = true := by
  have hopen : s.openAccount? p ≠ none := by
    intro hn
    simp only [State.placeRefused, hp, hn] at h
    split_ifs at h
  unfold State.openAccount? at hopen
  split at hopen
  · exact absurd rfl hopen
  · next a ha =>
    obtain ⟨n, hn, hn'⟩ := Option.bind_eq_some_iff.1 ha
    simp [hn, hn']

namespace Booked

variable {s t : State} {i n : Nat} {o o' : Order} {p : Point}

theorem ite {c : Prop} [Decidable c] (hs : Booked s) (ht : Booked t) : Booked (if c then s else t) := by
  split
  · exact hs
  · exact ht

theorem foldl {β : Type} {f : State → β → State} (hf : ∀ s x, Booked s → Booked (f s x)) (l : List β)
    (h : Booked s) : Booked (l.foldl f s) :=
  foldl_inv Booked f hf l s h

/-- An order created after changes beside the books, in an entry that is free. -/
theorem create (h : Booked s) (hb : t.books = s.books) (hown : (s.account? o.account).isSome = true)
    (hfree : cell? s.obk.orders i = none) : Booked (t.putOrder i o) := by
  obtain ⟨ho, ha⟩ := Prod.mk.inj hb
  refine (h.of_books hb).putOrder ?_ fun x hx => ?_
  · rwa [State.account?, ha]
  · rw [ho, hfree] at hx
    cases hx

/-- An order that takes the place of one of the same account, after changes beside the books. -/
theorem rewrite (h : Booked s) (ho : cell? s.obk.orders i = some o) (hb : t.books = s.books)
    (ha : o'.account = o.account) : Booked (t.putOrder i o') := by
  refine (h.of_books hb).rewriteOrder ?_ ha
  rwa [(Prod.mk.inj hb).1]

/-! ### A point, a report or a mark is written -/

theorem setPoint (n : Nat) (q : Point) (h : Booked s) : Booked (s.setPoint n q) := h.of_books rfl
theorem changePoint (n : Nat) (f : Point → Point) (h : Booked s) : Booked (s.changePoint n f) := h.of_books (by simp)
theorem resend (n : Nat) (h : Booked s) : Booked (s.resend n) := h.of_books (by simp)
theorem report (k : ErrorKind) (r : ErrorRef) (h : Booked s) : Booked (s.report k r) := h.of_books rfl
theorem markOrder (i : Nat) (h : Booked s) : Booked (s.markOrder i) := h.of_books rfl

/-! ### Modes (R65, R90 to R100) -/

theorem alignOrder (n : Nat) (m : Mode) (h : Booked s) : Booked (s.alignOrder n m) := by
  unfold State.alignOrder
  split
  · exact h
  · next i o hdue =>
    have ho := cell?_of_mem h.ordersRise (OrderBook.mem_of_dueOrder hdue).1
    exact .ite h ((h.rewriteOrder (o' := { o with state := (dueUnder m).1, suspendReason := (dueUnder m).2 })
      ho rfl).markOrder i)

theorem changeMode (n : Nat) (m : Mode) (h : Booked s) : Booked (s.changeMode n m) := by
  cases hp : s.point? n with
  | none =>
    unfold State.changeMode
    rw [hp]
    exact h
  | some p =>
    refine Booked.of_books ?_ (State.changeMode_retold m hp).books
    have hset := h.setPoint n (p.inMode m)
    exact .ite (hset.alignOrder n m) hset

theorem switchLocal (n : Nat) (h : Booked s) : Booked (s.switchLocal n) := by
  unfold State.switchLocal
  split
  · exact h
  · next p _ =>
    have hset : Booked ((s.setPoint n { p with switch := .manual }).clearCloseOwed n) := h.of_books (by simp)
    dsimp only
    split
    · have hmode := fun f => (hset.changePoint n f).changeMode n .localHold
      exact .ite ((hmode _).report _ _) (hmode _)
    · exact hset
    · exact hset

theorem switchRemote (n : Nat) (h : Booked s) : Booked (s.switchRemote n) := by
  unfold State.switchRemote
  split
  · exact h
  · next p _ =>
    have hset := h.setPoint n { p with switch := .remote }
    dsimp only
    split
    · exact hset.changeMode n _
    · exact hset
    · exact hset

theorem takeGate (g : GateNews) (h : Booked s) : Booked (s.takeGate g) := by
  unfold State.takeGate
  split
  · exact h
  · have hswitch : Booked (match g.switch with
        | .manual => s.switchLocal g.point
        | .remote => s.switchRemote g.point) := by
      split
      · exact h.switchLocal _
      · exact h.switchRemote _
    exact .ite ((hswitch.changePoint _ _).report _ _) (hswitch.changePoint _ _)

theorem enablePoint (n : Nat) (p : Point) (h : Booked s) : Booked (s.enablePoint n p) :=
  (h.setPoint n _).changeMode n .auto

theorem closePoint (n : Nat) (p : Point) (h : Booked s) : Booked (s.closePoint n p) := by
  have hmode : ∀ q, Booked (if p.mode = .disabled then s.setPoint n q
      else (s.setPoint n q).changeMode n .disabled) :=
    fun q => .ite (h.setPoint n q) ((h.setPoint n q).changeMode n .disabled)
  exact .ite ((hmode _).resend n) (hmode _)

theorem leavePoint (n : Nat) (p : Point) (h : Booked s) : Booked (s.leavePoint n p) :=
  .ite h (h.changeMode n .disabled)

theorem endAnswered (x : Transaction) (frame : List Byte) (h : Booked s) : Booked (s.endAnswered x frame) := by
  have hidle : Booked (s.lineIdle.stationAnswered x.job.station) := h.of_books rfl
  unfold State.endAnswered
  dsimp only
  split
  · exact hidle.of_books (foldl_books _ (fun s c => deliverChannel_books s _ frame c) _)
  · refine .ite hidle (.ite (hidle.of_books (by simp)) ?_)
    exact (hidle.of_books (by simp)).switchLocal _

/-! ### Postings (R139) -/

theorem postOrder (v : Nat) (estimated : Bool) (place : Place) (h : Booked s) :
    Booked (s.postOrder v estimated place) := by
  unfold State.postOrder
  split
  · split
    · exact h
    · next ho => exact h.rewriteOrder ho rfl
  · exact h
  · exact h

/-- A posting moves neither an account's reserved outstanding nor its live orders of itself. -/
theorem post_figures (x : Tariff) (k : Bucket) (v : Nat) (estimated : Bool) (a : Account) :
    (a.post x k v estimated).figures = a.figures := by
  unfold Account.post
  cases k <;> rfl

theorem post (n v : Nat) (estimated : Bool) (place : Place) (short : Bool) (h : Booked s) :
    Booked (s.post n v estimated place short) := by
  unfold State.post
  split
  · exact h
  · next a _ =>
    have hposted := (h.postOrder v estimated place).reviseAccount (n := n)
      (post_figures (s.tariff a.cls) place.bucket v estimated)
    exact .ite (hposted.report _ _) hposted

theorem postAll (n : Nat) (estimated : Bool) (l : List (Nat × Place)) (short : Bool) (h : Booked s) :
    Booked (s.postAll n estimated l short) := by
  induction l generalizing s short with
  | nil => exact h
  | cons e l ih => exact .ite (ih short h) (ih _ (h.post n _ _ _ _))

theorem convertReading (n : Nat) (p : Point) (totalizer : Nat) (h : Booked s) :
    Booked (s.convertReading n p totalizer) := by
  unfold State.convertReading
  refine .ite (h.of_books ?_) ?_
  · split <;> simp
  · split
    · exact h.setPoint n _
    · exact (h.setPoint n _).postAll _ _ _ _

theorem takeReading (g : Reading) (h : Booked s) : Booked (s.takeReading g) := by
  unfold State.takeReading
  split
  · exact h
  · next p _ =>
    have hfail : Booked (s.failMeter g.point p) := h.of_books (by simp)
    split
    · exact h
    · exact .ite hfail (h.setPoint _ _)
    · exact .ite hfail (h.setPoint _ _)
    · exact .ite hfail (h.convertReading _ _ _)
    · exact .ite hfail (h.convertReading _ _ _)

theorem estimate (u n : Nat) (h : Booked s) : Booked (s.estimate u n) := by
  unfold State.estimate
  split
  · exact h
  · next p _ =>
    refine .ite ?_ h
    dsimp only
    split
    · exact h.setPoint n _
    · exact (h.setPoint n _).postAll _ _ _ _

theorem meterBoundary (u : Nat) (h : Booked s) : Booked (s.meterBoundary u) :=
  foldl (fun _ n h => h.estimate (u - 1) n) _ (h.of_books (by simp))

/-! ### One order is cancelled, expired, cut, trimmed or bumped (R55 to R58) -/

theorem cancelOrder (why : CloseReason) (h : Booked s) (ho : cell? s.obk.orders i = some o) :
    Booked ((s.cancelOrder i o why).markOrder i) :=
  (h.rewrite (o' := { o with state := .cancelled, closeReason := some why }) ho (s.freeOrder_books i o) rfl).of_books
    rfl

theorem expireOrder (h : Booked s) (ho : cell? s.obk.orders i = some o) : Booked (s.expireOrder i o) :=
  (h.rewrite (t := s.leaveWaiting _)
    (o' := { o with state := .expired, closeReason := some .expiredWait }) ho rfl rfl).of_books rfl

theorem cutOrder (why : CloseReason) (h : Booked s) (ho : cell? s.obk.orders i = some o) :
    Booked ((s.cutOrder i o why).markOrder i) :=
  (h.rewrite (o' := { o with
    state := .closing, closeReason := some why, suspendReason := none, cut := some s.obk.slot
    ordered := volume o.flow (s.obk.slot + 1 - o.start) }) ho (s.releaseOrder_books o (s.obk.slot + 1))
      rfl).of_books rfl

theorem trimOrder (k : Nat) (h : Booked s) (ho : cell? s.obk.orders i = some o) : Booked (s.trimOrder i o k) :=
  (h.rewrite (o' := { o with duration := o.duration - k, ordered := volume o.flow (o.duration - k) }) ho
    (s.withRing_books _) rfl).of_books rfl

theorem bumpOrder (h : Booked s) (ho : cell? s.obk.orders i = some o) : Booked (s.bumpOrder i o).1 := by
  unfold State.bumpOrder
  split
  · have hbase : ({ s.releaseOrder o s.obk.slot with
        obk.sequence := (s.releaseOrder o s.obk.slot).obk.sequence + 1 } : State).books = s.books :=
      s.releaseOrder_books o _
    exact (h.rewrite (o' := { o with
      state := .pendingWait, sequence := (s.releaseOrder o s.obk.slot).obk.sequence + 1 }) ho hbase rfl).of_books rfl
  · exact h.cancelOrder _ ho

/-! ### Re-examination and expiry (R74 to R77) -/

theorem reexamineEntry (x : Nat) (h : Booked s) : Booked (s.reexamineEntry x) := by
  unfold State.reexamineEntry
  split
  · exact h
  · next i o hn =>
    have ho := OrderBook.cell?_of_named? hn
    split
    · exact h
    · refine .ite (h.expireOrder ho) ?_
      split
      · exact h
      · next c _ =>
        exact (h.rewrite (t := (s.withRing c).leaveWaiting x) (o' := { o with state := .confirmed }) ho
          (s.withRing_books c) rfl).of_books rfl

theorem reexamine (h : Booked s) : Booked s.reexamine :=
  (foldl (fun _ x h => h.reexamineEntry x) s.obk.waiting h).of_books rfl

theorem startReexamination (h : Booked s) : Booked s.startReexamination := .ite (h.of_books rfl) h.reexamine

theorem expiryStep (h : Booked s) : Booked s.expiryStep := by
  refine foldl (fun s x h => ?_) _ h
  unfold State.expireEntry
  split
  · exact h
  · next hn => exact .ite (h.expireOrder (OrderBook.cell?_of_named? hn)) h

/-! ### Placing (R45 to R49) -/

theorem admitOrder (q : Ask) {account : Nat} (start slidBy : Nat) (c : Calendar) (r : Result) (h : Booked s)
    (hown : (s.account? account).isSome = true) : Booked (s.admitOrder q account start slidBy c r).1 := by
  unfold State.admitOrder
  split
  · exact h
  · next i hi =>
    exact h.create (t := { s.withRing c with obk.sequence := (s.withRing c).obk.sequence + 1 })
      (o := q.order account start slidBy ((s.withRing c).obk.sequence + 1) .confirmed) (s.withRing_books c) hown
      (OrderBook.freeEntry_spec hi).1

theorem queueOrder (q : Ask) {account : Nat} (h : Booked s) (hown : (s.account? account).isSome = true) :
    Booked (s.queueOrder q account).1 := by
  unfold State.queueOrder
  split
  · exact h
  · next i hi =>
    split
    · exact (h.create (t := { s with obk.sequence := s.obk.sequence + 1 })
        (o := q.order account q.start 0 (s.obk.sequence + 1) .pendingWait) rfl hown
        (OrderBook.freeEntry_spec hi).1).of_books rfl
    · exact h

theorem slideTries (q : Ask) (reach : Nat) {account : Nat} (failure : Reply) (fuel k : Nat) (h : Booked s)
    (hown : (s.account? account).isSome = true) : Booked (s.slideTries q reach account failure fuel k).1 := by
  induction fuel generalizing k with
  | zero =>
    unfold State.slideTries
    split <;> exact h
  | succ fuel ih =>
    unfold State.slideTries
    split
    · exact h
    · dsimp only
      split
      · exact h
      · split
        · exact ih _
        · split
          · exact h.admitOrder _ _ _ _ _ hown
          · split
            · exact h
            · exact ih _

theorem placeFirst (q : Ask) (tries : Nat) (h : Booked s) : Booked (s.placeFirst q tries).1 := by
  unfold State.placeFirst
  split
  · exact h
  · next hr =>
    split
    · exact h
    · next p hp =>
      have hown := State.placeRefused_account hr hp
      dsimp only
      split
      · exact h
      · split
        · exact h
        · split
          · exact h.admitOrder _ _ _ _ _ hown
          · split
            · split
              · exact h.slideTries _ _ _ _ _ hown
              · exact h
            · exact h.slideTries _ _ _ _ _ hown
            · exact h.queueOrder _ hown
            · exact h

theorem placeNext (q : Ask) (tries : Nat) (w : Search) (h : Booked s) : Booked (s.placeNext q tries w).1 := by
  unfold State.placeNext
  split
  · exact h
  · next hr =>
    split
    · exact h
    · next hp => exact h.slideTries _ _ _ _ _ (State.placeRefused_account hr hp)

theorem placeEvent (q : Ask) (tries : Nat) (h : Booked s) : Booked (placeEvent q tries s).1 := by
  have hplaced : Booked (match s.obk.search with
      | none => s.placeFirst q tries
      | some w => s.placeNext q tries w).1 := by
    split
    · exact h.placeFirst q tries
    · exact h.placeNext q tries _
  unfold Machine.placeEvent
  dsimp only
  split <;> exact hplaced.of_books rfl

theorem fire (x : Nat) (m : Template) (h : Booked s) : Booked (s.fire x m) := by
  have hplaced := h.placeFirst (m.ask x) 96
  have hmarked := hplaced.of_books (State.markHandle_books _ (s.placeFirst (m.ask x) 96).2.outcome.2)
  exact .ite (hmarked.of_books rfl) (hmarked.of_books rfl)

theorem firingStep (u : Nat) (h : Booked s) : Booked (s.firingStep u) :=
  foldl (fun _ _ h => .ite (h.fire _ _) h) _ h

/-! ### Amend (R51 to R53) -/

theorem amendDue (x e : Nat) (h : Booked s) (ho : cell? s.obk.orders i = some o) :
    Booked (s.amendDue x i o e).1 := by
  unfold State.amendDue
  dsimp only
  split
  · exact h
  · split
    · exact h
    · split
      · split
        · exact h
        · split
          · split
            · exact h.rewrite ho (s.withRing_books _) rfl
            · exact h
            · exact h
          · exact h
      · exact h.rewrite ho (s.withRing_books _) rfl

theorem amendConfirmed (x f e : Nat) (h : Booked s) (ho : cell? s.obk.orders i = some o) :
    Booked (s.amendConfirmed x i o f e).1 := by
  unfold State.amendConfirmed
  dsimp only
  split
  · exact h
  · split
    · exact h
    · split
      · exact h
      · split
        · exact h.rewrite ho (s.withRing_books _) rfl
        · exact h
        · exact h

theorem reexamined {r : State × Reply} {c : Prop} [Decidable c] (h : Booked r.1) :
    Booked (if c then (r.1.startReexamination, r.2) else r).1 := by
  split
  · exact h.startReexamination
  · exact h

theorem amendBook (handle : Nat) (flow endSlot : Option Nat) (h : Booked s) :
    Booked (amendBook handle flow endSlot s).1 := by
  unfold Machine.amendBook
  split
  · exact h
  · next i o hn =>
    have ho := OrderBook.cell?_of_named? hn
    dsimp only
    split
    · exact h
    · split
      · exact h
      · split
        · exact h
        · split
          · exact h
          · split
            · exact h
            · refine reexamined ?_
              split
              · exact h.amendDue _ _ ho
              · exact h.amendConfirmed _ _ _ ho

end Booked

end Sys2Proof.Machine
end

section
/-! The order requests, the Order Book's boundary and the sweep steps keep the books (R15, R54 to R64, R160, R169 to
R179). -/

namespace Sys2Proof.Machine

namespace Booked

variable {s t : State} {i : Nat} {o o' : Order}

theorem arbitrate (h : Booked s) : Booked s.arbitrate := h.of_books (by simp)
theorem owe (h : Booked s) : Booked s.owe := h.of_books rfl
theorem tally (f : Counts → Counts) (h : Booked s) : Booked (s.tally f) := h.of_books rfl
theorem moveCursor (n : Nat) (h : Booked s) : Booked (s.moveCursor n) := h.of_books rfl

/-- A walk over entries of the order table, each still what it was when the walk comes to it. -/
theorem walk (h : Booked s) {σ : Type} (g : σ → State) {f : σ → Nat × Order → σ} {l : List (Nat × Order)}
    {x : σ} (hx : g x = s) (hn : (l.map Prod.fst).Nodup) (hl : ∀ e ∈ l, e ∈ s.obk.orders)
    (hstep : ∀ y, ∀ e ∈ l, Booked (g y) → cell? (g y).obk.orders e.1 = some e.2 →
      Booked (g (f y e)) ∧ ∀ k, k ≠ e.1 → cell? (g (f y e)).obk.orders k = cell? (g y).obk.orders k) :
    Booked (g (l.foldl f x)) := by
  subst hx
  exact walk_entries g l hn hstep x (fun e he => cell?_of_mem h.ordersRise (hl e he)) h

/-- The orders of a chain stand once. -/
theorem chain_nodup (h : Booked s) (lt : Nat × Order → Nat × Order → Bool) (q r : Nat × Order → Bool) :
    (((sortBy lt (s.obk.orders.filter q)).filter r).map Prod.fst).Nodup := by
  refine List.Nodup.sublist (List.filter_sublist.map _) ?_
  refine ((sortBy_perm _ _).map _).nodup_iff.2 ?_
  exact (nodup_numbers h.ordersRise).sublist (List.filter_sublist.map _)

/-! ### Cancel (R54 to R57), suspend (R15), retire (R60, R160) -/

theorem cancelOne (endRunning : Bool) (i : Nat) (acc : State × CancelCounts) (h : Booked acc.1) :
    Booked (State.cancelOne endRunning i acc).1 := by
  unfold State.cancelOne
  split
  · exact h
  · next o ho =>
    split
    · exact h.cancelOrder _ ho
    · exact h.cancelOrder _ ho
    · split
      · exact h.cutOrder _ ho
      · exact h
    · split
      · exact h.cutOrder _ ho
      · exact h
    all_goals exact h

theorem cancelMany (chain : List (Nat × Order)) (endRunning : Bool) (h : Booked s) :
    Booked (s.cancelMany chain endRunning).1 := by
  have hchain : Booked (s.cancelChain chain endRunning).1 :=
    foldl_inv (fun acc : State × CancelCounts => Booked acc.1)
      (fun acc (e : Nat × Order) => State.cancelOne endRunning e.1 acc)
      (fun acc e => cancelOne endRunning e.1 acc) chain (s, _) h
  exact ite hchain.startReexamination hchain

theorem unmark (h : Booked (s.markOrder i)) : Booked s := h.of_books rfl

theorem cancelNamed (handle : Nat) (h : Booked s) : Booked (s.cancelNamed handle).1 := by
  unfold State.cancelNamed
  split
  · exact h
  · next i o hn =>
    have ho := OrderBook.cell?_of_named? hn
    split
    · exact (h.cancelOrder _ ho).unmark.startReexamination
    · exact (h.cancelOrder _ ho).unmark.startReexamination
    · exact (h.cutOrder _ ho).unmark.startReexamination
    · exact (h.cutOrder _ ho).unmark.startReexamination
    all_goals exact h

theorem suspendAll (n : Nat) (h : Booked s) : Booked ((s.obk.cancellable n).foldl (fun s e => s.suspendOne e) s) := by
  refine foldl (fun s e h => ?_) _ h
  unfold State.suspendOne
  split
  · exact h
  · next ho => exact h.cancelOrder _ ho

/-- The close of an account's period retires its finished orders (R160). -/
theorem closePeriod (n : Nat) (h : Booked s) : Booked (s.closePeriod n) := by
  unfold State.closePeriod
  split
  · exact h
  · next a ha =>
    have hset : Booked (s.setAccount n (a.closePeriod s.cal.clock)) := h.rewriteAccount ha rfl
    refine hset.walk id rfl (hset.chain_nodup _ _ _) (fun e he => ?_) fun s e he h ho => ⟨?_, fun k hk => ?_⟩
    · exact (List.mem_filter.1 (mem_sortBy.1 (List.mem_filter.1 he).1)).1
    · refine h.retireEntry fun o hk => ?_
      cases ho.symm.trans hk
      simpa using (List.mem_filter.1 he).2
    · exact (cell?_delCell _ _ _).trans (if_neg hk)

/-! ### The boundary (R61 to R64) -/

/-- A step of the boundary writes an order of the same account into its entry, with its mark. -/
theorem step_entry (h : Booked s) (ho : cell? s.obk.orders i = some o) (ha : o'.account = o.account) :
    Booked ((s.putOrder i o').markOrder i) ∧
      ∀ k, k ≠ i → cell? ((s.putOrder i o').markOrder i).obk.orders k = cell? s.obk.orders k :=
  ⟨(h.rewriteOrder ho ha).markOrder i, fun _ hk => RingSound.put_other hk⟩

theorem closeStep (u : Nat) (h : Booked s) : Booked (s.closeStep u).1 := by
  refine h.walk Prod.fst rfl (nodup_numbers h.ordersRise) (fun e he => he) fun acc e _ h ho => ?_
  unfold closeOne
  dsimp only
  split
  · exact h.step_entry ho rfl
  · exact ⟨h, fun _ _ => rfl⟩

theorem endStep (u : Nat) (h : Booked s) : Booked (s.endStep u) := by
  refine h.walk id rfl (nodup_numbers h.ordersRise) (fun e he => he) fun s e _ h ho => ?_
  unfold endOne
  dsimp only
  split
  · exact h.step_entry ho rfl
  · exact ⟨h, fun _ _ => rfl⟩

theorem startStep (u : Nat) (h : Booked s) : Booked (s.startStep u) := by
  refine h.walk id rfl (nodup_numbers h.ordersRise) (fun e he => he) fun s e _ h ho => ?_
  unfold startOne
  dsimp only
  split
  · split
    · exact ⟨h, fun _ _ => rfl⟩
    · exact h.step_entry ho rfl
  · exact ⟨h, fun _ _ => rfl⟩

theorem noticeStep (ps : List Nat) (h : Booked s) : Booked (s.noticeStep ps) :=
  h.of_books (foldl_books s (fun s p => s.notify_books p _) ps)

theorem bookBoundary (u : Nat) (h : Booked s) : Booked (s.bookBoundary u) := by
  have hslot : Booked { s with obk.slot := u } := h.of_books rfl
  have hfired := fun ps =>
    (((((hslot.closeStep u).endStep u).startStep u).noticeStep ps).expiryStep).firingStep u
  exact .ite (hfired _).startReexamination (hfired _)

/-! ### Sweep steps (R170 to R179) -/

theorem accountChanged (n : Nat) (h : Booked s) : Booked (s.accountChanged n) := by
  unfold State.accountChanged
  split
  · exact h
  · next a ha => exact (h.rewriteAccount (b := { a with mark := true }) ha rfl).tally _

theorem trimOne (e : Nat) (h : Booked s) (ho : cell? s.obk.orders i = some o) : Booked (s.trimOne i o e) :=
  .ite ((h.trimOrder _ ho).tally _) ((h.cancelOrder _ ho).tally _)

theorem trimLoop (n fuel : Nat) (acc : State × Bool) (h : Booked acc.1) : Booked (State.trimLoop n fuel acc).1 := by
  induction fuel generalizing acc with
  | zero => exact h
  | succ fuel ih =>
    unfold State.trimLoop
    split
    · exact h
    · split
      · exact h
      · next hlast => exact ih _ (h.trimOne _ (cell?_of_mem h.ordersRise (OrderBook.mem_of_lastOf hlast).1))

theorem drainOne (h : Booked s) (ho : cell? s.obk.orders i = some o) : Booked (s.drainOne i o) :=
  (h.cutOrder _ ho).tally _

theorem drainLoop (n fuel : Nat) (acc : State × Bool) (h : Booked acc.1) : Booked (State.drainLoop n fuel acc).1 := by
  induction fuel generalizing acc with
  | zero => exact h
  | succ fuel ih =>
    unfold State.drainLoop
    split
    · exact h
    · split
      · exact h
      · next hlast => exact ih _ (h.drainOne (cell?_of_mem h.ordersRise (OrderBook.mem_of_lastOf hlast).1))

theorem curtailAccount (n : Nat) (a : Account) (q : Nat) (d : Drain) (h : Booked s) :
    Booked (s.curtailAccount n a q d) := by
  have htrimmed := trimLoop n s.obk.orders.length (s.reviseAccount n (fun a => { a with curtailment := q }), false)
    (h.reviseAccount fun _ => rfl)
  have hend : ∀ r : State × Bool, Booked r.1 → ∀ (c c' : Prop) [Decidable c] [Decidable c'],
      Booked (if c' then (if c then r.1.owe else r.1).accountChanged n else if c then r.1.owe else r.1) :=
    fun _ hr _ _ _ _ => .ite ((ite hr.owe hr).accountChanged n) (.ite hr.owe hr)
  unfold State.curtailAccount
  refine hend _ ?_ _ _
  cases d with
  | letRun => exact htrimmed
  | stopRunning => exact drainLoop n _ _ htrimmed

theorem curtailVisit (w : Sweep) (h : Booked s) : Booked (s.curtailVisit w) := by
  unfold State.curtailVisit
  refine moveCursor _ ?_
  split
  · exact h
  · exact .ite (h.curtailAccount _ _ _ _) h

theorem closeVisit (w : Sweep) (h : Booked s) : Booked (s.closeVisit w) := by
  unfold State.closeVisit
  refine moveCursor _ ?_
  split
  · exact h
  · exact .ite ((h.closePeriod _).accountChanged _) h

theorem openSeason (h : Booked s) : Booked s.openSeason := by
  have hmap := h.mapAccounts Account.opening fun _ => rfl
  exact .ite hmap.owe hmap

theorem seasonVisit (w : Sweep) (h : Booked s) : Booked (s.seasonVisit w) := by
  unfold State.seasonVisit
  refine moveCursor _ ?_
  split
  · exact h
  · have hclosed := h.closePeriod w.cursor
    unfold State.seasonAccount
    refine accountChanged _ (of_books (s := match (s.closePeriod w.cursor).account? w.cursor with
      | none => s.closePeriod w.cursor
      | some a => (s.closePeriod w.cursor).setAccount w.cursor a.newSeason) ?_ rfl)
    split
    · exact hclosed
    · next ha => exact hclosed.rewriteAccount ha rfl

theorem bumpSlot (u : Nat) (h : Booked s) : Booked (s.bumpSlot u) := by
  have hwalk : Booked ((s.bumpList u).foldl (bumpOne u) s) := by
    refine h.walk id rfl ?_ (fun e he => (List.mem_filter.1 (mem_sortBy.1 he)).1) fun s e _ h ho => ?_
    · exact ((sortBy_perm _ _).map _).nodup_iff.2
        ((nodup_numbers h.ordersRise).sublist (List.filter_sublist.map _))
    · dsimp only [id] at h ho ⊢
      unfold bumpOne
      split
      · exact ⟨(h.bumpOrder ho).owe.tally _, fun _ hk => State.bumpOrder_other _ e.2 hk⟩
      · exact ⟨h, fun _ _ => rfl⟩
  exact .ite (hwalk.of_books rfl) (hwalk.of_books rfl)

theorem bumpVisit (w : Sweep) (h : Booked s) : Booked (s.bumpVisit w) :=
  (ite (h.bumpSlot _) h).moveCursor _

end Booked

end Sys2Proof.Machine
end

section
/-! Every request at its owning block, and every command, keeps the books (R42, R68). -/

namespace Sys2Proof.Machine

namespace Booked

variable {s t : State}

/-- What a request makes of a state. -/
abbrev After (r : State × Reply) : Prop := Booked r.1

theorem iteAfter {c : Prop} [Decidable c] {a b : State × Reply} (ha : After a) (hb : After b) :
    After (if c then a else b) := by
  split
  · exact ha
  · exact hb

theorem settle {r : State × Reply} (h : Booked s) (hr : Booked r.1) : After (s.settle r) := iteAfter h hr.arbitrate

/-! ### Reaches and points (R3 to R11) -/

theorem reconfigure (r : Nat) (old new : Reach) (h : Booked s) : Booked (s.reconfigure r old new) := by
  unfold State.reconfigure
  dsimp only
  have hset : Booked { s with cal.reaches := setCell s.cal.reaches r new } := h.of_books rfl
  have hload : ∀ (c : Prop) [Decidable c] rs, Booked (if c then { s with cal.reaches := setCell s.cal.reaches r new }
      else State.refreshFrost rs { s with cal.reaches := setCell s.cal.reaches r new }) :=
    fun c _ rs => .ite hset (hset.of_books (by simp))
  split
  · exact (hload _ _).startReexamination.arbitrate
  · exact (hload _ _).arbitrate

theorem configureReach (r : Nat) (parent : Option Nat) (cap lag : Nat) (h : Booked s) :
    Booked (s.configureReach r parent cap lag).1 := by
  unfold State.configureReach
  refine iteAfter h (iteAfter h (iteAfter h ?_))
  split
  · exact h.of_books rfl
  · exact iteAfter h (h.reconfigure _ _ _)

theorem unconfigureReach (r : Nat) (h : Booked s) : Booked (s.unconfigureReach r).1 := by
  unfold State.unconfigureReach
  refine iteAfter h ?_
  split
  · exact h
  · exact iteAfter h (h.of_books rfl)

theorem reqReachSet (a r : Nat) (p : Option Nat) (q l : Nat) (h : Booked s) : After (reqReachSet a r p q l s) := by
  unfold Machine.reqReachSet
  split
  · exact h.configureReach r p q l
  · exact h.unconfigureReach r
  · exact h

theorem givePoint (n : Nat) (k : PointKind) (reach : Nat) (owner : Option Nat) (rated frost : Nat) (c : Calibration)
    (h : Booked s) : After (s.givePoint n k reach owner rated frost c) := by
  unfold State.givePoint
  split
  · exact h
  · dsimp only
    split
    · exact h.of_books (by simp)
    · exact iteAfter (h.of_books (by simp)) (h.of_books (by simp))

theorem clearPoint (n : Nat) (h : Booked s) : After (s.clearPoint n) := by
  unfold State.clearPoint
  split
  · exact h
  · exact iteAfter h (iteAfter h (h.of_books (by simp)))

theorem reqPointSet (n k r a f g m i : Nat) (h : Booked s) : After (reqPointSet n k r a f g m i s) := by
  unfold Machine.reqPointSet
  refine iteAfter h ?_
  dsimp only
  split
  · exact h.clearPoint n
  · exact h.givePoint _ _ _ _ _ _ _
  · exact h.givePoint _ _ _ _ _ _ _

/-! ### Accounts (R14 to R17, R149, R159, R163) -/

/-- An account opened from VACANT has no orders yet. -/
theorem openAccount {n : Nat} (cls base : Nat) (h : Booked s) (hn : s.account? n = none) :
    Booked (s.setAccount n (.fresh cls base)) := by
  refine h.setAccount ?_
  rw [h.figure_vacant hn, h.figure_vacant hn]
  rfl

theorem reqAccountSet (n c b : Nat) (h : Booked s) : After (reqAccountSet n c b s) := by
  unfold Machine.reqAccountSet
  refine iteAfter h ?_
  split
  · next hn => exact h.openAccount c b hn
  · next old hold =>
    have hset : Booked (s.setAccount n (old.revise (Account.reset c b))) := h.rewriteAccount hold rfl
    exact iteAfter hset.startReexamination.arbitrate hset

theorem reqAccountSuspend (n : Nat) (h : Booked s) : After (reqAccountSuspend n s) := by
  unfold Machine.reqAccountSuspend
  refine iteAfter h ?_
  split
  · exact h
  · next a ha =>
    have hset : Booked (s.setAccount n (a.revise fun a => { a with state := .suspended })) := h.rewriteAccount ha rfl
    exact iteAfter (ite (hset.suspendAll n) (hset.suspendAll n).startReexamination).arbitrate h

theorem reqAccountResume (n : Nat) (h : Booked s) : After (reqAccountResume n s) := by
  unfold Machine.reqAccountResume
  refine iteAfter h ?_
  split
  · exact h
  · next a ha =>
    have hset : Booked (s.setAccount n (a.revise fun a => { a with state := .opened })) := h.rewriteAccount ha rfl
    exact iteAfter hset.startReexamination.arbitrate h

theorem reqAccountClose (n : Nat) (h : Booked s) : After (reqAccountClose n s) := by
  unfold Machine.reqAccountClose
  refine iteAfter h ?_
  split
  · exact h
  · next a ha => exact iteAfter h (iteAfter h (h.rewriteAccount (b := a.revise _) ha rfl))

theorem reqTransfer (g k v : Nat) (h : Booked s) : After (reqTransfer g k v s) := by
  have hmoved : Booked (s.moveLitres g k v) := reviseAccount (h.reviseAccount fun _ => rfl) fun _ => rfl
  unfold Machine.reqTransfer
  refine iteAfter h ?_
  split
  · exact iteAfter h (iteAfter h (iteAfter h hmoved.startReexamination.arbitrate))
  · exact h

theorem reqPeriodClose (c r : Nat) (h : Booked s) : After (reqPeriodClose c r s) := by
  have hscope : ∀ sc, After (s.closeScopePeriod sc) := fun sc => iteAfter h (h.of_books rfl)
  unfold Machine.reqPeriodClose
  split
  · unfold State.closeAccountPeriod
    refine iteAfter h (iteAfter h ?_)
    split
    · exact h
    · exact h.closePeriod r
  · exact iteAfter h (hscope _)
  · exact hscope _
  · exact h

theorem reqNextAccountChanged (h : Booked s) : After (reqNextAccountChanged s) := by
  unfold Machine.reqNextAccountChanged
  split
  · exact h
  · next n a rest he =>
    have hm : (n, a) ∈ s.marked := he ▸ List.mem_cons_self
    exact h.rewriteAccount (b := { a with mark := false })
      (cell?_of_mem h.accountsRise (List.mem_of_mem_filter hm)) rfl

theorem reqSeasonOpen (h : Booked s) : After (reqSeasonOpen s) :=
  iteAfter h (iteAfter h (of_books (t := s.startSweep _) h rfl).openSeason)

theorem reqCurtail (c k b z q d : Nat) (h : Booked s) : After (reqCurtail c k b z q d s) := by
  unfold Machine.reqCurtail
  split
  · exact h
  · refine iteAfter h (iteAfter h ?_)
    dsimp only
    split
    · exact h
    · exact h.of_books rfl

/-! ### The calendar (chapter 2) -/

theorem reqClockSet (m : Nat) (h : Booked s) : After (reqClockSet m s) :=
  iteAfter h (iteAfter h (h.of_books (by simp)))

theorem writeSupplies (first count flow : Nat) (h : Booked s) : After (s.writeSupplies first count flow) := by
  have hset : ∀ c, Booked { s with cal := c } := fun c => h.of_books rfl
  have hsweep : ∀ (p : Prop) [Decidable p] c w,
      Booked (if p then { s with cal := c } else State.startSweep w { s with cal := c }) :=
    fun p _ c w => .ite (hset c) (h.of_books rfl)
  unfold State.writeSupplies
  dsimp only [After]
  split
  · exact (hsweep _ _ _).startReexamination.arbitrate
  · exact hsweep _ _ _

theorem reqSupplySet (first count flow : Nat) (h : Booked s) : After (reqSupplySet first count flow s) :=
  iteAfter h (iteAfter h (iteAfter h (h.writeSupplies first count flow)))

/-! ### Orders (chapters 3 and 4) -/

theorem reqPlace (p u d f o l n : Nat) (h : Booked s) : Booked (reqPlace p u d f o l n s).1 := by
  unfold Machine.reqPlace
  split
  · exact h
  · next q _ =>
    have hplaced := h.placeEvent q n
    dsimp only
    split
    · exact hplaced
    · split
      · exact hplaced
      · exact hplaced.arbitrate

theorem reqCancel (c r o : Nat) (h : Booked s) : After (reqCancel c r o s) := by
  refine h.settle ?_
  unfold cancelBook
  split
  · exact h.cancelNamed r
  · refine iteAfter h ?_
    split
    · exact h
    · exact h.cancelMany _ _
  · refine iteAfter h ?_
    split
    · exact h
    · exact h.cancelMany _ _
  · exact h

theorem reqRetire (x : Nat) (h : Booked s) : After (reqRetire x s) := by
  unfold Machine.reqRetire
  split
  · exact h
  · next i o hn =>
    split
    · exact h
    · next hl =>
      refine h.retireEntry fun y hy => ?_
      cases (OrderBook.cell?_of_named? hn).symm.trans hy
      exact eq_false_of_ne_true hl

theorem reqNextChanged (h : Booked s) : After (reqNextChanged s) := by
  unfold Machine.reqNextChanged
  split
  · exact h
  · dsimp only
    split <;> exact h.of_books rfl

theorem reqStandingSet (x p o d f c : Nat) (n : Option Nat) (h : Booked s) :
    After (reqStandingSet x p o d f c n s) := by
  unfold Machine.reqStandingSet
  refine iteAfter h ?_
  split
  · exact h
  · split
    · exact h
    · exact h.of_books rfl

theorem reqStandingResume (x : Nat) (h : Booked s) : After (reqStandingResume x s) := by
  unfold Machine.reqStandingResume
  refine iteAfter h ?_
  split
  · exact h
  · exact iteAfter (h.of_books rfl) h

theorem reqStandingClear (x : Nat) (h : Booked s) : After (reqStandingClear x s) := iteAfter h (h.of_books rfl)

/-! ### Release Control, the field line and the meters (chapters 5 to 7) -/

theorem reqPointEnable (n : Nat) (h : Booked s) : After (reqPointEnable n s) := by
  unfold Machine.reqPointEnable
  refine iteAfter h ?_
  split
  · exact h
  · exact iteAfter h (h.enablePoint _ _).arbitrate

theorem reqPointDisable (n a : Nat) (h : Booked s) : After (reqPointDisable n a s) := by
  unfold Machine.reqPointDisable
  refine iteAfter h ?_
  split
  · exact h
  · exact (ite (h.closePoint _ _) (h.leavePoint _ _)).arbitrate

theorem reqLocalAck (n : Nat) (h : Booked s) : After (reqLocalAck n s) := by
  unfold Machine.reqLocalAck
  refine iteAfter h ?_
  split
  · exact h
  · exact iteAfter h (h.setPoint _ _)

theorem reqFrostCall (c r : Nat) (h : Booked s) : After (reqFrostCall c r s) := by
  unfold Machine.reqFrostCall
  refine iteAfter h (iteAfter h (arbitrate (h.of_books ?_)))
  exact (State.refreshFrost_books _ _).trans (foldl_books s State.enterFrost_books _)

theorem reqFrostEnd (c r : Nat) (h : Booked s) : After (reqFrostEnd c r s) := by
  unfold Machine.reqFrostEnd
  refine iteAfter h (iteAfter h (arbitrate (h.of_books ?_)))
  exact (State.refreshFrost_books _ _).trans (foldl_books s State.leaveFrost_books _)

theorem setMode (m : FieldMode) (h : Booked s) : Booked (s.setMode m) := h.of_books rfl

theorem reqFieldStart (h : Booked s) : After (reqFieldStart s) := by
  unfold Machine.reqFieldStart
  split
  · exact (h.setMode _).arbitrate
  · exact h
  · exact h

theorem reqFieldStop (h : Booked s) : After (reqFieldStop s) := by
  unfold Machine.reqFieldStop
  dsimp only
  split
  · exact h
  · exact h.of_books (by simp)
  · exact h.of_books (by simp)

theorem reqResume (h : Booked s) : After (reqResume s) := by
  unfold Machine.reqResume
  split
  · exact iteAfter h (h.setMode _).arbitrate
  · exact h
  · exact h

theorem reqMeterRebase (n : Nat) (h : Booked s) : After (reqMeterRebase n s) := by
  unfold Machine.reqMeterRebase
  refine iteAfter h ?_
  split
  · exact h
  · exact iteAfter h (h.setPoint _ _)

/-! ### Every request -/

/-- A query hands the state back. -/
theorem of_query {r : State × Reply} {a : Reply} (h : Booked s) (hr : r = (s, a)) : After r := hr ▸ h

theorem runRequest (c : Instr) (h : Booked s) : Booked (runRequest c s).1 := by
  cases c
  case reachSet a r p q l => exact h.reqReachSet a r p q l
  case reachQuery n => exact h.of_query (reqReachQuery_eq n s)
  case pointSet p k r a f q m i => exact h.reqPointSet p k r a f q m i
  case pointQuery n => exact h.of_query (reqPointQuery_eq n s)
  case accountSet a c b => exact h.reqAccountSet a c b
  case accountQuery a p => exact h.of_query (reqAccountQuery_eq a p s)
  case accountSuspend a => exact h.reqAccountSuspend a
  case accountResume a => exact h.reqAccountResume a
  case accountClose a => exact h.reqAccountClose a
  case tariffSet => exact iteAfter h (h.of_books rfl)
  case tariffQuery c => exact h.of_query (reqTariffQuery_eq c s)
  case districtSet => exact h.of_books rfl
  case clockSet m => exact h.reqClockSet m
  case capacityQuery r f n => exact h.of_query (reqCapacityQuery_eq r f n s)
  case supplySet f n w => exact h.reqSupplySet f n w
  case place p u d f o l n => exact h.reqPlace p u d f o l n
  case amend x f e => exact h.settle (h.amendBook x f e)
  case cancel c r o => exact h.reqCancel c r o
  case orderQuery x => exact h.of_query (reqOrderQuery_eq x s)
  case retire x => exact h.reqRetire x
  case nextChanged => exact h.reqNextChanged
  case waitlistQuery k => exact h.of_query (reqWaitlistQuery_eq k s)
  case standingSet x p o d f c n => exact h.reqStandingSet x p o d f c n
  case standingResume x => exact h.reqStandingResume x
  case standingClear x => exact h.reqStandingClear x
  case standingQuery x => exact h.of_query (reqStandingQuery_eq x s)
  case pointEnable n => exact h.reqPointEnable n
  case pointDisable n a => exact h.reqPointDisable n a
  case localAck n => exact h.reqLocalAck n
  case frostCall c r => exact h.reqFrostCall c r
  case frostEnd c r => exact h.reqFrostEnd c r
  case fieldStart => exact h.reqFieldStart
  case fieldStop => exact h.reqFieldStop
  case resume => exact h.reqResume
  case stationQuery a => exact h.of_query (reqStationQuery_eq a s)
  case meterRebase n => exact h.reqMeterRebase n
  case meterQuery n => exact h.of_query (reqMeterQuery_eq n s)
  case transfer g k v => exact h.reqTransfer g k v
  case periodClose c r => exact h.reqPeriodClose c r
  case seasonOpen => exact h.reqSeasonOpen
  case statementQuery n => exact h.of_query (reqStatementQuery_eq n s)
  case nextAccountChanged => exact h.reqNextAccountChanged
  case curtail c k b z q d => exact h.reqCurtail c k b z q d
  case sweepQuery => exact h.of_books rfl
  case errorClear => exact iteAfter h (h.of_books rfl)
  case severitySet => exact iteAfter h (h.of_books rfl)
  case countSelect => exact iteAfter h (h.of_books rfl)
  case attentionMask => exact h.of_books rfl
  all_goals exact h

end Booked

/-! ### Every command -/

/-- The next state of an outcome, if it is one, has its books in order. -/
def BookedNext (r : Host.Outcome State Fault Refusal) : Prop := ∀ t, r = .next t → Booked t

namespace BookedNext

variable {s t : State}

theorem next (h : Booked t) : BookedNext (.next t) := by
  rintro _ ⟨⟩
  exact h

theorem ite {c : Prop} [Decidable c] {x y : Host.Outcome State Fault Refusal} (hx : BookedNext x)
    (hy : BookedNext y) : BookedNext (if c then x else y) := by
  split
  · exact hx
  · exact hy

end BookedNext

namespace Booked

variable {s t : State}

theorem exec_request {c : Instr} (hc : (requestBytes c).isSome = true) (hp : isPlace c = false)
    (hs : c ≠ .softReset) (h : Booked s) : BookedNext (exec c s) := by
  obtain ⟨act, hact, hrun⟩ := exec_of_request hc hp hs
  have hdone := h.runRequest c
  rw [hrun] at hdone
  rw [hact]
  exact .ite (.next (hdone.of_books rfl)) (.next h)

theorem execPlace (p u d f o l n : Nat) (h : Booked s) : BookedNext (execPlace p u d f o l n s) := by
  have hplaced := h.reqPlace p u d f o l n
  refine .ite ?_ (.next h)
  dsimp only
  split
  · exact .next hplaced
  · exact .next (hplaced.of_books rfl)

/-! #### Transactions, resets and power (chapter 11) -/

theorem execCommand (m : Clocked) (h : Booked s) : BookedNext (execCommand m s) := by
  refine .next (h.of_books ?_)
  split_ifs
  · unfold State.takeFrame
    split <;> rfl
  · rfl
  · rfl

theorem execFetch (bits : Nat) (h : Booked s) : BookedNext (execFetch bits s) := by
  unfold Machine.execFetch
  split
  · exact .next (h.of_books rfl)
  · exact .next (ite (h.of_books rfl) (h.of_books rfl))

theorem warmReset (h : Booked s) : Booked s.warmReset := h.of_books (by simp)

theorem execResetAsserted (h : Booked s) : BookedNext (execResetAsserted s) := by
  have hline : Booked { s with resetAsserted := true } := h.of_books rfl
  exact .ite (.next h) (.next (ite hline.warmReset hline))

theorem execOrphanCompletion (h : Booked s) : BookedNext (execOrphanCompletion s) := by
  refine .ite ?_ (.next h)
  cases s.port.executing? with
  | none => exact .next h
  | some c =>
    have hrun := h.runRequest c
    dsimp only
    split
    · exact .next hrun
    · next a _ => exact .next ((hrun.of_books (State.markHandle_books _ a.names)).of_books rfl)

/-- Right after a power-on reset no order and no account exists. -/
theorem powerOn : Booked State.reset where
  ordersRise := rfl
  accountsRise := rfl
  owned _ _ ho := nomatch ho
  figures _ _ ha := nomatch ha

/-! #### The minute and the boundary (chapters 2 to 5, 7 and 9) -/

theorem execOrderBookBoundary (h : Booked s) : BookedNext (execOrderBookBoundary s) := by
  unfold Machine.execOrderBookBoundary
  split
  · exact .next h
  · next u rest _ =>
    have hrest : Booked { s with mail.orderBook := rest } := h.of_books rfl
    exact .next (hrest.bookBoundary u).arbitrate

theorem execScheduledOrderNotice (n : Nat) (h : Booked s) : BookedNext (execScheduledOrderNotice n s) := by
  unfold Machine.execScheduledOrderNotice
  split
  · exact .next h
  · next x rest _ =>
    have hrest : Booked { s with mail.notices := rest } := h.of_books rfl
    exact .next (hrest.of_books (t := State.takeNotice x _) (by simp)).arbitrate

theorem execReleaseControlBoundary (h : Booked s) : BookedNext (execReleaseControlBoundary s) := by
  unfold Machine.execReleaseControlBoundary
  split
  · exact .next h
  · exact .next (h.of_books (by simp))

theorem execMeterBoundary (h : Booked s) : BookedNext (execMeterBoundary s) := by
  unfold Machine.execMeterBoundary
  split
  · exact .next h
  · next u rest _ =>
    have hrest : Booked { s with mail.meter := rest } := h.of_books rfl
    exact .next (hrest.meterBoundary u)

theorem execSweepBoundary (h : Booked s) : BookedNext (execSweepBoundary s) := by
  unfold Machine.execSweepBoundary
  split
  · exact .next h
  · exact .next (h.of_books (by simp))

/-! #### The field line and its deliveries (chapters 5 to 7) -/

theorem execOutFrameSent (h : Booked s) : BookedNext (execOutFrameSent s) := by
  unfold Machine.execOutFrameSent
  split
  · exact .next h
  · exact .ite (.next (h.of_books rfl)) (.next h)

theorem execAttemptDeadline (h : Booked s) : BookedNext (execAttemptDeadline s) := by
  unfold Machine.execAttemptDeadline
  split
  · exact .next h
  · exact .ite (.next h) (.ite (.next (h.of_books (by simp))) (.next (h.of_books rfl)))

theorem badReply (x : Transaction) (length : Nat) (h : Booked s) : Booked (s.badReply x length).arbitrate :=
  h.of_books (by simp)

theorem execReplyKindByte (a k : Byte) (h : Booked s) : BookedNext (execReplyKindByte a k s) := by
  unfold Machine.execReplyKindByte
  split
  · exact .next h
  · refine .ite ?_ (.next h)
    split
    · exact .next (h.of_books rfl)
    · exact .next (h.badReply _ 0)

theorem execFieldReply (f : List Byte) (h : Booked s) : BookedNext (execFieldReply f s) := by
  unfold Machine.execFieldReply
  split
  · exact .next h
  · next x _ =>
    refine .ite (.next h) ?_
    split
    · exact .ite (.next (h.badReply x 0)) (.next h)
    · next n _ =>
      exact .ite (.next h) (.ite (.next (h.endAnswered x (f.take n)).arbitrate) (.next (h.badReply x n)))

theorem execAppliedSetpointReport (n v : Nat) (h : Booked s) : BookedNext (execAppliedSetpointReport n v s) := by
  unfold Machine.execAppliedSetpointReport
  split
  · exact .next h
  · exact .next (ite (h.of_books (by simp)) (h.of_books rfl))

theorem execGateReport (n : Nat) (w : Switch) (g : Nat) (b : Bool) (h : Booked s) :
    BookedNext (execGateReport n w g b s) := by
  unfold Machine.execGateReport
  dsimp only
  split
  · exact .next h
  · next rest _ =>
    have hrest : Booked { s with mail.gates := rest } := h.of_books rfl
    exact .next (hrest.takeGate _).arbitrate

theorem execMeterReading (n v : Nat) (b : Bool) (h : Booked s) : BookedNext (execMeterReading n v b s) := by
  unfold Machine.execMeterReading
  dsimp only
  split
  · exact .next h
  · next rest _ =>
    have hrest : Booked { s with mail.readings := rest } := h.of_books rfl
    exact .next (hrest.takeReading _)

theorem execErrorReport (k : ErrorKind) (r : ErrorRef) (h : Booked s) : BookedNext (execErrorReport k r s) := by
  unfold Machine.execErrorReport
  split
  · exact .next h
  · exact .next (h.of_books rfl)

theorem execHoldRequest (h : Booked s) : BookedNext (execHoldRequest s) := by
  unfold Machine.execHoldRequest
  split
  · exact .next h
  · exact .next (h.of_books (by simp))

/-! #### Sweep steps (chapter 9) -/

theorem execCurtailStep (h : Booked s) : BookedNext (execCurtailStep s) := by
  unfold Machine.execCurtailStep
  split
  · exact .next h
  · next w _ => exact .next (h.curtailVisit w).arbitrate

theorem execSupplyBumpStep (h : Booked s) : BookedNext (execSupplyBumpStep s) := by
  unfold Machine.execSupplyBumpStep
  split
  · exact .next h
  · next w _ => exact .next (h.bumpVisit w).arbitrate

theorem execPeriodCloseStep (h : Booked s) : BookedNext (execPeriodCloseStep s) := by
  unfold Machine.execPeriodCloseStep
  split
  · exact .next h
  · next w _ => exact .next (h.closeVisit w)

theorem execSeasonOpenStep (h : Booked s) : BookedNext (execSeasonOpenStep s) := by
  unfold Machine.execSeasonOpenStep
  split
  · exact .next h
  · next w _ => exact .next (h.seasonVisit w)

theorem execSweepEnd (h : Booked s) : BookedNext (execSweepEnd s) := by
  unfold Machine.execSweepEnd
  split
  · exact .next h
  · have hclosed : Booked (s.closeSweep .done) := h.of_books rfl
    exact .ite (.next hclosed.reexamine.arbitrate) (.next h)

/-! #### Every command -/

/-- An event that is no request. -/
theorem exec_event {c : Instr} (hc : (requestBytes c).isSome = false) (h : Booked s) : BookedNext (exec c s) := by
  cases c
  case command m => exact h.execCommand m
  case fetch bits => exact h.execFetch bits
  case status piece => exact .next (h.of_books rfl)
  case ignoredTransaction m => exact .next (h.of_books rfl)
  case resetAsserted => exact h.execResetAsserted
  case orphanCompletion => exact h.execOrphanCompletion
  case powerOn => exact .next (powerOn.of_books rfl)
  case powerOnInitComplete => exact .next (ite (h.of_books rfl) h)
  case minuteEdge => exact .next (ite (h.of_books (by simp)) h)
  case orderBookBoundary => exact h.execOrderBookBoundary
  case scheduledOrderNotice n => exact h.execScheduledOrderNotice n
  case releaseControlBoundary => exact h.execReleaseControlBoundary
  case meterBoundary => exact h.execMeterBoundary
  case sweepBoundary => exact h.execSweepBoundary
  case pollIntervalElapsed a => exact .ite (.next (h.of_books (by simp))) (.next h)
  case attemptDeadline => exact h.execAttemptDeadline
  case fieldReply f => exact h.execFieldReply f
  case appliedSetpointReport n v => exact h.execAppliedSetpointReport n v
  case gateReport n w g b => exact h.execGateReport n w g b
  case meterReading n v b => exact h.execMeterReading n v b
  case errorReport k r => exact h.execErrorReport k r
  case holdRequest => exact h.execHoldRequest
  case curtailStep => exact h.execCurtailStep
  case supplyBumpStep => exact h.execSupplyBumpStep
  case periodCloseStep => exact h.execPeriodCloseStep
  case seasonOpenStep => exact h.execSeasonOpenStep
  case sweepEnd => exact h.execSweepEnd
  case resetReleased => exact .next (h.of_books rfl)
  case powerOff => exact .next (powerOn.of_books rfl)
  case replyKindByte a k => exact h.execReplyKindByte a k
  case outFrameSent => exact h.execOutFrameSent
  all_goals cases hc

theorem exec (c : Instr) (h : Booked s) : BookedNext (exec c s) := by
  cases hc : (requestBytes c).isSome with
  | false => exact h.exec_event hc
  | true =>
    cases hp : isPlace c with
    | true =>
      cases c
      case place p u d f o l n => exact h.execPlace p u d f o l n
      all_goals cases hp
    | false =>
      by_cases hs : c = .softReset
      · subst hs
        exact .ite (.next h.warmReset) (.next h)
      · exact h.exec_request hc hp hs

theorem step (h : Booked s) : BookedNext (step s) := by
  unfold Machine.step
  split
  · exact .next h
  · next c rest _ =>
    have hrest : Booked { s with pending := rest } := h.of_books rfl
    exact hrest.exec c

end Booked

/-- Settles O59: the two figures of an account are sums over its orders; an order that is written or freed moves the
sums and the figures by the same amount, and nothing else moves either. -/
theorem stepKeepsTheBookedFigures : Obligations.StepKeepsTheBookedFigures :=
  fun s t h hs => (booked_iff t).2 (((booked_iff s).1 h).step t hs)

end Sys2Proof.Machine
end

section
/-! RETIRE and NEXT_CHANGED (R60, R70). -/

namespace Sys2Proof.Machine

/-- The finished states (R41). -/
theorem Order.finished_iff (o : Order) :
    o.live = false ↔ o.state = .closed ∨ o.state = .cancelled ∨ o.state = .expired := by
  unfold Order.live
  cases o.state <;> simp

/-! ### RETIRE (R60) -/

theorem nextGeneration_eq (i g : Nat) :
    nextGeneration i g = if g + 1 < (if i = 2047 then 31 else 32) then g + 1 else 0 := by
  unfold nextGeneration
  split_ifs <;> omega

theorem State.retireEntry_cell? (s : State) (i j : Nat) :
    cell? (s.retireEntry i).obk.orders j = if j = i then none else cell? s.obk.orders j :=
  cell?_delCell _ _ _

theorem State.retireEntry_generation (s : State) (i j : Nat) :
    (s.retireEntry i).obk.generation j =
      if j = i then nextGeneration i (s.obk.generation i) else s.obk.generation j :=
  valueAt_setValue _ _ _ _ _

section

variable {s : State} {h i : Nat} {o : Order}

theorem reqRetire_unnamed (hn : s.obk.named? h = none) : reqRetire h s = (s, refusal .noSuchOrder) := by
  simp only [reqRetire, hn]

theorem reqRetire_live (hn : s.obk.named? h = some (i, o)) (hl : o.live = true) :
    reqRetire h s = (s, refusal .wrongState) := by
  simp only [reqRetire, hn, hl, if_true]

theorem reqRetire_finished (hn : s.obk.named? h = some (i, o)) (hl : o.live = false) :
    reqRetire h s = (s.retireEntry i, doneReply) := by
  simp [reqRetire, hn, hl]

/-! ### NEXT_CHANGED (R70) -/

theorem reqNextChanged_unmarked (hm : s.obk.marks = []) : reqNextChanged s = (s, answer .nothing []) := by
  simp only [reqNextChanged, hm]

theorem reqNextChanged_marked {rest : List Nat} (hm : s.obk.marks = i :: rest) (ho : cell? s.obk.orders i = some o) :
    reqNextChanged s = ({ s with obk.marks := rest },
      answer .done (be16 (s.obk.handle i) ++ be8 o.state.code ++ opt8 (o.closeReason.map CloseReason.code) ++
        opt8 (o.suspendReason.map SuspendReason.code) ++ be16 rest.length)) := by
  simp only [reqNextChanged, hm, ho]

end

/-- Settles O27: RETIRE frees the entry of a finished order with retireEntry; the first mark is the lowest, as
marks are kept in rising order. -/
theorem retireFreesAndNextChangedReports : Obligations.RetireFreesAndNextChangedReports := by
  refine fun s hrise => ⟨fun h hh => ⟨fun hn => ?unnamed, fun i o hn => ⟨fun hc hx he => ?live, fun hf => ?finished⟩⟩,
    fun hh => ⟨fun hm => ?unmarked, fun i rest o hm ho => ?marked⟩⟩
  case unnamed => exact refuses_of_handed rfl hh (reqRetire_unnamed hn)
  case live =>
    have hl : o.live = true := by
      rw [← Bool.not_eq_false, o.finished_iff]
      rintro (h | h | h) <;> contradiction
    exact refuses_of_handed rfl hh (reqRetire_live hn hl)
  case finished =>
    refine ⟨s.retireEntry i, completes_of_handed rfl hh (reqRetire_finished hn (o.finished_iff.2 hf)) rfl, rfl,
      s.retireEntry_cell? i, fun j => ?_⟩
    rw [s.retireEntry_generation, nextGeneration_eq]
    by_cases hj : j = i
    · rw [if_pos hj, if_neg (not_not.2 hj)]
    · rw [if_neg hj, if_pos hj]
  case unmarked => exact completes_unchanged rfl hh (reqNextChanged_unmarked hm)
  case marked =>
    rw [hm, List.pairwise_cons] at hrise
    refine ⟨fun j hj => ?_, fun hi => Nat.lt_irrefl i (hrise.1 i hi),
      completes_of_handed rfl hh (reqNextChanged_marked hm ho) rfl⟩
    rw [hm] at hj
    rcases List.mem_cons.1 hj with rfl | hj
    · exact le_rfl
    · exact (hrise.1 j hj).le

end Sys2Proof.Machine
end

section
/-! What a PLACE that is handed over comes to (R45 to R50). -/

namespace Sys2Proof.Machine

/-! ### Turnouts -/

theorem State.turnout?_eq_some {s : State} {n : Nat} {p : Point} (hp : s.point? n = some p)
    (hk : p.kind = .turnout) : s.turnout? n = some p := by
  simp [State.turnout?, hp, hk]

theorem State.turnout?_eq_none {s : State} {n : Nat} (h : ∀ p, s.point? n = some p → p.kind ≠ .turnout) :
    s.turnout? n = none := by
  unfold State.turnout?
  split
  · next p hp => exact if_neg (h p hp)
  · rfl

/-! ### The answer of a PLACE -/

theorem Result.refuses_iff (r : Result) : r.refuses = true ↔ 16 ≤ r.code := decide_eq_true_iff

section

variable {s t : State} {p u d f o l n : Nat} {q : Ask} {a : Reply}

/-- A PLACE that is handed over and answered completes with what its block makes of the state. -/
theorem completes_place (hh : s.handed (.place p u d f o l 96) = true) (h : reqPlace p u d f o l n s = (t, some a)) :
    Completes (.place p u d f o l n) s t a := by
  obtain ⟨-, -, -, g, hg, -⟩ := (s.handed_iff _).1 hh
  obtain ⟨-, -, hport, -⟩ := State.fixed_fields (reqPlace_fixed s p u d f o l n)
  have hcommand : (reqPlace p u d f o l n s).1.port.command = some g := (congrArg Port.command hport).trans hg
  refine ⟨g, hg, ?_⟩
  rw [exec_place_answered hh (congrArg Prod.snd h), Port.complete_of_command hcommand, h]

theorem reqPlace_refuses (hq : hostAsk p u d f o l = some q) (he : placeEvent q n s = (t, some a))
    (ha : a.result.refuses = true) : reqPlace p u d f o l n s = (t, some a) := by
  simp [reqPlace, hq, he, ha]

theorem reqPlace_creates (hq : hostAsk p u d f o l = some q) (he : placeEvent q n s = (t, some a))
    (ha : a.result.refuses = false) : reqPlace p u d f o l n s = (t.arbitrate, some a) := by
  simp [reqPlace, hq, he, ha]

theorem reqPlace_searching (hq : hostAsk p u d f o l = some q) (he : placeEvent q n s = (t, none)) :
    reqPlace p u d f o l n s = (t, none) := by
  simp [reqPlace, hq, he]

/-- What the state is with no search going on, when none was. -/
theorem State.search_over (hs : s.obk.search = none) : { s with obk.search := none } = s := by
  rw [← hs]

theorem State.createdReply_result (r : Result) (h : Nat) (s : State) : (s.createdReply r h).result = r := by
  unfold State.createdReply
  split <;> rfl

end

end Sys2Proof.Machine
end

section
/-! The slide of a PLACE to a later start (R48). -/

namespace Sys2Proof.Machine

section

variable {s : State} {q : Ask} {reach account k n tries : Nat} {failure : Reply}

theorem State.pastHorizon_iff (s : State) (e : Nat) : s.pastHorizon e = true ↔ s.obk.slot + 672 < e :=
  decide_eq_true_iff

theorem State.releaseWithin_iff (s : State) (margin start lag : Nat) :
    s.releaseWithin margin start lag = true ↔ start < lag + s.obk.slot + 1 + margin := decide_eq_true_iff

/-! ### The tries, one by one -/

/-- The try at a distance fails and leaves the search to the next. -/
def State.tryFails (s : State) (q : Ask) (reach account j : Nat) : Prop :=
  ¬s.obk.slot + 672 < q.start + j + q.duration ∧
    (q.start + j < lagOf s.cal.reaches reach + s.obk.slot + 1 ∨
      ∃ r, s.tryWindow q.point reach account (q.start + j) q.duration q.flow none = .error r ∧
        r.result ≠ .allocationShort)

theorem State.slideTries_exhausted (hk : q.limit < k) :
    s.slideTries q reach account failure tries k = (s, .refused failure) := by
  cases tries <;> simp [State.slideTries, hk]

theorem State.slideTries_paused (hk : k ≤ q.limit) :
    s.slideTries q reach account failure 0 k = (s, .searching { next := k, failure := failure }) := by
  simp [State.slideTries, Nat.not_lt.2 hk]

/-- A try within the limit, by its tests in order. -/
theorem State.slideTries_succ (hk : k ≤ q.limit) :
    s.slideTries q reach account failure (tries + 1) k =
      if s.pastHorizon (q.start + k + q.duration) then (s, .refused failure)
      else if s.releaseWithin 0 (q.start + k) (lagOf s.cal.reaches reach) then
        s.slideTries q reach account failure tries (k + 1)
      else
        match s.tryWindow q.point reach account (q.start + k) q.duration q.flow none with
        | .ok c => s.admitOrder q account (q.start + k) k c .slid
        | .error r =>
          if r.result = .allocationShort then (s, .refused (refusal .allocationShort))
          else s.slideTries q reach account failure tries (k + 1) := by
  rw [State.slideTries, if_neg (Nat.not_lt.2 hk)] <;> rfl

theorem State.slideTries_fails (hk : k ≤ q.limit) (hf : s.tryFails q reach account k) :
    s.slideTries q reach account failure (tries + 1) k = s.slideTries q reach account failure tries (k + 1) := by
  obtain ⟨hfar, hf⟩ := hf
  rw [State.slideTries_succ hk, if_neg (mt (s.pastHorizon_iff _).1 hfar)]
  by_cases hpast : s.releaseWithin 0 (q.start + k) (lagOf s.cal.reaches reach) = true
  · exact if_pos hpast
  · obtain ⟨r, hr, hne⟩ := hf.resolve_left (mt (s.releaseWithin_iff 0 _ _).2 hpast)
    rw [if_neg hpast, hr]
    exact if_neg hne

/-- The tries that fail are passed over. -/
theorem State.slideTries_skips (hkn : k ≤ n) (hn : n ≤ q.limit + 1)
    (hf : ∀ j, k ≤ j → j < n → s.tryFails q reach account j) :
    s.slideTries q reach account failure (n - k + tries) k = s.slideTries q reach account failure tries n := by
  induction hkn using Nat.decreasingInduction with
  | self => rw [Nat.sub_self, Nat.zero_add]
  | of_succ k hlt ih =>
    rw [show n - k + tries = n - (k + 1) + tries + 1 by omega,
      State.slideTries_fails (by omega) (hf k le_rfl hlt)]
    exact ih fun j hj => hf j (by omega)

/-! ### The ends of a search -/

theorem State.slideTries_far (hk : k ≤ q.limit) (hfar : s.obk.slot + 672 < q.start + k + q.duration) :
    s.slideTries q reach account failure (tries + 1) k = (s, .refused failure) := by
  rw [State.slideTries_succ hk]
  exact if_pos ((s.pastHorizon_iff _).2 hfar)

/-- A try within horizon whose head release slot is to come is decided by checks 5 to 7. -/
theorem State.slideTries_decided (hk : k ≤ q.limit) (hfar : ¬s.obk.slot + 672 < q.start + k + q.duration)
    (hpast : ¬q.start + k < lagOf s.cal.reaches reach + s.obk.slot + 1) :
    s.slideTries q reach account failure (tries + 1) k =
      match s.tryWindow q.point reach account (q.start + k) q.duration q.flow none with
      | .ok c => s.admitOrder q account (q.start + k) k c .slid
      | .error r =>
        if r.result = .allocationShort then (s, .refused (refusal .allocationShort))
        else s.slideTries q reach account failure tries (k + 1) := by
  rw [State.slideTries_succ hk, if_neg (mt (s.pastHorizon_iff _).1 hfar),
    if_neg (mt (s.releaseWithin_iff 0 _ _).1 hpast)]

end

end Sys2Proof.Machine
end

section
/-! The slide of a PLACE as a request: from its asked start, and taken up again (R48). -/

namespace Sys2Proof.Machine

section

variable {s t : State} {p u d f l n k : Nat} {q : Ask} {v : Point} {failure a : Reply} {w : Search}

/-- The values of a PLACE with SLIDE. -/
def slideAsk (p u d f l : Nat) : Ask :=
  { point := p, start := u, duration := d, flow := f, conflict := .slide, limit := l, origin := .host }

/-- A SLIDE that fails at its asked start, by OVERLAP with the volume available or by CAPACITY_SHORT. -/
theorem State.placeFirst_slides (hr : s.placeRefused q = none) (hv : s.turnout? q.point = some v)
    (hsoon : lagOf s.cal.reaches v.reach + s.obk.slot + 1 + s.settings.lead ≤ q.start)
    (hfar : q.start + q.duration ≤ s.obk.slot + 672) (hslide : q.conflict = .slide)
    (htry : s.tryWindow q.point v.reach (v.account.getD 0) q.start q.duration q.flow none = .error failure)
    (hfail : failure.result = .capacityShort ∨
      failure.result = .overlap ∧ s.affords (v.account.getD 0) q.volume = true) :
    s.placeFirst q n = s.slideTries q v.reach (v.account.getD 0) failure n 1 := by
  have hsoon' : s.tooSoon q.start (lagOf s.cal.reaches v.reach) = false :=
    decide_eq_false (Nat.not_lt.2 hsoon)
  have hfar' : s.pastHorizon (q.start + q.duration) = false := decide_eq_false (Nat.not_lt.2 hfar)
  unfold State.placeFirst
  simp only [hr, hv, hsoon', hfar', htry, hslide, Bool.false_eq_true, if_false]
  rcases hfail with hcap | ⟨hover, haff⟩
  · rw [hcap]
  · rw [hover]
    exact if_pos haff

theorem State.placeNext_slides (hr : s.placeRefused q = none) (hv : s.turnout? q.point = some v) :
    s.placeNext q n { next := k, failure := failure } = s.slideTries q v.reach (v.account.getD 0) failure n k := by
  simp only [State.placeNext, hr, hv]

/-! ### What an event that the search ends, or does not, comes to -/

variable {r : State × Placed} (hh : s.handed (.place p u d f 1 l 96) = true)
  (he : placeEvent (slideAsk p u d f l) n s = eventOf r)

include hh he

theorem completes_slide_refused (hr : r = (s, .refused a)) (ha : 16 ≤ a.result.code) :
    Completes (.place p u d f 1 l n) s { s with obk.search := none } a := by
  subst hr
  exact completes_place hh (reqPlace_refuses rfl he ((Result.refuses_iff _).2 ha))

theorem completes_slide_created {h : Nat} (hr : r = (t, .created .slid h)) :
    Completes (.place p u d f 1 l n) s ({ t with obk.search := none } : State).arbitrate
      (t.createdReply .slid h) := by
  subst hr
  refine completes_place hh (reqPlace_creates rfl he ?_)
  rw [State.createdReply_result]
  rfl

theorem exec_slide_searching (hr : r = (s, .searching w)) :
    exec (.place p u d f 1 l n) s = .next { s with obk.search := some w } := by
  subst hr
  have hreq : reqPlace p u d f 1 l n s = ({ s with obk.search := some w }, none) := reqPlace_searching rfl he
  rw [exec_place_searching hh (congrArg Prod.snd hreq), hreq]

end

/-- Settles O24: tries that fail are passed over until one ends the search, and an event of a PLACE with SLIDE is
one run of tries. -/
theorem placeSlidesToALaterStart : Obligations.PlaceSlidesToALaterStart := by
  constructor
  · intro s q reach account k n tries failure far atTry past fails hkn hf
    have skip : ∀ m, n ≤ q.limit + 1 → tries = n - k + m →
        s.slideTries q reach account failure tries k = s.slideTries q reach account failure m n :=
      fun m hn hm => hm ▸ State.slideTries_skips hkn hn hf
    have reach_try : n ≤ q.limit → n - k < tries → ∃ m,
        s.slideTries q reach account failure tries k = s.slideTries q reach account failure (m + 1) n :=
      fun hn hlt => ⟨tries - (n - k) - 1, skip _ (by omega) (by omega)⟩
    refine ⟨fun hn hlt hfar => ?_, fun hn hlt hfar hpast e he hshort => ?_, fun hn hlt hfar hpast ring hok => ?_,
      fun hn hle => ?_, fun hn hlt => ?_⟩
    · obtain ⟨m, hm⟩ := reach_try hn hlt
      rw [hm, State.slideTries_far hn hfar]
    · obtain ⟨m, hm⟩ := reach_try hn hlt
      rw [hm, State.slideTries_decided hn hfar hpast, show s.tryWindow _ _ _ _ _ _ _ = .error e from he]
      exact if_pos hshort
    · obtain ⟨m, hm⟩ := reach_try hn hlt
      rw [hm, State.slideTries_decided hn hfar hpast, show s.tryWindow _ _ _ _ _ _ _ = .ok ring from hok]
    · rw [skip (tries - (n - k)) hn.le (by omega), State.slideTries_exhausted (by omega)]
    · rw [skip 0 (by omega) (by omega), State.slideTries_paused hn]
  · intro s n start d flow limit tries p first failure hh c q hr hp hk hstart r
    have hv := State.turnout?_eq_some hp hk
    have he : placeEvent (slideAsk n start d flow limit) tries s = eventOf r := by
      rcases hstart with ⟨hs, rfl, hsoon, hfar, htry, hfail⟩ | hs
      · rw [placeEvent_first _ _ hs]
        exact congrArg eventOf (State.placeFirst_slides hr hv hsoon hfar rfl htry hfail)
      · rw [placeEvent_next _ _ hs]
        exact congrArg eventOf (State.placeNext_slides hr hv)
    exact ⟨fun a hr ha => completes_slide_refused hh he hr ha, fun s1 h hr => completes_slide_created hh he hr,
      fun w hr => exec_slide_searching hh he hr⟩

end Sys2Proof.Machine
end

section
/-! The chains are sorted, and the overlap test finds the earliest order of the point chain (R43, R44, R46). -/

namespace Sys2Proof.Machine

/-! ### Sorted lists -/

theorem pairwise_insertBy {α : Type} {before : α → α → Bool} (htotal : ∀ x y, before x y = true → before y x = false)
    (htrans : ∀ x y z, before y x = false → before z y = false → before z x = false) (x : α) {l : List α}
    (h : l.Pairwise fun y z => before z y = false) :
    (insertBy before x l).Pairwise fun y z => before z y = false := by
  induction l with
  | nil => exact List.pairwise_singleton _ _
  | cons y l ih =>
    obtain ⟨hy, hl⟩ := List.pairwise_cons.1 h
    unfold insertBy
    split
    · next hxy =>
      have hxy' := htotal x y hxy
      refine List.pairwise_cons.2 ⟨fun z hz => ?_, h⟩
      rcases List.mem_cons.1 hz with rfl | hz
      · exact hxy'
      · exact htrans x y z hxy' (hy z hz)
    · next hxy =>
      refine List.pairwise_cons.2 ⟨fun z hz => ?_, ih hl⟩
      rcases List.mem_cons.1 ((insertBy_perm before x l).mem_iff.1 hz) with rfl | hz
      · exact eq_false_of_ne_true hxy
      · exact hy z hz

theorem pairwise_sortBy {α : Type} {before : α → α → Bool} (htotal : ∀ x y, before x y = true → before y x = false)
    (htrans : ∀ x y z, before y x = false → before z y = false → before z x = false) (l : List α) :
    (sortBy before l).Pairwise fun y z => before z y = false := by
  induction l with
  | nil => exact List.Pairwise.nil
  | cons x l ih => exact pairwise_insertBy htotal htrans x ih

/-- Chain order, equal starts and sequences included (R43). -/
def chainLe (x y : Nat × Order) : Prop :=
  x.2.start < y.2.start ∨ x.2.start = y.2.start ∧ x.2.sequence ≤ y.2.sequence

theorem chainBefore_iff (x y : Nat × Order) :
    chainBefore x y = true ↔ x.2.start < y.2.start ∨ x.2.start = y.2.start ∧ x.2.sequence < y.2.sequence := by
  simp [chainBefore]

theorem chainLe_iff (x y : Nat × Order) : chainLe x y ↔ chainBefore y x = false := by
  rw [← Bool.not_eq_true, chainBefore_iff, chainLe]
  omega

theorem sorted_sortBy_chainBefore (l : List (Nat × Order)) : (sortBy chainBefore l).Pairwise chainLe := by
  refine (pairwise_sortBy (fun x y hxy => ?_) (fun x y z hxy hyz => ?_) l).imp fun h => (chainLe_iff _ _).2 h
  · rw [chainBefore_iff] at hxy
    rw [← chainLe_iff, chainLe]
    omega
  · rw [← chainLe_iff, chainLe] at *
    omega

/-- The first element that a test admits is the least of those. -/
theorem find?_least {α : Type} {r : α → α → Prop} {l : List α} {p : α → Bool} {x y : α} (hrefl : r x x)
    (hl : l.Pairwise r) (hx : l.find? p = some x) (hy : y ∈ l) (hp : p y = true) : r x y := by
  obtain ⟨-, as, bs, rfl, has⟩ := List.find?_eq_some_iff_append.1 hx
  obtain ⟨-, hbs, -⟩ := List.pairwise_append.1 hl
  rcases List.mem_append.1 hy with hy | hy
  · have := has y hy
    simp [hp] at this
  · rcases List.mem_cons.1 hy with rfl | hy
    · exact hrefl
    · exact (List.pairwise_cons.1 hbs).1 y hy

/-! ### The overlap test (R44, R46) -/

theorem overlaps_iff (a b lo hi : Nat) : overlaps a b lo hi = true ↔ max lo a < min hi b := by
  simp only [overlaps, Bool.and_eq_true, decide_eq_true_iff]
  omega

/-- A live order of point n whose window overlaps [lo, hi). -/
def Order.meets (o : Order) (n lo hi : Nat) : Prop :=
  o.point = n ∧ o.live = true ∧ max lo o.start < min hi o.deliveryEnd

section

variable {b : OrderBook} {n lo hi : Nat} {e : Nat × Order}

theorem OrderBook.mem_pointChain : e ∈ b.pointChain n ↔ e ∈ b.orders ∧ e.2.point = n ∧ e.2.live = true := by
  simp [OrderBook.pointChain, mem_sortBy]

theorem OrderBook.overlapping_eq_none :
    b.overlapping n lo hi none = none ↔ ∀ e ∈ b.orders, ¬e.2.meets n lo hi := by
  unfold OrderBook.overlapping
  rw [List.find?_eq_none]
  simp only [OrderBook.mem_pointChain, overlaps_iff, Bool.and_eq_true, decide_eq_true_iff, Order.meets]
  exact ⟨fun h e he hm => h e ⟨he, hm.1, hm.2.1⟩ ⟨nofun, hm.2.2⟩, fun h e he hm => h e he.1 ⟨he.2.1, he.2.2, hm.2⟩⟩

theorem OrderBook.overlapping_exists (h : ∃ e ∈ b.orders, e.2.meets n lo hi) :
    ∃ e, b.overlapping n lo hi none = some e := by
  obtain ⟨e, he, hm⟩ := h
  refine Option.ne_none_iff_exists'.1 fun hn => ?_
  exact OrderBook.overlapping_eq_none.1 hn e he hm

theorem OrderBook.overlapping_eq_some (h : b.overlapping n lo hi none = some e) :
    e ∈ b.orders ∧ e.2.meets n lo hi ∧ ∀ x ∈ b.orders, x.2.meets n lo hi → chainLe e x := by
  have hmem := OrderBook.mem_pointChain.1 (List.mem_of_find?_eq_some h)
  have hmeets := List.find?_some h
  simp only [overlaps_iff, Bool.and_eq_true, decide_eq_true_iff] at hmeets
  refine ⟨hmem.1, ⟨hmem.2.1, hmem.2.2, hmeets.2⟩, fun x hx hm => ?_⟩
  refine find?_least (Or.inr ⟨rfl, le_rfl⟩) (sorted_sortBy_chainBefore _) h
    (OrderBook.mem_pointChain.2 ⟨hx, hm.1, hm.2.1⟩) ?_
  simp only [overlaps_iff, Bool.and_eq_true, decide_eq_true_iff]
  exact ⟨nofun, hm.2.2⟩

end

end Sys2Proof.Machine
end

section
/-! The checks of a PLACE, one by one, and what its first event comes to past them (R45, R46). -/

namespace Sys2Proof.Machine

/-! ### The free entry with the lowest table index (R38) -/

theorem firstFree_least {t : Table Order} {n k i : Nat} (h : firstFree t n k = some i) :
    ∀ j, k ≤ j → j < i → cell? t j ≠ none := by
  induction n generalizing k with
  | zero => cases h
  | succ n ih =>
    unfold firstFree at h
    split_ifs at h with hk
    · cases h
      omega
    · intro j hkj hji
      rcases Nat.eq_or_lt_of_le hkj with rfl | hlt
      · simpa using hk
      · exact ih h j hlt hji

theorem firstFree_exists {t : Table Order} {n k i : Nat} (hk : k ≤ i) (hi : i < k + n) (hc : cell? t i = none) :
    ∃ j, firstFree t n k = some j := by
  induction n generalizing k with
  | zero => omega
  | succ n ih =>
    unfold firstFree
    split_ifs with h
    · exact ⟨k, rfl⟩
    · refine ih (Nat.lt_of_le_of_ne hk ?_) (by omega)
      rintro rfl
      simp [hc] at h

/-- The lowest free table index is found when some entry is free. -/
theorem OrderBook.freeEntry_exists {b : OrderBook} (h : ∃ i, i < 2048 ∧ cell? b.orders i = none) :
    ∃ i, b.freeEntry = some i := by
  obtain ⟨i, hi, hc⟩ := h
  exact firstFree_exists (Nat.zero_le i) (by simpa [Config.orders] using hi) hc

theorem OrderBook.freeEntry_eq_none {b : OrderBook} (h : ¬∃ i, i < 2048 ∧ cell? b.orders i = none) :
    b.freeEntry = none := by
  cases hf : b.freeEntry with
  | none => rfl
  | some i =>
    obtain ⟨hc, hi⟩ := OrderBook.freeEntry_spec hf
    exact absurd ⟨i, hi, hc⟩ h

/-! ### Checks 1 to 3 (R45) -/

/-- A parameter of an ask lies outside its range (R45, check 1). -/
def Ask.outOfRange (q : Ask) : Prop :=
  1023 < q.point ∨ q.duration < 1 ∨ 192 < q.duration ∨ q.flow < 1 ∨ 2000 < q.flow ∨
    (q.conflict = .slide ∧ (q.limit < 1 ∨ 96 < q.limit))

section

variable {s : State} {q : Ask} {p : Point} {i : Nat} {a : Account}

theorem State.openAccount?_eq_some (hn : p.account = some i) (ha : s.account? i = some a)
    (ho : a.state = .opened) : s.openAccount? p = some a := by
  simp [State.openAccount?, hn, ha, ho]

theorem State.openAccount?_eq_none
    (h : ¬∃ i a, p.account = some i ∧ s.account? i = some a ∧ a.state = .opened) : s.openAccount? p = none := by
  unfold State.openAccount?
  split
  · rfl
  · next a ha =>
    obtain ⟨i, hi, ha⟩ := Option.bind_eq_some_iff.1 ha
    exact if_neg fun ho => h ⟨i, a, hi, ha, ho⟩

theorem State.placeRefused_range (hr : q.outOfRange) : s.placeRefused q = some .badParam := if_pos hr

section

variable (hr : ¬q.outOfRange)

include hr

theorem State.placeRefused_point (hp : s.turnout? q.point = none) : s.placeRefused q = some .noSuchPoint := by
  unfold State.placeRefused
  rw [hp]
  exact if_neg hr

/-- Past the ranges of a turnout's PLACE, the account and the tables decide. -/
theorem State.placeRefused_turnout (hp : s.turnout? q.point = some p) :
    s.placeRefused q = if p.rated < q.flow then some .badParam else
      match s.openAccount? p with
      | none => some .accountNotOpen
      | some a =>
        if s.obk.freeEntry.isNone ∨ Config.counterMax ≤ s.obk.sequence then some .tableFull
        else if Config.liveOrders ≤ a.live then some .accountOrderLimit
        else none := by
  unfold State.placeRefused
  rw [hp]
  exact if_neg hr

variable (hp : s.turnout? q.point = some p)

include hp

theorem State.placeRefused_rated (hf : p.rated < q.flow) : s.placeRefused q = some .badParam :=
  (State.placeRefused_turnout hr hp).trans (if_pos hf)

variable (hf : ¬p.rated < q.flow)

include hf

theorem State.placeRefused_notOpen (ho : s.openAccount? p = none) : s.placeRefused q = some .accountNotOpen := by
  rw [State.placeRefused_turnout hr hp, if_neg hf, ho]

variable (ho : s.openAccount? p = some a)

include ho

theorem State.placeRefused_full
    (h : ¬((∃ i, i < 2048 ∧ cell? s.obk.orders i = none) ∧ s.obk.sequence < 4294967295)) :
    s.placeRefused q = some .tableFull := by
  rw [State.placeRefused_turnout hr hp, if_neg hf, ho]
  refine if_pos ?_
  rcases not_and_or.1 h with h | h
  · exact Or.inl (by rw [OrderBook.freeEntry_eq_none h]; rfl)
  · exact Or.inr (Nat.le_of_not_lt h)

variable (hroom : (∃ i, i < 2048 ∧ cell? s.obk.orders i = none) ∧ s.obk.sequence < 4294967295)

include hroom

theorem State.placeRefused_room :
    s.placeRefused q = if Config.liveOrders ≤ a.live then some .accountOrderLimit else none := by
  obtain ⟨i, hi⟩ := OrderBook.freeEntry_exists hroom.1
  rw [State.placeRefused_turnout hr hp, if_neg hf, ho]
  refine if_neg ?_
  rintro (h | h)
  · simp [hi] at h
  · exact Nat.not_lt.2 h hroom.2

theorem State.placeRefused_limit (hl : 24 ≤ a.live) : s.placeRefused q = some .accountOrderLimit :=
  (State.placeRefused_room hr hp hf ho hroom).trans (if_pos hl)

theorem State.placeRefused_none (hl : a.live < 24) : s.placeRefused q = none :=
  (State.placeRefused_room hr hp hf ho hroom).trans (if_neg (Nat.not_le.2 hl))

end

/-! ### Checks 4 to 7 (R46) -/

theorem State.affords_iff {v : Nat} (ha : s.account? i = some a) : s.affords i v = true ↔ (v : Int) ≤ a.available := by
  unfold State.affords
  rw [ha]
  exact decide_eq_true_iff

section

variable {point reach account start duration flow : Nat} {e : Nat × Order} {except : Option Nat} {j t : Nat}
  {c : Calendar}

theorem State.tryWindow_overlap (h : s.obk.overlapping point start (start + duration) except = some e) :
    s.tryWindow point reach account start duration flow except =
      .error (answer .overlap (be16 (s.obk.handle e.1))) := by
  simp only [State.tryWindow, h]

variable (hn : s.obk.overlapping point start (start + duration) except = none)

include hn

theorem State.tryWindow_unaffordable (h : s.affords account (volume flow duration) = false) :
    s.tryWindow point reach account start duration flow except = .error (refusal .allocationShort) := by
  simp [State.tryWindow, hn, h]

variable (ha : s.affords account (volume flow duration) = true)

include ha

theorem State.tryWindow_short (h : s.cal.reserve reach start (start + duration) flow = .short j t) :
    s.tryWindow point reach account start duration flow except = .error (shortReply j t) := by
  simp [State.tryWindow, hn, ha, h]

theorem State.tryWindow_pass (h : s.cal.reserve reach start (start + duration) flow = .pass c) :
    s.tryWindow point reach account start duration flow except = .ok c := by
  simp [State.tryWindow, hn, ha, h]

end

/-! ### The first event -/

/-- An ask that checks 1 to 3 of R45 pass. -/
structure State.Takes (s : State) (q : Ask) (p : Point) (i : Nat) (a : Account) : Prop where
  range : ¬q.outOfRange
  turnout : s.turnout? q.point = some p
  rated : ¬p.rated < q.flow
  owner : p.account = some i
  account : s.account? i = some a
  opened : a.state = .opened
  room : (∃ i, i < 2048 ∧ cell? s.obk.orders i = none) ∧ s.obk.sequence < 4294967295
  live : a.live < 24

theorem State.tooSoon_eq_false {start lag : Nat} (h : ¬start < lag + s.obk.slot + 1 + s.settings.lead) :
    s.tooSoon start lag = false := decide_eq_false h

theorem State.pastHorizon_eq_false {e : Nat} (h : ¬s.obk.slot + 672 < e) : s.pastHorizon e = false :=
  decide_eq_false h

theorem State.placeFirst_refused {r : Result} (n : Nat) (h : s.placeRefused q = some r) :
    s.placeFirst q n = (s, .refused (refusal r)) := by
  simp only [State.placeFirst, h]

namespace State.Takes

variable {n : Nat} {c : Calendar} {r : Reply} (h : s.Takes q p i a)

include h

theorem placeRefused : s.placeRefused q = none :=
  State.placeRefused_none h.range h.turnout h.rated (State.openAccount?_eq_some h.owner h.account h.opened) h.room
    h.live

theorem tooSoon (hs : q.start < lagOf s.cal.reaches p.reach + s.obk.slot + 1 + s.settings.lead) :
    s.placeFirst q n = (s, .refused (refusal .tooSoon)) := by
  have hsoon : s.tooSoon q.start (lagOf s.cal.reaches p.reach) = true := decide_eq_true hs
  simp [State.placeFirst, h.placeRefused, h.turnout, hsoon]

variable (hs : ¬q.start < lagOf s.cal.reaches p.reach + s.obk.slot + 1 + s.settings.lead)

include hs

theorem beyond (hb : s.obk.slot + 672 < q.start + q.duration) :
    s.placeFirst q n = (s, .refused (refusal .beyondHorizon)) := by
  have hbeyond : s.pastHorizon (q.start + q.duration) = true := decide_eq_true hb
  simp [State.placeFirst, h.placeRefused, h.turnout, State.tooSoon_eq_false hs, hbeyond]

variable (hb : ¬s.obk.slot + 672 < q.start + q.duration)

include hb

/-- Past checks 1 to 4 the window is tried. -/
theorem admits (hok : s.tryWindow q.point p.reach i q.start q.duration q.flow none = .ok c) :
    s.placeFirst q n = s.admitOrder q i q.start 0 c .done := by
  simp [State.placeFirst, h.placeRefused, h.turnout, State.tooSoon_eq_false hs, State.pastHorizon_eq_false hb,
    h.owner, hok]

theorem fails (he : s.tryWindow q.point p.reach i q.start q.duration q.flow none = .error r)
    (hslide : q.conflict = .slide → r.result ≠ .overlap ∧ r.result ≠ .capacityShort)
    (hqueue : q.conflict = .queue → r.result ≠ .capacityShort) : s.placeFirst q n = (s, .refused r) := by
  simp only [State.placeFirst, h.placeRefused, h.turnout, State.tooSoon_eq_false hs, State.pastHorizon_eq_false hb,
    h.owner, Option.getD_some, he, Bool.false_eq_true, if_false]
  split
  · next hc hr => exact absurd hr (hslide hc).1
  · next hc hr => exact absurd hr (hslide hc).2
  · next hc hr => exact absurd hr (hqueue hc)
  · rfl

theorem slide_unaffordable (he : s.tryWindow q.point p.reach i q.start q.duration q.flow none = .error r)
    (hc : q.conflict = .slide) (hr : r.result = .overlap) (ha : s.affords i q.volume = false) :
    s.placeFirst q n = (s, .refused (refusal .allocationShort)) := by
  simp [State.placeFirst, h.placeRefused, h.turnout, State.tooSoon_eq_false hs, State.pastHorizon_eq_false hb,
    h.owner, he, hc, hr, ha]

theorem queues (he : s.tryWindow q.point p.reach i q.start q.duration q.flow none = .error r)
    (hc : q.conflict = .queue) (hr : r.result = .capacityShort) : s.placeFirst q n = s.queueOrder q i := by
  simp [State.placeFirst, h.placeRefused, h.turnout, State.tooSoon_eq_false hs, State.pastHorizon_eq_false hb,
    h.owner, he, hc, hr]

end State.Takes

end

end Sys2Proof.Machine
end

section
/-! PLACE refuses by its checks, in their order (R45, R46, R50). -/

namespace Sys2Proof.Machine

/-- The values of a host PLACE with one of the three on-conflicts. -/
def askOf (n start d flow limit : Nat) (k : OnConflict) : Ask :=
  { point := n, start := start, duration := d, flow := flow, conflict := k, limit := limit, origin := .host }

section

variable {s t : State} {n start d flow conflict limit tries i h : Nat} {k : OnConflict} {p : Point} {a : Account}
  {r : Reply} {q : Ask}

theorem hostAsk_eq (hk : OnConflict.ofCode? conflict = some k) :
    hostAsk n start d flow conflict limit = some (askOf n start d flow limit k) := by
  simp [hostAsk, hk, askOf]

/-- The three on-conflicts, by their codes. -/
theorem OnConflict.ofCode?_exists (h : ¬2 < conflict) : ∃ k, OnConflict.ofCode? conflict = some k ∧
    (k = .slide ↔ conflict = 1) ∧ (k = .queue ↔ conflict = 2) := by
  obtain rfl | rfl | rfl : conflict = 0 ∨ conflict = 1 ∨ conflict = 2 := by omega
  · exact ⟨.refuse, rfl, by decide, by decide⟩
  · exact ⟨.slide, rfl, by decide, by decide⟩
  · exact ⟨.queue, rfl, by decide, by decide⟩

/-- A first event that refuses ends the PLACE with the refusal. -/
theorem completes_place_refused (hh : s.handed (.place n start d flow conflict limit 96) = true)
    (hs : s.obk.search = none) (hq : hostAsk n start d flow conflict limit = some q)
    (hf : s.placeFirst q tries = (s, .refused r)) (hr : 16 ≤ r.result.code) :
    Completes (.place n start d flow conflict limit tries) s s r := by
  refine completes_place hh (reqPlace_refuses hq ?_ ((Result.refuses_iff _).2 hr))
  rw [placeEvent_first q tries hs, hf]
  exact Prod.ext (State.search_over hs) rfl

/-- A check of R45 that fails. -/
theorem refuses_place (hh : s.handed (.place n start d flow conflict limit 96) = true)
    (hs : s.obk.search = none) (hk : OnConflict.ofCode? conflict = some k) {c : Result}
    (hf : s.placeRefused (askOf n start d flow limit k) = some c) (hc : 16 ≤ c.code) :
    Refuses (.place n start d flow conflict limit tries) s c :=
  completes_place_refused hh hs (hostAsk_eq hk) (State.placeFirst_refused tries hf) hc

/-- A handed-over PLACE whose on-conflict is none of the three. -/
theorem refuses_place_noConflict (hh : s.handed (.place n start d flow conflict limit 96) = true)
    (h : 2 < conflict) : Refuses (.place n start d flow conflict limit tries) s .badParam :=
  completes_place hh (reqPlace_noConflict h)

end

/-- A parameter of a PLACE with one of the three on-conflicts lies outside its range, or its flow is above the rated
flow of its point (R45, check 1). -/
theorem askOf_outOfRange {n d flow conflict limit : Nat} (start : Nat) {k : OnConflict} {rated : Prop}
    (hk : k = .slide ↔ conflict = 1) (hc : ¬2 < conflict) :
    (1023 < n ∨ d < 1 ∨ 192 < d ∨ flow < 1 ∨ 2000 < flow ∨ 2 < conflict ∨
      (conflict = 1 ∧ (limit < 1 ∨ 96 < limit)) ∨ rated) ↔ (askOf n start d flow limit k).outOfRange ∨ rated := by
  simp only [Ask.outOfRange, askOf, hk, hc, false_or, or_assoc]

/-- Settles O22: checks 1 to 3 by placeRefused, check 4 by placeFirst, the overlap by the first order of the sorted
point chain that the test admits. -/
theorem placeRefusesByItsChecks : Obligations.PlaceRefusesByItsChecks := by
  intro s n start d flow conflict limit tries hh hs c badParam
  have conflicts : ¬badParam → ¬2 < conflict := fun hb h => hb (by simp only [badParam, h, true_or, or_true])
  refine ⟨fun hbad => ?bad, fun hb hnone => ?noPoint, fun hb p hp hkind => ?turnout⟩
  case bad =>
    by_cases hc : 2 < conflict
    · exact refuses_place_noConflict hh hc
    · obtain ⟨k, hk, hslide, -⟩ := OnConflict.ofCode?_exists hc
      refine refuses_place hh hs hk ?_ (by decide)
      by_cases hr : (askOf n start d flow limit k).outOfRange
      · exact State.placeRefused_range hr
      · obtain ⟨p, hp, hkind, hrated⟩ := ((askOf_outOfRange start hslide hc).1 hbad).resolve_left hr
        exact State.placeRefused_rated hr (State.turnout?_eq_some hp hkind) hrated
  case noPoint =>
    obtain ⟨k, hk, hslide, -⟩ := OnConflict.ofCode?_exists (conflicts hb)
    have hrange := (not_or.1 (mt (askOf_outOfRange start hslide (conflicts hb)).2 hb)).1
    exact refuses_place hh hs hk (State.placeRefused_point hrange (State.turnout?_eq_none hnone)) (by decide)
  case turnout =>
    obtain ⟨k, hk, hslide, hqueue⟩ := OnConflict.ofCode?_exists (conflicts hb)
    obtain ⟨hrange, hnot⟩ := not_or.1 (mt (askOf_outOfRange start hslide (conflicts hb)).2 hb)
    have hrated : ¬p.rated < flow := fun h => hnot ⟨p, hp, hkind, h⟩
    have hv := State.turnout?_eq_some hp hkind
    intro reach opened room lag
    refine ⟨fun ho => ?notOpen, fun ⟨i, a, hi, ha, ho⟩ hroom => ?full, fun hroom i a hi ha ho => ?account⟩
    case notOpen =>
      exact refuses_place hh hs hk
        (State.placeRefused_notOpen hrange hv hrated (State.openAccount?_eq_none ho)) (by decide)
    case full =>
      exact refuses_place hh hs hk
        (State.placeRefused_full hrange hv hrated (State.openAccount?_eq_some hi ha ho) hroom) (by decide)
    case account =>
      intro soon far overlap short
      have takes : a.live < 24 → s.Takes (askOf n start d flow limit k) p i a := fun hl =>
        { range := hrange, turnout := hv, rated := hrated, owner := hi, account := ha, opened := ho, room := hroom
          live := hl }
      have ends : ∀ {r : Reply}, s.placeFirst (askOf n start d flow limit k) tries = (s, .refused r) →
          16 ≤ r.result.code → Completes c s s r := completes_place_refused hh hs (hostAsk_eq hk)
      have alone : ¬overlap → s.obk.overlapping n start (start + d) none = none := fun hno =>
        OrderBook.overlapping_eq_none.2 fun e he hm => hno ⟨e, he, hm⟩
      have afford := State.affords_iff (v := volume flow d) ha
      refine ⟨fun hl => ?limit, fun hl hsoon => ?soon, fun hl hsoon hfar => ?far,
        fun hl hsoon hfar hover hc => ?overlap, fun hl hsoon hfar hover hshort => ?short,
        fun hl hsoon hfar hover hshort hc => ?slide, fun j t hl hsoon hfar hover hshort hc hres => ?capacity⟩
      case limit =>
        exact refuses_place hh hs hk
          (State.placeRefused_limit hrange hv hrated (State.openAccount?_eq_some hi ha ho) hroom hl) (by decide)
      case soon => exact ends ((takes hl).tooSoon hsoon) (by decide)
      case far => exact ends ((takes hl).beyond hsoon hfar) (by decide)
      case overlap =>
        obtain ⟨e, he⟩ := OrderBook.overlapping_exists hover
        obtain ⟨hmem, hmeets, hleast⟩ := OrderBook.overlapping_eq_some he
        refine ⟨e, hmem, hmeets.1, hmeets.2.1, hmeets.2.2, fun x hx hp hl hm => hleast x hx ⟨hp, hl, hm⟩, ?_⟩
        exact ends ((takes hl).fails hsoon hfar (State.tryWindow_overlap he)
          (fun h => absurd (hslide.1 h) hc) (fun _ => nofun)) (Nat.le_of_ble_eq_true rfl)
      case short =>
        refine ends ((takes hl).fails hsoon hfar (State.tryWindow_unaffordable (alone hover) ?_)
          (fun _ => ⟨nofun, nofun⟩) (fun _ => nofun)) (by decide)
        exact Bool.eq_false_of_not_eq_true fun h => absurd hshort (not_lt.2 (afford.1 h))
      case slide =>
        obtain ⟨e, he⟩ := OrderBook.overlapping_exists hover
        refine ends ((takes hl).slide_unaffordable hsoon hfar (State.tryWindow_overlap he) (hslide.2 hc) rfl ?_)
          (by decide)
        exact Bool.eq_false_of_not_eq_true fun h => absurd hshort (not_lt.2 (afford.1 h))
      case capacity =>
        refine ends ((takes hl).fails hsoon hfar
          (State.tryWindow_short (alone hover) (afford.2 (not_lt.1 hshort)) hres) (fun h => ?_) (fun h => ?_))
          (Nat.le_of_ble_eq_true rfl)
        · exact absurd (hslide.1 h) (by omega)
        · exact absurd (hqueue.1 h) (by omega)

end Sys2Proof.Machine
end

section
/-! PLACE admits an order, or queues it (R47, R49, R50). -/

namespace Sys2Proof.Machine

section

variable {s t : State} {q : Ask} {n start d flow conflict limit tries i acct x : Nat} {k : OnConflict} {p : Point}
  {a : Account} {r : Result} {c : Calendar} {o : Order}

/-! ### The order that is created -/

/-- The account of an order that is created: the order's share is reserved, and it counts as live (R42, R68). -/
def Account.withOrder (o : Order) (a : Account) : Account :=
  { a with reserved := a.reserved + o.share, live := a.live + o.liveCount }

/-- The state with an order of an account created in entry i. -/
def State.withOrder (i : Nat) (o : Order) (a : Account) (s : State) : State :=
  { s with
    obk.orders := setCell s.obk.orders i o
    obk.sequence := s.obk.sequence + 1
    accounts := setCell s.accounts o.account (a.withOrder o) }

theorem State.withRing_withOrder : (s.withRing c).withOrder i o a =
    { s.withRing c with
      obk := { s.obk with orders := setCell s.obk.orders i o, sequence := s.obk.sequence + 1 }
      accounts := setCell s.accounts o.account (a.withOrder o) } := by
  rw [State.withOrder, State.withRing_obk, show (s.withRing c).accounts = s.accounts by rw [State.withRing_frame]]

theorem State.createOrder_free (start slidBy : Nat) (st : OrderState) (ha : s.account? acct = some a)
    (hfree : cell? s.obk.orders i = none) : s.createOrder i q acct start slidBy st =
      s.withOrder i (q.order acct start slidBy (s.obk.sequence + 1) st) a := by
  have hshare : cellSum Order.share s.obk.orders i = 0 := cellSum_of_none hfree
  have hcount : cellSum Order.liveCount s.obk.orders i = 0 := cellSum_of_none hfree
  rw [State.createOrder_eq]
  refine (State.putOrder_eq (a := a) ha).trans ?_
  simp only [State.entered, hshare, hcount, Nat.sub_zero]
  rfl

/-- An admitted order reserves the whole volume that it asks, a queued one nothing; both count as live. -/
theorem Account.withOrder_admitted (start slidBy sequence : Nat) :
    a.withOrder (q.order acct start slidBy sequence .confirmed) =
      { a with reserved := a.reserved + q.volume, live := a.live + 1 } := rfl

theorem Account.withOrder_queued (start slidBy sequence : Nat) :
    a.withOrder (q.order acct start slidBy sequence .pendingWait) = { a with live := a.live + 1 } := rfl

theorem State.createdReply_eq (hn : s.obk.named? x = some (i, o)) : s.createdReply r x =
    { result := r
      data := be16 x ++ be32 o.start ++ be8 o.slidBy ++ be32 o.ordered ++ be32 o.sequence
      names := some x } := by
  simp only [State.createdReply, hn]

/-- The handle of a created order names it. -/
theorem State.withOrder_named? (hi : i < 2048) (ht : t.obk.orders = setCell s.obk.orders i o)
    (hg : t.obk.generations = s.obk.generations) : t.obk.named? (s.obk.handle i) = some (i, o) := by
  have hhandle : s.obk.handle i = t.obk.handle i := by simp only [OrderBook.handle, OrderBook.generation, hg]
  rw [hhandle]
  exact OrderBook.named?_handle hi (by rw [ht]; exact cell?_setCell_self _ _ _)

theorem State.admitOrder_free (start slidBy : Nat) (hi : s.obk.freeEntry = some i)
    (ha : s.account? acct = some a) : s.admitOrder q acct start slidBy c r =
      ((s.withRing c).withOrder i (q.order acct start slidBy (s.obk.sequence + 1) .confirmed) a,
        .created r (s.obk.handle i)) := by
  have hrung : (s.withRing c).account? acct = some a := by rwa [State.withRing_frame]
  have hfree : cell? (s.withRing c).obk.orders i = none := by
    rw [State.withRing_obk]
    exact (OrderBook.freeEntry_spec hi).1
  simp only [State.admitOrder, hi, State.createOrder_free _ _ _ hrung hfree, State.withRing_obk]

theorem State.queueOrder_free (hi : s.obk.freeEntry = some i) (ha : s.account? acct = some a)
    (hw : s.obk.waiting.length < 96) : s.queueOrder q acct =
      ((s.withOrder i (q.order acct q.start 0 (s.obk.sequence + 1) .pendingWait) a).joinWaiting (s.obk.handle i),
        .created .queued (s.obk.handle i)) := by
  simp only [State.queueOrder, hi, State.createOrder_free _ _ _ ha (OrderBook.freeEntry_spec hi).1]
  exact if_pos hw

theorem State.queueOrder_full (hi : s.obk.freeEntry = some i) (hw : 96 ≤ s.obk.waiting.length) :
    s.queueOrder q acct = (s, .refused (refusal .waitlistFull)) := by
  simp only [State.queueOrder, hi]
  exact if_neg (Nat.not_lt.2 hw)

/-! ### The PLACE that creates it -/

theorem completes_place_created (hh : s.handed (.place n start d flow conflict limit 96) = true)
    (hs : s.obk.search = none) (hq : hostAsk n start d flow conflict limit = some q)
    (hf : s.placeFirst q tries = (t, .created r x)) (hn : t.obk.named? x = some (i, o)) (hr : r.refuses = false)
    (ht : t.obk.search = none) : Completes (.place n start d flow conflict limit tries) s t.arbitrate
      { result := r
        data := be16 x ++ be32 o.start ++ be8 o.slidBy ++ be32 o.ordered ++ be32 o.sequence
        names := some x } := by
  rw [← State.createdReply_eq hn]
  refine completes_place hh (reqPlace_creates hq ?_ ((t.createdReply_result r x).symm ▸ hr))
  rw [placeEvent_first q tries hs, hf]
  exact Prod.ext (State.search_over ht) rfl

/-- What an ask with its parameters in range needs of its turnout, its account and the tables. -/
theorem State.takes_of_checks (hn : n ≤ 1023) (hd : 1 ≤ d) (hd' : d ≤ 192) (hf : 1 ≤ flow) (hf' : flow ≤ 2000)
    (hl : k = .slide → 1 ≤ limit ∧ limit ≤ 96) (hp : s.point? n = some p) (hk : p.kind = .turnout)
    (hr : flow ≤ p.rated) (hi : p.account = some acct) (ha : s.account? acct = some a) (ho : a.state = .opened)
    (hlive : a.live < 24) (hfree : ∃ i, i < 2048 ∧ cell? s.obk.orders i = none)
    (hseq : s.obk.sequence < 4294967295) : s.Takes (askOf n start d flow limit k) p acct a where
  range := by
    rintro (h | h | h | h | h | ⟨h, h'⟩)
    · exact absurd h (Nat.not_lt.2 hn)
    · exact absurd h (Nat.not_lt.2 hd)
    · exact absurd h (Nat.not_lt.2 hd')
    · exact absurd h (Nat.not_lt.2 hf)
    · exact absurd h (Nat.not_lt.2 hf')
    · have := hl h
      simp only [askOf] at h'
      omega
  turnout := State.turnout?_eq_some hp hk
  rated := Nat.not_lt.2 hr
  owner := hi
  account := ha
  opened := ho
  room := ⟨hfree, hseq⟩
  live := hlive

/-- No live order of a point overlaps a window that none of them meets. -/
theorem OrderBook.overlapping_none {b : OrderBook} {lo hi : Nat}
    (h : ∀ e ∈ b.orders, e.2.point = n → e.2.live = true → min hi e.2.deliveryEnd ≤ max lo e.2.start) :
    b.overlapping n lo hi none = none :=
  OrderBook.overlapping_eq_none.2 fun e he hm => Nat.not_lt.2 (h e he hm.1 hm.2.1) hm.2.2

end

/-- Settles O23: past the checks the free entry with the lowest table index takes the order, CONFIRMED in the ring
or PENDING_WAIT at the tail of the list. -/
theorem placeAdmitsOrQueuesTheOrder : Obligations.PlaceAdmitsOrQueuesTheOrder := by
  constructor
  · intro s n start d flow conflict limit tries p acct a k ring hh hs hn hd hd' hf hf' hk hp hkind hrated hi ha ho hl
      hfree hseq hsoon hfar hover haff hpass
    obtain ⟨i, hentry⟩ := OrderBook.freeEntry_exists hfree
    obtain ⟨hfree_i, hi2048⟩ := OrderBook.freeEntry_spec hentry
    have hcode : OnConflict.ofCode? conflict = some k ∧ (k = .slide → 1 ≤ limit ∧ limit ≤ 96) := by
      rcases hk with ⟨rfl, rfl⟩ | ⟨rfl, rfl, hl⟩ | ⟨rfl, rfl⟩
      · exact ⟨rfl, nofun⟩
      · exact ⟨rfl, fun _ => hl⟩
      · exact ⟨rfl, nofun⟩
    have htakes := State.takes_of_checks (start := start) hn hd hd' hf hf' hcode.2 hp hkind hrated hi ha ho hl
      hfree hseq
    have hok : s.tryWindow n p.reach acct start d flow none = .ok ring :=
      State.tryWindow_pass (OrderBook.overlapping_none hover) ((State.affords_iff ha).2 haff) hpass
    have hplaced := (htakes.admits (n := tries) (Nat.not_lt.2 hsoon) (Nat.not_lt.2 hfar) hok).trans
      (State.admitOrder_free start 0 hentry ha)
    rw [State.withRing_withOrder, Account.withOrder_admitted] at hplaced
    refine ⟨i, _, _, hi2048, hfree_i, fun j hj => firstFree_least hentry j (Nat.zero_le j) hj,
      fun j => cell?_setCell _ _ _ _, fun m => cell?_setCell _ _ _ _, ?_⟩
    have hdone := completes_place_created hh hs (hostAsk_eq hcode.1) hplaced
      (State.withOrder_named? hi2048 rfl rfl) rfl hs
    exact hdone
  · intro s n start d flow limit tries p acct a j t hh hs hn hd hd' hf hf' hp hkind hrated hi ha ho hl
      hfree hseq hsoon hfar hover haff hshort c
    obtain ⟨i, hentry⟩ := OrderBook.freeEntry_exists hfree
    obtain ⟨hfree_i, hi2048⟩ := OrderBook.freeEntry_spec hentry
    have htakes := State.takes_of_checks (start := start) (limit := limit) (k := .queue) hn hd hd' hf hf' nofun hp hkind
      hrated hi ha ho hl hfree hseq
    have herror : s.tryWindow n p.reach acct start d flow none = .error (shortReply j t) :=
      State.tryWindow_short (OrderBook.overlapping_none hover) ((State.affords_iff ha).2 haff) hshort
    have hqueues := htakes.queues (n := tries) (Nat.not_lt.2 hsoon) (Nat.not_lt.2 hfar) herror rfl rfl
    refine ⟨fun hw => ?_, fun hw => ?_⟩
    · exact completes_place_refused hh hs (hostAsk_eq rfl)
        (hqueues.trans (State.queueOrder_full hentry hw)) (by decide)
    · refine ⟨i, _, _, hi2048, hfree_i, fun j hj => firstFree_least hentry j (Nat.zero_le j) hj,
        fun j => cell?_setCell _ _ _ _, fun m => cell?_setCell _ _ _ _, ?_⟩
      have hplaced := hqueues.trans (State.queueOrder_free hentry ha hw)
      rw [State.withOrder, Account.withOrder_queued] at hplaced
      have hdone := completes_place_created hh hs (hostAsk_eq rfl) hplaced
        (State.withOrder_named? hi2048 rfl rfl) rfl hs
      exact hdone

end Sys2Proof.Machine
end

section
/-! AMEND, outcome by outcome (R51 to R53). -/

namespace Sys2Proof.Machine

/-! ### What an order request that settles comes to (R1, R116) -/

theorem State.settle_refuses {s t : State} {a : Reply} (h : a.result.refuses = true) : s.settle (t, a) = (s, a) :=
  if_pos h

theorem State.settle_succeeds {s t : State} {a : Reply} (h : a.result.refuses = false) :
    s.settle (t, a) = (t.arbitrate, a) :=
  if_neg (by simp [h])

theorem Order.due_iff (o : Order) : o.due = true ↔ o.state = .running ∨ o.state = .suspended := by
  simp [Order.due]

section

variable {s t : State} {h i f e : Nat} {o : Order} {flow finish : Option Nat} {a : Reply} {c : Calendar}

/-- A parameter of AMEND that its check refuses (R51). -/
theorem State.amendBadParam_iff : s.amendBadParam o flow finish = true ↔
    (∃ x, flow = some x ∧ (x < 1 ∨ 2000 < x ∨ ∃ p, s.point? o.point = some p ∧ p.rated < x)) ∨
      ∃ x, finish = some x ∧ (x < o.start + 1 ∨ o.start + 192 < x) := by
  simp only [State.amendBadParam, Bool.or_eq_true, Option.any_eq_true, decide_eq_true_iff, or_assoc]

/-! ### The checks of R51 -/

theorem amendBook_unnamed (hn : s.obk.named? h = none) :
    amendBook h flow finish s = (s, refusal .noSuchOrder) := by
  simp only [amendBook, hn]

section

variable (hn : s.obk.named? h = some (i, o))

include hn

theorem amendBook_badParam (hb : s.amendBadParam o flow finish = true) :
    amendBook h flow finish s = (s, refusal .badParam) := by
  simp only [amendBook, hn, hb, if_true]

variable (hb : s.amendBadParam o flow finish = false)

include hb

theorem amendBook_notOpen {a : Account} (ha : s.account? o.account = some a) (hc : a.state ≠ .opened) :
    amendBook h flow finish s = (s, refusal .accountNotOpen) := by
  simp [amendBook, hn, hb, ha, hc]

variable (hc : ∀ a, s.account? o.account = some a → a.state = .opened)

include hc

/-- Past the parameters and the account, the order's state decides. -/
theorem amendBook_open : amendBook h flow finish s =
    if o.state ≠ .confirmed ∧ !o.due then (s, refusal .wrongState)
    else if o.due ∧ flow.getD o.flow ≠ o.flow then (s, refusal .wrongState)
    else if flow.getD o.flow = o.flow ∧ finish.getD o.endSlot = o.endSlot then (s, amendedReply h o)
    else
      let r := if o.due then s.amendDue h i o (finish.getD o.endSlot)
        else s.amendConfirmed h i o (flow.getD o.flow) (finish.getD o.endSlot)
      if r.2.result = .done ∧ (flow.getD o.flow < o.flow ∨ finish.getD o.endSlot < o.endSlot) then
        (r.1.startReexamination, r.2)
      else r := by
  have hopen : (s.account? o.account).any (fun a => decide (a.state ≠ .opened)) = false := by
    cases ha : s.account? o.account with
    | none => rfl
    | some a => simp [hc a ha]
  simp only [amendBook, hn, hb, hopen, Bool.false_eq_true, if_false]

theorem amendBook_wrongState (hs : o.state ≠ .confirmed) (hd : o.due = false) :
    amendBook h flow finish s = (s, refusal .wrongState) := by
  rw [amendBook_open hn hb hc]
  exact if_pos ⟨hs, by simp [hd]⟩

/-- The flow of a due order cannot be amended (R51). -/
theorem amendBook_dueFlow (hd : o.due = true) (hf : flow.getD o.flow ≠ o.flow) :
    amendBook h flow finish s = (s, refusal .wrongState) := by
  rw [amendBook_open hn hb hc, if_neg (by simp [hd])]
  exact if_pos ⟨hd, hf⟩

theorem amendBook_unchanged (hs : o.state = .confirmed ∨ o.due = true) (hf : flow.getD o.flow = o.flow)
    (he : finish.getD o.endSlot = o.endSlot) : amendBook h flow finish s = (s, amendedReply h o) := by
  have hstate : ¬(o.state ≠ .confirmed ∧ (!o.due) = true) := fun ⟨hne, hnd⟩ =>
    hs.elim hne fun hd => by simp [hd] at hnd
  rw [amendBook_open hn hb hc, if_neg hstate, if_neg fun hd => hd.2 hf]
  exact if_pos ⟨hf, he⟩

/-- What AMEND makes of a change, with the re-examination that a lower flow or an earlier end starts. -/
def amendReexamined (o : Order) (f e : Nat) (r : State × Reply) : State × Reply :=
  if r.2.result = .done ∧ (f < o.flow ∨ e < o.endSlot) then (r.1.startReexamination, r.2) else r

theorem amendBook_confirmed (hs : o.state = .confirmed)
    (hch : flow.getD o.flow ≠ o.flow ∨ finish.getD o.endSlot ≠ o.endSlot) :
    amendBook h flow finish s = amendReexamined o (flow.getD o.flow) (finish.getD o.endSlot)
      (s.amendConfirmed h i o (flow.getD o.flow) (finish.getD o.endSlot)) := by
  have hd : o.due = false := by simp [Order.due, hs]
  rw [amendBook_open hn hb hc, if_neg fun h => h.1 hs, if_neg (by simp [hd]),
    if_neg fun h => hch.elim (absurd h.1) (absurd h.2), hd]
  rfl

theorem amendBook_due (hd : o.due = true) (hf : flow.getD o.flow = o.flow)
    (he : finish.getD o.endSlot ≠ o.endSlot) :
    amendBook h flow finish s = amendReexamined o (flow.getD o.flow) (finish.getD o.endSlot)
      (s.amendDue h i o (finish.getD o.endSlot)) := by
  rw [amendBook_open hn hb hc, if_neg (by simp [hd]), if_neg fun h => h.2 hf, if_neg fun h => he h.2, if_pos hd]
  rfl

end

theorem amendReexamined_refused (hr : a.result ≠ .done) : amendReexamined o f e (s, a) = (s, a) :=
  if_neg fun h => hr h.1

theorem amendReexamined_done {new : Order} :
    amendReexamined o f e (t, amendedReply h new) =
      (if f < o.flow ∨ e < o.endSlot then t.startReexamination else t, amendedReply h new) := by
  have hdone : (amendedReply h new).result = .done := rfl
  simp only [amendReexamined, hdone, true_and]
  split <;> rfl

/-! ### A CONFIRMED order, from check 5 on (R52) -/

theorem State.amendConfirmed_beyond (he : s.obk.slot + 672 < e) :
    s.amendConfirmed h i o f e = (s, refusal .beyondHorizon) :=
  if_pos ((s.pastHorizon_iff e).2 he)

section

variable (he : e ≤ s.obk.slot + 672)

include he

theorem State.amendConfirmed_overlap (hl : o.endSlot < e)
    (ho : (s.obk.overlapping o.point o.start e (some i)).isSome = true) :
    s.amendConfirmed h i o f e = (s, refusal .overlap) := by
  have hover := And.intro hl ho
  unfold State.amendConfirmed
  dsimp only
  rw [State.pastHorizon_eq_false (Nat.not_lt.2 he), if_neg Bool.false_ne_true, if_pos hover]

variable (ho : ¬(o.endSlot < e ∧ (s.obk.overlapping o.point o.start e (some i)).isSome = true))

include ho

theorem State.amendConfirmed_unaffordable (hv : o.ordered < (o.amended f e).ordered)
    (ha : s.affords o.account ((o.amended f e).ordered - o.ordered) = false) :
    s.amendConfirmed h i o f e = (s, refusal .allocationShort) := by
  unfold State.amendConfirmed
  dsimp only
  rw [State.pastHorizon_eq_false (Nat.not_lt.2 he), if_neg Bool.false_ne_true, if_neg ho]
  exact if_pos ⟨hv, by simp [ha]⟩

variable (ha : o.ordered < (o.amended f e).ordered →
  s.affords o.account ((o.amended f e).ordered - o.ordered) = true)

include ha

/-- Past its checks an EXCHANGE decides. -/
theorem State.amendConfirmed_exchanges : s.amendConfirmed h i o f e =
    match s.cal.exchange (s.reachOf o) o.start o.endSlot o.flow o.start e f with
    | .pass c => ((s.withRing c).putOrder i (o.amended f e), amendedReply h (o.amended f e))
    | .short r t => (s, shortReply r t)
    | .beyond => (s, refusal .beyondHorizon) := by
  have haff : ¬(o.ordered < (o.amended f e).ordered ∧
      (!s.affords o.account ((o.amended f e).ordered - o.ordered)) = true) := fun ⟨hv, hn⟩ => by
    simp [ha hv] at hn
  unfold State.amendConfirmed
  dsimp only
  rw [State.pastHorizon_eq_false (Nat.not_lt.2 he), if_neg Bool.false_ne_true, if_neg ho, if_neg haff] <;>
    rfl

theorem State.amendConfirmed_short {r u : Nat}
    (hx : s.cal.exchange (s.reachOf o) o.start o.endSlot o.flow o.start e f = .short r u) :
    s.amendConfirmed h i o f e = (s, shortReply r u) := by
  rw [State.amendConfirmed_exchanges he ho ha, hx]

theorem State.amendConfirmed_pass
    (hx : s.cal.exchange (s.reachOf o) o.start o.endSlot o.flow o.start e f = .pass c) :
    s.amendConfirmed h i o f e =
      ((s.withRing c).putOrder i (o.amended f e), amendedReply h (o.amended f e)) := by
  rw [State.amendConfirmed_exchanges he ho ha, hx]

end

/-! ### A RUNNING or SUSPENDED order, from check 5 on (R53) -/

theorem State.amendDue_soon
    (ht : min e o.endSlot < lagOf s.cal.reaches (s.reachOf o) + s.obk.slot + 1) :
    s.amendDue h i o e = (s, refusal .tooSoon) :=
  if_pos ((s.releaseWithin_iff 0 _ _).2 ht)

section

variable (ht : ¬min e o.endSlot < lagOf s.cal.reaches (s.reachOf o) + s.obk.slot + 1)

include ht

theorem State.releaseWithin_eq_false :
    s.releaseWithin 0 (min e o.endSlot) (lagOf s.cal.reaches (s.reachOf o)) = false :=
  decide_eq_false ht

theorem State.amendDue_beyond (he : s.obk.slot + 672 < e) :
    s.amendDue h i o e = (s, refusal .beyondHorizon) := by
  unfold State.amendDue
  dsimp only
  rw [State.releaseWithin_eq_false ht]
  exact if_pos ((s.pastHorizon_iff e).2 he)

variable (he : e ≤ s.obk.slot + 672)

include he

theorem State.amendDue_earlier (hl : ¬o.endSlot < e) : s.amendDue h i o e =
    ((s.withRing (s.cal.release (s.reachOf o) e o.endSlot o.flow s.obk.slot)).putOrder i (o.amended o.flow e),
      amendedReply h (o.amended o.flow e)) := by
  unfold State.amendDue
  dsimp only
  rw [State.releaseWithin_eq_false ht, State.pastHorizon_eq_false (Nat.not_lt.2 he), if_neg Bool.false_ne_true,
    if_neg Bool.false_ne_true, if_neg hl]

variable (hl : o.endSlot < e)

include hl

theorem State.amendDue_overlap (ho : (s.obk.overlapping o.point o.endSlot e (some i)).isSome = true) :
    s.amendDue h i o e = (s, refusal .overlap) := by
  unfold State.amendDue
  dsimp only
  rw [State.releaseWithin_eq_false ht, State.pastHorizon_eq_false (Nat.not_lt.2 he), if_neg Bool.false_ne_true,
    if_neg Bool.false_ne_true, if_pos hl]
  exact if_pos ho

variable (ho : s.obk.overlapping o.point o.endSlot e (some i) = none)

include ho

/-- An extension that stands alone at its point is decided by the allocation and a RESERVE. -/
theorem State.amendDue_later : s.amendDue h i o e =
    if s.affords o.account (volume o.flow (e - o.endSlot)) then
      match s.cal.reserve (s.reachOf o) o.endSlot e o.flow with
      | .pass c => ((s.withRing c).putOrder i (o.amended o.flow e), amendedReply h (o.amended o.flow e))
      | .short r t => (s, shortReply r t)
      | .beyond => (s, refusal .beyondHorizon)
    else (s, refusal .allocationShort) := by
  unfold State.amendDue
  dsimp only
  rw [State.releaseWithin_eq_false ht, State.pastHorizon_eq_false (Nat.not_lt.2 he), if_neg Bool.false_ne_true,
    if_neg Bool.false_ne_true, if_pos hl, ho] <;> rfl

theorem State.amendDue_unaffordable (ha : s.affords o.account (volume o.flow (e - o.endSlot)) = false) :
    s.amendDue h i o e = (s, refusal .allocationShort) := by
  rw [State.amendDue_later ht he hl ho, ha]
  rfl

theorem State.amendDue_short {r u : Nat} (ha : s.affords o.account (volume o.flow (e - o.endSlot)) = true)
    (hx : s.cal.reserve (s.reachOf o) o.endSlot e o.flow = .short r u) :
    s.amendDue h i o e = (s, shortReply r u) := by
  rw [State.amendDue_later ht he hl ho, if_pos ha, hx]

theorem State.amendDue_pass (ha : s.affords o.account (volume o.flow (e - o.endSlot)) = true)
    (hx : s.cal.reserve (s.reachOf o) o.endSlot e o.flow = .pass c) : s.amendDue h i o e =
      ((s.withRing c).putOrder i (o.amended o.flow e), amendedReply h (o.amended o.flow e)) := by
  rw [State.amendDue_later ht he hl ho, if_pos ha, hx]

end

/-! ### The request -/

theorem completes_amend_refused (hh : s.handed (.amend h flow finish) = true)
    (hb : amendBook h flow finish s = (s, a)) (ha : a.result.refuses = true) :
    Completes (.amend h flow finish) s s a :=
  completes_unchanged rfl hh ((congrArg s.settle hb).trans (State.settle_refuses ha))

theorem refuses_amend {r : Result} (hh : s.handed (.amend h flow finish) = true)
    (hb : amendBook h flow finish s = (s, refusal r)) (hr : r.refuses = true) :
    Refuses (.amend h flow finish) s r :=
  completes_amend_refused hh hb hr

theorem completes_amend_done (hh : s.handed (.amend h flow finish) = true)
    (hb : amendBook h flow finish s = (t, a)) (ha : a.result.refuses = false) :
    Completes (.amend h flow finish) s t.arbitrate a := by
  have hreq : reqAmend h flow finish s = (t.arbitrate, a) :=
    (congrArg s.settle hb).trans (State.settle_succeeds ha)
  obtain ⟨-, -, hport, -⟩ := State.fixed_fields (reqAmend_fixed s h flow finish)
  rw [hreq] at hport
  exact completes_of_handed rfl hh hreq (congrArg Port.command hport)

end

end Sys2Proof.Machine
end

section
/-! AMEND checks, then rewrites the order (R51 to R53). -/

namespace Sys2Proof.Machine

/-! ### What AMEND refuses -/

section

variable {s : State} {h i : Nat} {o : Order} {flow finish : Option Nat} (hh : s.handed (.amend h flow finish) = true)
  (hn : s.obk.named? h = some (i, o)) (hb : s.amendBadParam o flow finish = false)
  (hc : ∀ a, s.account? o.account = some a → a.state = .opened)

include hh hn hb hc

/-- A change of a CONFIRMED order that fails with a refusal (R52). -/
theorem completes_amendConfirmed_refused (hs : o.state = .confirmed)
    (hch : flow.getD o.flow ≠ o.flow ∨ finish.getD o.endSlot ≠ o.endSlot) {a : Reply}
    (ha : s.amendConfirmed h i o (flow.getD o.flow) (finish.getD o.endSlot) = (s, a))
    (hr : a.result.refuses = true) : Completes (.amend h flow finish) s s a := by
  refine completes_amend_refused hh ?_ hr
  rw [amendBook_confirmed hn hb hc hs hch, ha]
  exact amendReexamined_refused fun hd => by simp [hd, Result.refuses, Result.code] at hr

/-- A change of a due order that fails with a refusal (R53). -/
theorem completes_amendDue_refused (hd : o.due = true) (hf : flow.getD o.flow = o.flow)
    (he : finish.getD o.endSlot ≠ o.endSlot) {a : Reply}
    (ha : s.amendDue h i o (finish.getD o.endSlot) = (s, a)) (hr : a.result.refuses = true) :
    Completes (.amend h flow finish) s s a := by
  refine completes_amend_refused hh ?_ hr
  rw [amendBook_due hn hb hc hd hf he, ha]
  exact amendReexamined_refused fun hd => by simp [hd, Result.refuses, Result.code] at hr

/-- A change of a CONFIRMED order that passes (R52). -/
theorem completes_amendConfirmed_done (hs : o.state = .confirmed)
    (hch : flow.getD o.flow ≠ o.flow ∨ finish.getD o.endSlot ≠ o.endSlot) {t : State} {new : Order}
    (ha : s.amendConfirmed h i o (flow.getD o.flow) (finish.getD o.endSlot) = (t, amendedReply h new)) :
    Completes (.amend h flow finish) s
      (if flow.getD o.flow < o.flow ∨ finish.getD o.endSlot < o.endSlot then t.startReexamination else t).arbitrate
      (amendedReply h new) := by
  refine completes_amend_done hh ?_ rfl
  rw [amendBook_confirmed hn hb hc hs hch, ha, amendReexamined_done]

/-- A change of a due order that passes (R53). -/
theorem completes_amendDue_done (hd : o.due = true) (hf : flow.getD o.flow = o.flow)
    (he : finish.getD o.endSlot ≠ o.endSlot) {t : State} {new : Order}
    (ha : s.amendDue h i o (finish.getD o.endSlot) = (t, amendedReply h new)) :
    Completes (.amend h flow finish) s
      (if flow.getD o.flow < o.flow ∨ finish.getD o.endSlot < o.endSlot then t.startReexamination else t).arbitrate
      (amendedReply h new) := by
  refine completes_amend_done hh ?_ rfl
  rw [amendBook_due hn hb hc hd hf he, ha, amendReexamined_done]

end

/-- Settles O25: amendBook by its checks, and past them by the outcomes of amendConfirmed and amendDue. -/
theorem amendChecksThenRewrites : Obligations.AmendChecksThenRewrites := by
  constructor
  · intro s h flow finish hh c
    refine ⟨fun hn => refuses_amend hh (amendBook_unnamed hn) rfl, ?_⟩
    intro i o hn f e badParam closed due open' new changed later overlaps
    have hbad : s.amendBadParam o flow finish = true ↔ badParam := State.amendBadParam_iff
    have hdue : o.due = true ↔ due := o.due_iff
    have good : ¬badParam → s.amendBadParam o flow finish = false := fun h => Bool.eq_false_of_not_eq_true (mt hbad.1 h)
    have opened : ¬closed → ∀ a, s.account? o.account = some a → a.state = .opened := fun h a ha => by
      by_contra hne
      exact h ⟨a, ha, hne⟩
    refine ⟨fun hb => ?badParam, fun hb ⟨a, ha, hc⟩ => ?notOpen, fun ⟨hb, hc⟩ hs hd => ?wrongState,
      fun ⟨hb, hc⟩ hd hf => ?dueFlow, fun ⟨hb, hc⟩ hs hch => ?confirmed, fun ⟨hb, hc⟩ hd hf hch => ?due⟩
    case badParam => exact refuses_amend hh (amendBook_badParam hn (hbad.2 hb)) rfl
    case notOpen => exact refuses_amend hh (amendBook_notOpen hn (good hb) ha hc) rfl
    case wrongState =>
      exact refuses_amend hh (amendBook_wrongState hn (good hb) (opened hc) hs
        (Bool.eq_false_of_not_eq_true (mt hdue.1 hd))) rfl
    case dueFlow => exact refuses_amend hh (amendBook_dueFlow hn (good hb) (opened hc) (hdue.2 hd) hf) rfl
    case confirmed =>
      have ends : ∀ {a : Reply}, s.amendConfirmed h i o f e = (s, a) → a.result.refuses = true → Completes c s s a :=
        completes_amendConfirmed_refused hh hn (good hb) (opened hc) hs hch
      refine ⟨fun he => ends (State.amendConfirmed_beyond he) rfl,
        fun he hl ho => ends (State.amendConfirmed_overlap he hl ho) rfl,
        fun he ho hv ha => ends (State.amendConfirmed_unaffordable he ho hv ha) rfl,
        fun he ho ha j t hx => ends (State.amendConfirmed_short he ho ha hx) rfl⟩
    case due =>
      have ends : ∀ {a : Reply}, s.amendDue h i o e = (s, a) → a.result.refuses = true → Completes c s s a :=
        completes_amendDue_refused hh hn (good hb) (opened hc) (hdue.2 hd) hf (hch.resolve_left (not_not.2 hf))
      intro reach soon
      refine ⟨fun ht => ends (State.amendDue_soon ht) rfl, fun ht he => ends (State.amendDue_beyond ht he) rfl,
        fun ht he hl => ⟨fun ho => ends (State.amendDue_overlap ht he hl ho) rfl, fun ho => ?_⟩⟩
      have hnone : s.obk.overlapping o.point o.endSlot e (some i) = none := Option.not_isSome_iff_eq_none.1 ho
      exact ⟨fun ha => ends (State.amendDue_unaffordable ht he hl hnone ha) rfl,
        fun ha j t hx => ends (State.amendDue_short ht he hl hnone ha hx) rfl⟩
  · intro s h i o flow finish hh hn hb hc c f e due reach new r finishWith
    have hdue : o.due = true ↔ due := o.due_iff
    have hnew : f = o.flow → o.amended o.flow e = new := fun hf => congrArg (fun x => o.amended x e) hf.symm
    refine ⟨fun hs hf he => ?_, fun hs hch he ho ha ring hx => ?_, fun hd hf he ht => ⟨fun hl ho ha ring hx => ?_,
      fun hl => ?_⟩⟩
    · exact completes_amend_done hh (amendBook_unchanged hn hb hc (hs.imp_right hdue.2) hf he) rfl
    · exact completes_amendConfirmed_done hh hn hb hc hs hch (State.amendConfirmed_pass he
        (fun ⟨hl, hover⟩ => Option.isSome_iff_ne_none.1 hover (ho hl)) ha hx)
    · have hpass := State.amendDue_pass (h := h) (Nat.not_lt.2 ht) he hl ho ha hx
      rw [hnew hf] at hpass
      exact completes_amendDue_done hh hn hb hc (hdue.2 hd) hf hl.ne' hpass
    · have hpass := State.amendDue_earlier (h := h) (i := i) (Nat.not_lt.2 ht) he (Nat.not_lt.2 hl.le)
      rw [hnew hf] at hpass
      exact completes_amendDue_done hh hn hb hc (hdue.2 hd) hf hl.ne hpass

end Sys2Proof.Machine
end

section
/-! CANCEL ends orders: one by its handle, or those of a chain (R43, R44, R54 to R57). -/

namespace Sys2Proof.Machine

/-! ### The chains (R43, R44) -/

theorem OrderBook.accountChain_perm (b : OrderBook) (k : Nat) :
    (b.accountChain k).Perm (b.orders.filter fun e => decide (e.2.account = k)) := sortBy_perm _ _

theorem OrderBook.pointChain_perm (b : OrderBook) (k : Nat) :
    (b.pointChain k).Perm (b.orders.filter fun e => decide (e.2.point = k ∧ e.2.live = true)) := by
  have h : (b.pointChain k).Perm (b.orders.filter fun e => decide (e.2.point = k) && e.2.live) := sortBy_perm _ _
  simpa only [Bool.decide_and, Bool.decide_eq_true] using h

section

variable {s t : State} {scope h running i k : Nat} {o : Order} {a : Reply} {chain : List (Nat × Order)}

/-! ### The request -/

theorem completes_cancel_refused (hh : s.handed (.cancel scope h running) = true) {r : Result}
    (hb : cancelBook scope h running s = (s, refusal r)) (hr : r.refuses = true) :
    Refuses (.cancel scope h running) s r :=
  completes_unchanged rfl hh ((congrArg s.settle hb).trans (State.settle_refuses hr))

theorem completes_cancel_done (hh : s.handed (.cancel scope h running) = true)
    (hb : cancelBook scope h running s = (t, a)) (ha : a.result.refuses = false) :
    Completes (.cancel scope h running) s t.arbitrate a := by
  have hreq : reqCancel scope h running s = (t.arbitrate, a) :=
    (congrArg s.settle hb).trans (State.settle_succeeds ha)
  obtain ⟨-, -, hport, -⟩ := State.fixed_fields (reqCancel_fixed s scope h running)
  rw [hreq] at hport
  exact completes_of_handed rfl hh hreq (congrArg Port.command hport)

theorem cancelBook_noScope (hs : 2 < scope) : cancelBook scope h running s = (s, refusal .badParam) := by
  obtain ⟨n, rfl⟩ : ∃ n, scope = n + 3 := ⟨scope - 3, by omega⟩
  rfl

/-! ### Scope ORDER (R54 to R56) -/

theorem State.cancelNamed_unnamed (hn : s.obk.named? h = none) : s.cancelNamed h = (s, refusal .noSuchOrder) := by
  simp only [State.cancelNamed, hn]

/-- An order that CANCEL has cancelled (R55). -/
def Order.gone (o : Order) : Order := { o with state := .cancelled, closeReason := some .cancelledHost }

/-- An order cut at slot c by CANCEL (R56). -/
def Order.cutAt (c : Nat) (o : Order) : Order :=
  { o with
    state := .closing, closeReason := some .endedEarly, suspendReason := none, cut := some c
    ordered := volume o.flow (c + 1 - o.start) }

/-- What CANCEL answers for one order. -/
def cancelReply (h cancelled ended : Nat) (st : OrderState) : Reply :=
  { result := .done
    data := be16 cancelled ++ be16 ended ++ be16 0 ++ be8 st.code
    names := some h }

section

variable (hn : s.obk.named? h = some (i, o))

include hn

theorem State.cancelNamed_waiting (hs : o.state = .pendingWait) : s.cancelNamed h =
    (((s.leaveWaiting (s.obk.handle i)).putOrder i o.gone).startReexamination, cancelReply h 1 0 .cancelled) := by
  simp only [State.cancelNamed, hn, hs, State.cancelOrder, State.freeOrder] <;> rfl

theorem State.cancelNamed_confirmed (hs : o.state = .confirmed) : s.cancelNamed h =
    (((s.releaseOrder o s.obk.slot).putOrder i o.gone).startReexamination, cancelReply h 1 0 .cancelled) := by
  simp only [State.cancelNamed, hn, hs, State.cancelOrder, State.freeOrder] <;> rfl

theorem State.cancelNamed_due (hs : o.state = .running ∨ o.state = .suspended) : s.cancelNamed h =
    ((((s.releaseOrder o (s.obk.slot + 1)).putOrder i (o.cutAt s.obk.slot)).notify o.point
      none).startReexamination, cancelReply h 0 1 .closing) := by
  rcases hs with hs | hs
  · simp only [State.cancelNamed, hn, hs] <;> rfl
  · simp only [State.cancelNamed, hn, hs] <;> rfl

theorem State.cancelNamed_over
    (hs : o.state = .closing ∨ o.state = .closed ∨ o.state = .cancelled ∨ o.state = .expired) :
    s.cancelNamed h = (s, refusal .wrongState) := by
  rcases hs with hs | hs | hs | hs
  · simp only [State.cancelNamed, hn, hs]
  · simp only [State.cancelNamed, hn, hs]
  · simp only [State.cancelNamed, hn, hs]
  · simp only [State.cancelNamed, hn, hs]

end

/-! ### Scopes POINT and ACCOUNT (R57) -/

/-- One step of the walk over a chain, with the counts cancelled, ended and left side by side. -/
def cancelStep (running : Nat) (acc : State × Nat × Nat × Nat) (e : Nat × Order) : State × Nat × Nat × Nat :=
  match cell? acc.1.obk.orders e.1 with
  | none => acc
  | some o =>
    if o.state = .pendingWait ∨ o.state = .confirmed then
      ((acc.1.cancelOrder e.1 o .cancelledHost).markOrder e.1, acc.2.1 + 1, acc.2.2.1, acc.2.2.2)
    else if o.state = .running ∨ o.state = .suspended then
      if running = 1 then
        ((acc.1.cutOrder e.1 o .endedEarly).markOrder e.1, acc.2.1, acc.2.2.1 + 1, acc.2.2.2)
      else (acc.1, acc.2.1, acc.2.2.1, acc.2.2.2 + 1)
    else acc

/-- The state and the counts of a walk, side by side. -/
def sideBySide (acc : State × CancelCounts) : State × Nat × Nat × Nat :=
  (acc.1, acc.2.cancelled, acc.2.ended, acc.2.left)

theorem cancelStep_cancelOne (running : Nat) (acc : State × CancelCounts) (e : Nat × Order) :
    cancelStep running (sideBySide acc) e = sideBySide (State.cancelOne (running == 1) e.1 acc) := by
  unfold cancelStep State.cancelOne
  dsimp only [sideBySide]
  cases hc : cell? acc.1.obk.orders e.1 with
  | none => rfl
  | some o =>
    cases hs : o.state
    case running | suspended => by_cases hr : running = 1 <;> simp [hs, hr]
    all_goals simp [hs]

theorem cancelStep_walk (running : Nat) (chain : List (Nat × Order)) (s : State) :
    chain.foldl (cancelStep running) (s, 0, 0, 0) = sideBySide (s.cancelChain chain (running == 1)) :=
  List.foldl_hom sideBySide (init := (s, { cancelled := 0, ended := 0, left := 0 }))
    fun acc e => cancelStep_cancelOne running acc e

theorem State.cancelMany_eq (running : Nat) (chain : List (Nat × Order)) (s : State) :
    let r := chain.foldl (cancelStep running) (s, 0, 0, 0)
    s.cancelMany chain (running == 1) =
      (if 0 < r.2.1 + r.2.2.1 then r.1.startReexamination else r.1,
        answer .done (be16 r.2.1 ++ be16 r.2.2.1 ++ be16 r.2.2.2)) := by
  rw [cancelStep_walk]
  rfl

theorem cancelBook_pointRange (h : 1 < running ∨ 1023 < k) :
    cancelBook 1 k running s = (s, refusal .badParam) := if_pos h

theorem cancelBook_accountRange (h : 1 < running ∨ 767 < k) :
    cancelBook 2 k running s = (s, refusal .badParam) := if_pos h

section

variable (hr : running ≤ 1)

include hr

theorem cancelBook_noPoint (hk : k ≤ 1023) (hp : s.turnout? k = none) :
    cancelBook 1 k running s = (s, refusal .noSuchPoint) := by
  have hrange : ¬(1 < running ∨ Config.points ≤ k) := by simp [Config.points]; omega
  simp only [cancelBook, if_neg hrange, hp]

theorem cancelBook_point {p : Point} (hk : k ≤ 1023) (hp : s.turnout? k = some p) :
    cancelBook 1 k running s = s.cancelMany (s.obk.pointChain k) (running == 1) := by
  have hrange : ¬(1 < running ∨ Config.points ≤ k) := by simp [Config.points]; omega
  simp only [cancelBook, if_neg hrange, hp]

theorem cancelBook_noAccount (hk : k ≤ 767) (ha : s.account? k = none) :
    cancelBook 2 k running s = (s, refusal .noSuchAccount) := by
  have hrange : ¬(1 < running ∨ Config.accounts ≤ k) := by simp [Config.accounts]; omega
  simp only [cancelBook, if_neg hrange, ha]

theorem cancelBook_account {a : Account} (hk : k ≤ 767) (ha : s.account? k = some a) :
    cancelBook 2 k running s = s.cancelMany (s.obk.accountChain k) (running == 1) := by
  have hrange : ¬(1 < running ∨ Config.accounts ≤ k) := by simp [Config.accounts]; omega
  simp only [cancelBook, if_neg hrange, ha]

end

/-- A walk over a chain, as the request that makes it answers. -/
theorem completes_cancelMany (hh : s.handed (.cancel scope k running) = true)
    (hb : cancelBook scope k running s = s.cancelMany chain (running == 1)) :
    let r := chain.foldl (cancelStep running) (s, 0, 0, 0)
    Completes (.cancel scope k running) s
      (if 0 < r.2.1 + r.2.2.1 then r.1.startReexamination else r.1).arbitrate
      (answer .done (be16 r.2.1 ++ be16 r.2.2.1 ++ be16 r.2.2.2)) :=
  completes_cancel_done hh (hb.trans (State.cancelMany_eq running chain s)) rfl

end

/-- Settles O26: cancelNamed by the order's state; a walk over a chain keeps its counts side by side. -/
theorem cancelEndsOrders : Obligations.CancelEndsOrders := by
  refine ⟨fun b k => ⟨b.accountChain_perm k, sorted_sortBy_chainBefore _, b.pointChain_perm k,
    sorted_sortBy_chainBefore _⟩, fun s scope h running hh => ?_, fun s scope k running hh => ?_⟩
  · refine ⟨fun hs => completes_cancel_refused hh (cancelBook_noScope hs) rfl, ?_, ?_⟩
    · rintro rfl hn
      exact completes_cancel_refused hh (State.cancelNamed_unnamed hn) rfl
    · rintro rfl i o hn reply gone cut finish reach
      exact ⟨fun hs => completes_cancel_done hh (State.cancelNamed_waiting hn hs) rfl,
        fun hs => completes_cancel_done hh (State.cancelNamed_confirmed hn hs) rfl,
        fun hs => completes_cancel_done hh (State.cancelNamed_due hn hs) rfl,
        fun hs => completes_cancel_refused hh (State.cancelNamed_over hn hs) rfl⟩
  · intro c one walk
    refine ⟨?pointRange, ?noPoint, ?point, ?accountRange, ?noAccount, ?account⟩
    case pointRange =>
      rintro rfl hr
      exact completes_cancel_refused hh (cancelBook_pointRange hr) rfl
    case noPoint =>
      rintro rfl hr hk hp
      exact completes_cancel_refused hh (cancelBook_noPoint hr hk (State.turnout?_eq_none hp)) rfl
    case point =>
      rintro rfl hr hk ⟨p, hp, hkind⟩
      exact completes_cancelMany hh (cancelBook_point hr hk (State.turnout?_eq_some hp hkind))
    case accountRange =>
      rintro rfl hr
      exact completes_cancel_refused hh (cancelBook_accountRange hr) rfl
    case noAccount =>
      rintro rfl hr hk ha
      exact completes_cancel_refused hh (cancelBook_noAccount hr hk ha) rfl
    case account =>
      rintro rfl hr hk ha
      obtain ⟨a, ha⟩ := Option.ne_none_iff_exists'.1 ha
      exact completes_cancelMany hh (cancelBook_account hr hk ha)

end Sys2Proof.Machine
end

section
/-! A step of the boundary over the whole order table: each order that it lifts is written, with its mark (R61 to
R64). -/

namespace Sys2Proof.Machine

/-! ### Numbers kept in rising order -/

theorem mem_addTo {l : List Nat} {n m : Nat} : m ∈ addTo l n ↔ m ∈ l ∨ m = n := by
  induction l with
  | nil => simp [addTo]
  | cons k l ih =>
    unfold addTo
    split_ifs with hlt heq
    · simp only [List.mem_cons]
      tauto
    · subst heq
      simp only [List.mem_cons]
      tauto
    · simp only [List.mem_cons, ih]
      tauto

theorem pairwise_addTo {l : List Nat} {n : Nat} (h : l.Pairwise (· < ·)) : (addTo l n).Pairwise (· < ·) := by
  induction l with
  | nil => exact List.pairwise_singleton _ _
  | cons k l ih =>
    obtain ⟨hk, hl⟩ := List.pairwise_cons.1 h
    unfold addTo
    split_ifs with hlt heq
    · refine List.pairwise_cons.2 ⟨fun m hm => ?_, h⟩
      rcases List.mem_cons.1 hm with rfl | hm
      · exact hlt
      · exact hlt.trans (hk m hm)
    · exact h
    · refine List.pairwise_cons.2 ⟨fun m hm => ?_, ih hl⟩
      rcases mem_addTo.1 hm with hm | rfl
      · exact hk m hm
      · omega

/-! ### The walk -/

/-- Write the order g o into the entry of each order o of a list that p admits, and set its mark. -/
def State.liftOrders (p : Order → Bool) (g : Order → Order) (l : Table Order) (s : State) : State :=
  l.foldl (fun u e => if p e.2 then (u.putOrder e.1 (g e.2)).markOrder e.1 else u) s

section

variable {s : State} {p : Order → Bool} {g : Order → Order} {e : Nat × Order} {l : Table Order} {i n : Nat}
  {o : Order}

theorem State.liftOrders_cons_pos (h : p e.2 = true) :
    s.liftOrders p g (e :: l) = ((s.putOrder e.1 (g e.2)).markOrder e.1).liftOrders p g l :=
  congrArg (State.liftOrders p g l) (if_pos h)

theorem State.liftOrders_cons_neg (h : p e.2 = false) : s.liftOrders p g (e :: l) = s.liftOrders p g l :=
  congrArg (State.liftOrders p g l) (if_neg (by simp [h]))

/-- Nothing changes but orders, marks and accounts. -/
theorem State.liftOrders_frame (p : Order → Bool) (g : Order → Order) (l : Table Order) (s : State) :
    s.liftOrders p g l = { s with
      obk.orders := (s.liftOrders p g l).obk.orders, obk.marks := (s.liftOrders p g l).obk.marks
      accounts := (s.liftOrders p g l).accounts } := by
  induction l generalizing s with
  | nil => rfl
  | cons e l ih =>
    cases h : p e.2 with
    | false =>
      rw [State.liftOrders_cons_neg h]
      exact ih s
    | true =>
      rw [State.liftOrders_cons_pos h, ih, State.markOrder, State.putOrder_frame]

theorem State.mem_liftOrders_marks :
    i ∈ (s.liftOrders p g l).obk.marks ↔ i ∈ s.obk.marks ∨ ∃ e ∈ l, e.1 = i ∧ p e.2 = true := by
  induction l generalizing s with
  | nil => simp [State.liftOrders]
  | cons e l ih =>
    cases h : p e.2 with
    | false => simp [State.liftOrders_cons_neg h, ih, h]
    | true =>
      have hmarks : ((s.putOrder e.1 (g e.2)).markOrder e.1).obk.marks = addTo s.obk.marks e.1 := by
        rw [State.putOrder_frame]
        rfl
      simp only [State.liftOrders_cons_pos h, ih, hmarks, mem_addTo, List.mem_cons, exists_eq_or_imp, h, and_true,
        or_assoc, eq_comm (a := i)]

/-- An entry that the walk does not lift is left as it was. -/
theorem State.liftOrders_cell?_other (h : ∀ e ∈ l, e.1 = i → p e.2 = false) :
    cell? (s.liftOrders p g l).obk.orders i = cell? s.obk.orders i := by
  induction l generalizing s with
  | nil => rfl
  | cons e l ih =>
    obtain ⟨he, hl⟩ := List.forall_mem_cons.1 h
    cases hp : p e.2 with
    | false =>
      rw [State.liftOrders_cons_neg hp]
      exact ih hl
    | true =>
      have hne : i ≠ e.1 := fun hi => by simp [he hi.symm] at hp
      rw [State.liftOrders_cons_pos hp, ih hl]
      exact RingSound.put_other hne

/-- An entry that the walk lifts holds the order it is given. -/
theorem State.liftOrders_cell?_lifted (hn : (l.map Prod.fst).Nodup) (hm : (i, o) ∈ l) (hp : p o = true) :
    cell? (s.liftOrders p g l).obk.orders i = some (g o) := by
  induction l generalizing s with
  | nil => cases hm
  | cons e l ih =>
    rw [List.map_cons, List.nodup_cons] at hn
    rcases List.mem_cons.1 hm with rfl | hm
    · rw [State.liftOrders_cons_pos hp, State.liftOrders_cell?_other]
      · simp [State.markOrder, cell?_setCell_self]
      · exact fun d hd hi => absurd (List.mem_map.2 ⟨d, hd, hi⟩) hn.1
    · cases he : p e.2 with
      | false =>
        rw [State.liftOrders_cons_neg he]
        exact ih hn.2 hm
      | true =>
        rw [State.liftOrders_cons_pos he]
        exact ih hn.2 hm

/-! ### The accounts -/

/-- What the walk takes from an account: the fall of the shares and of the live orders that it lifts. -/
def Account.lifted (p : Order → Bool) (g : Order → Order) (n : Nat) (l : Table Order) (a : Account) : Account :=
  let done := l.filter fun e => decide (e.2.account = n) && p e.2
  { a with
    reserved := a.reserved - (done.map fun e => e.2.share - (g e.2).share).sum
    live := a.live - (done.map fun e => e.2.liveCount - (g e.2).liveCount).sum }

theorem Account.lifted_nil : Account.lifted p g n [] = id := rfl

theorem Account.lifted_cons_neg (h : ¬(e.2.account = n ∧ p e.2 = true)) :
    Account.lifted p g n (e :: l) = Account.lifted p g n l := by
  funext a
  simp only [Account.lifted, List.filter_cons, Bool.and_eq_true, decide_eq_true_eq, if_neg h]

/-- An order of the account that is lifted takes its part. -/
theorem Account.lifted_cons_pos (hn : e.2.account = n) (h : p e.2 = true) (a : Account) :
    Account.lifted p g n (e :: l) a = Account.lifted p g n l
      { a with
        reserved := a.reserved - (e.2.share - (g e.2).share)
        live := a.live - (e.2.liveCount - (g e.2).liveCount) } := by
  simp only [Account.lifted, List.filter_cons, Bool.and_eq_true, decide_eq_true_eq, if_pos (And.intro hn h),
    List.map_cons, List.sum_cons, Nat.sub_sub]

theorem State.liftOrders_account? (hn : (l.map Prod.fst).Nodup) (hl : ∀ e ∈ l, cell? s.obk.orders e.1 = some e.2)
    (hg : ∀ o, p o = true → (g o).account = o.account ∧ (g o).share ≤ o.share ∧ (g o).liveCount ≤ o.liveCount) :
    (s.liftOrders p g l).account? n = (s.account? n).map (Account.lifted p g n l) := by
  induction l generalizing s with
  | nil =>
    rw [Account.lifted_nil, Option.map_id]
    rfl
  | cons e l ih =>
    rw [List.map_cons, List.nodup_cons] at hn
    cases hp : p e.2 with
    | false =>
      rw [State.liftOrders_cons_neg hp, ih hn.2 fun d hd => hl d (List.mem_cons_of_mem e hd),
        Account.lifted_cons_neg fun h => by simp [hp] at h]
    | true =>
      have hother : ∀ d ∈ l, cell? ((s.putOrder e.1 (g e.2)).markOrder e.1).obk.orders d.1 = some d.2 := by
        intro d hd
        rw [RingSound.put_other fun hi => hn.1 (List.mem_map.2 ⟨d, hd, hi⟩)]
        exact hl d (List.mem_cons_of_mem e hd)
      have hput : ((s.putOrder e.1 (g e.2)).markOrder e.1).account? n = (s.putOrder e.1 (g e.2)).account? n := rfl
      obtain ⟨hacct, hshare, hcount⟩ := hg e.2 hp
      rw [State.liftOrders_cons_pos hp, ih hn.2 hother, hput, State.putOrder_account?_eq, hacct]
      by_cases he : n = e.2.account
      · rw [if_pos he, Option.map_map]
        refine congrArg (fun f => Option.map f (s.account? n)) (funext fun a => ?_)
        have hcell := hl e List.mem_cons_self
        rw [Function.comp_apply, State.entered, cellSum_of_cell? hcell, cellSum_of_cell? hcell,
          Account.lifted_cons_pos he.symm hp]
        congr 2 <;> omega
      · rw [if_neg he, Account.lifted_cons_neg fun h => he h.1.symm]

/-- A step that moves neither a share nor a live order leaves every account as it was. -/
theorem Account.lifted_same (hg : ∀ o, p o = true → (g o).share = o.share ∧ (g o).liveCount = o.liveCount)
    (a : Account) : Account.lifted p g n l a = a := by
  have hzero : ∀ f : Order → Nat, (∀ o, p o = true → f o = 0) →
      ((l.filter fun e => decide (e.2.account = n) && p e.2).map fun e => f e.2).sum = 0 := by
    refine fun f hf => List.sum_eq_zero fun x hx => ?_
    obtain ⟨e, he, rfl⟩ := List.mem_map.1 hx
    exact hf e.2 (Bool.and_eq_true_iff.1 (List.mem_filter.1 he).2).2
  unfold Account.lifted
  dsimp only
  rw [hzero (fun o => o.share - (g o).share) fun o hp => by rw [(hg o hp).1, Nat.sub_self],
    hzero (fun o => o.liveCount - (g o).liveCount) fun o hp => by rw [(hg o hp).2, Nat.sub_self]]
  rfl

end

end Sys2Proof.Machine
end

section
/-! The boundary at the Order Book, step by step (R61 to R64, R77, R78, R83). -/

namespace Sys2Proof.Machine

/-! ### A step over the whole table -/

section

variable {s : State} {p : Order → Bool} {g : Order → Order} {P : Order → Prop} {i n : Nat} {o : Order}

theorem State.lift_marks (hr : risingKeys s.obk.orders = true) (hP : ∀ o, p o = true ↔ P o) :
    i ∈ (s.liftOrders p g s.obk.orders).obk.marks ↔
      i ∈ s.obk.marks ∨ ∃ o, cell? s.obk.orders i = some o ∧ P o := by
  rw [State.mem_liftOrders_marks]
  refine or_congr_right ⟨?_, ?_⟩
  · rintro ⟨e, he, rfl, hp⟩
    exact ⟨e.2, cell?_of_mem hr he, (hP _).1 hp⟩
  · rintro ⟨o, ho, hp⟩
    exact ⟨(i, o), mem_of_cell? ho, rfl, (hP o).2 hp⟩

theorem State.lift_lifted (hr : risingKeys s.obk.orders = true) (ho : cell? s.obk.orders i = some o)
    (hp : p o = true) : cell? (s.liftOrders p g s.obk.orders).obk.orders i = some (g o) :=
  State.liftOrders_cell?_lifted (nodup_numbers hr) (mem_of_cell? ho) hp

theorem State.lift_left (hr : risingKeys s.obk.orders = true) (ho : cell? s.obk.orders i = some o)
    (hp : p o = false) : cell? (s.liftOrders p g s.obk.orders).obk.orders i = some o := by
  rw [State.liftOrders_cell?_other, ho]
  rintro e he rfl
  cases ho.symm.trans (cell?_of_mem hr he)
  exact hp

theorem State.lift_account? (hr : risingKeys s.obk.orders = true)
    (hg : ∀ o, p o = true → (g o).account = o.account ∧ (g o).share ≤ o.share ∧ (g o).liveCount ≤ o.liveCount) :
    (s.liftOrders p g s.obk.orders).account? n = (s.account? n).map (Account.lifted p g n s.obk.orders) :=
  State.liftOrders_account? (nodup_numbers hr) (fun _ he => cell?_of_mem hr he) hg

/-- A step that moves neither a share nor a live order. -/
theorem State.lift_account?_same (hr : risingKeys s.obk.orders = true) (ha : ∀ o, (g o).account = o.account)
    (hg : ∀ o, p o = true → (g o).share = o.share ∧ (g o).liveCount = o.liveCount) :
    (s.liftOrders p g s.obk.orders).account? n = s.account? n := by
  rw [State.lift_account? hr fun o hp => ⟨ha o, (hg o hp).1.le, (hg o hp).2.le⟩,
    show Account.lifted p g n s.obk.orders = id from funext (Account.lifted_same hg), Option.map_id]
  rfl

end

/-! ### Step 1 (R62) -/

/-- The order is CLOSING and its last delivery slot lies before slot t. -/
def Order.closesBy (t : Nat) (o : Order) : Bool := decide (o.state = .closing ∧ o.deliveryEnd + 1 ≤ t)

def Order.closed (o : Order) : Order := { o with state := .closed }

theorem Order.share_of_closesBy {t : Nat} {o : Order} (h : o.closesBy t = true) : o.share = o.ordered - o.delivered := by
  have hs : o.state = .closing := (of_decide_eq_true h).1
  simp [Order.share, hs]

theorem Order.liveCount_of_closesBy {t : Nat} {o : Order} (h : o.closesBy t = true) : o.liveCount = 1 := by
  have hs : o.state = .closing := (of_decide_eq_true h).1
  simp [Order.liveCount, Order.live, hs]

theorem closeOne_foldl (t : Nat) (l : Table Order) (s : State) (b : Bool) :
    l.foldl (closeOne t) (s, b) = (s.liftOrders (Order.closesBy t) Order.closed l,
      b || l.any fun e => e.2.closesBy t && decide (0 < e.2.share)) := by
  induction l generalizing s b with
  | nil => simp [State.liftOrders]
  | cons e l ih =>
    rw [List.foldl_cons, List.any_cons]
    by_cases h : e.2.state = .closing ∧ e.2.deliveryEnd + 1 ≤ t
    · have hp : e.2.closesBy t = true := decide_eq_true h
      have hone : closeOne t (s, b) e =
          ((s.putOrder e.1 e.2.closed).markOrder e.1, b || decide (0 < e.2.share)) := if_pos h
      rw [hone, ih, State.liftOrders_cons_pos hp, hp, Bool.true_and, Bool.or_assoc]
    · have hp : e.2.closesBy t = false := decide_eq_false h
      have hone : closeOne t (s, b) e = (s, b) := if_neg h
      rw [hone, ih, State.liftOrders_cons_neg hp, hp, Bool.false_and, Bool.false_or]

theorem State.closeStep_eq (t : Nat) (s : State) : s.closeStep t =
    (s.liftOrders (Order.closesBy t) Order.closed s.obk.orders,
      s.obk.orders.any fun e => e.2.closesBy t && decide (0 < e.2.share)) :=
  closeOne_foldl t s.obk.orders s false

/-- An account's part of step 1: what its orders that close had reserved, and one live order for each. -/
theorem Account.lifted_closed (t n : Nat) (l : Table Order) (a : Account) :
    Account.lifted (Order.closesBy t) Order.closed n l a =
      { a with
        reserved := a.reserved - ((l.filter fun e =>
          decide (e.2.account = n ∧ e.2.state = .closing ∧ e.2.deliveryEnd + 1 ≤ t)).map fun e =>
            e.2.ordered - e.2.delivered).sum
        live := a.live - (l.filter fun e =>
          decide (e.2.account = n ∧ e.2.state = .closing ∧ e.2.deliveryEnd + 1 ≤ t)).length } := by
  have hfilter : (l.filter fun e => decide (e.2.account = n) && e.2.closesBy t) =
      l.filter fun e => decide (e.2.account = n ∧ e.2.state = .closing ∧ e.2.deliveryEnd + 1 ≤ t) :=
    List.filter_congr fun e _ => (Bool.decide_and _ _).symm
  have hcloses : ∀ e ∈ l.filter (fun e => decide (e.2.account = n ∧ e.2.state = .closing ∧ e.2.deliveryEnd + 1 ≤ t)),
      e.2.closesBy t = true :=
    fun e he => decide_eq_true (of_decide_eq_true (List.mem_filter.1 he).2).2
  unfold Account.lifted
  dsimp only
  rw [hfilter, List.map_congr_left fun e he => (Order.share_of_closesBy (hcloses e he) :
      e.2.share - e.2.closed.share = e.2.ordered - e.2.delivered),
    List.map_congr_left fun e he => (Order.liveCount_of_closesBy (hcloses e he) :
      e.2.liveCount - e.2.closed.liveCount = 1),
    List.map_const', List.sum_replicate, smul_eq_mul, mul_one]

/-! ### Step 2 (R63) -/

/-- The order is due and ends at slot t. -/
def Order.endsAt (t : Nat) (o : Order) : Bool := decide (o.due = true ∧ o.endSlot = t)

def Order.ended (o : Order) : Order :=
  { o with state := .closing, closeReason := some .delivered, suspendReason := none }

theorem Order.endsAt_iff (t : Nat) (o : Order) :
    o.endsAt t = true ↔ (o.state = .running ∨ o.state = .suspended) ∧ o.start + o.duration = t := by
  rw [Order.endsAt, decide_eq_true_iff, o.due_iff]
  rfl

theorem State.endStep_eq (t : Nat) (s : State) :
    s.endStep t = s.liftOrders (Order.endsAt t) Order.ended s.obk.orders := by
  unfold State.endStep State.liftOrders
  refine congrArg (fun f => s.obk.orders.foldl f s) (funext fun u => funext fun e => ?_)
  simp only [endOne, Order.endsAt, Order.ended, decide_eq_true_iff]

theorem Order.ended_figures {t : Nat} {o : Order} (h : o.endsAt t = true) :
    o.ended.share = o.share ∧ o.ended.liveCount = o.liveCount := by
  rcases ((o.endsAt_iff t).1 h).1 with hs | hs
  · simp [Order.ended, Order.share, Order.liveCount, Order.live, hs]
  · simp [Order.ended, Order.share, Order.liveCount, Order.live, hs]

/-! ### Step 3 (R64) -/

/-- The order is CONFIRMED, starts at slot t and has a point. -/
def State.startsAt (s : State) (t : Nat) (o : Order) : Bool :=
  decide ((o.state = .confirmed ∧ o.start = t) ∧ (s.point? o.point).isSome = true)

/-- An order that starts under the mode of its point. -/
def State.started (s : State) (o : Order) : Order := o.under (s.modeOf o.point)

theorem startOne_foldl (t : Nat) (l : Table Order) {s u : State} (h : u.points = s.points) :
    l.foldl (startOne t) u = u.liftOrders (s.startsAt t) s.started l := by
  induction l generalizing u with
  | nil => rfl
  | cons e l ih =>
    have hpoint : u.point? e.2.point = s.point? e.2.point := congrArg (cell? · e.2.point) h
    rw [List.foldl_cons]
    by_cases hs : e.2.state = .confirmed ∧ e.2.start = t
    · cases hp : s.point? e.2.point with
      | none =>
        have hone : startOne t u e = u := by simp [startOne, hs, hpoint, hp]
        rw [hone, ih h, State.liftOrders_cons_neg (by simp [State.startsAt, hp])]
      | some p =>
        have hone : startOne t u e = (u.putOrder e.1 (s.started e.2)).markOrder e.1 := by
          simp [startOne, hs, hpoint, hp, State.started, State.modeOf, Order.under]
        rw [hone, State.liftOrders_cons_pos (by simp [State.startsAt, hp, hs])]
        refine ih ?_
        rw [State.putOrder_frame]
        exact h
    · have hone : startOne t u e = u := if_neg hs
      rw [hone, ih h, State.liftOrders_cons_neg (by simp [State.startsAt, hs])]

theorem State.startStep_eq (t : Nat) (s : State) :
    s.startStep t = s.liftOrders (s.startsAt t) s.started s.obk.orders :=
  startOne_foldl t s.obk.orders rfl

theorem State.started_figures {s : State} {t : Nat} {o : Order} (h : s.startsAt t o = true) :
    (s.started o).share = o.share ∧ (s.started o).liveCount = o.liveCount := by
  have hs : o.state = .confirmed := (of_decide_eq_true h).1.1
  cases hm : s.modeOf o.point <;>
    simp [State.started, hm, Order.under, dueUnder, Order.share, Order.liveCount, Order.live, hs]

/-! ### The notices (R61) -/

/-- Steps 2 and 3 change the order: it ends at slot t, or starts. -/
def Order.changesAt (t : Nat) (o : Order) : Prop :=
  ((o.state = .running ∨ o.state = .suspended) ∧ o.start + o.duration = t) ∨ (o.state = .confirmed ∧ o.start = t)

theorem changedPoints_foldl (t : Nat) (l : Table Order) (ps : List Nat) (h : ps.Pairwise (· < ·)) :
    let qs := l.foldl (fun ps e =>
      if (e.2.due ∧ e.2.endSlot = t) ∨ (e.2.state = .confirmed ∧ e.2.start = t) then addTo ps e.2.point else ps) ps
    qs.Pairwise (· < ·) ∧ ∀ n, n ∈ qs ↔ n ∈ ps ∨ ∃ e ∈ l, e.2.point = n ∧ e.2.changesAt t := by
  induction l generalizing ps with
  | nil => exact ⟨h, fun n => by simp⟩
  | cons e l ih =>
    rw [List.foldl_cons]
    have hc : (e.2.due = true ∧ e.2.endSlot = t) ∨ (e.2.state = .confirmed ∧ e.2.start = t) ↔ e.2.changesAt t := by
      rw [e.2.due_iff]
      rfl
    by_cases hch : e.2.changesAt t
    · rw [if_pos (hc.2 hch)]
      obtain ⟨hrise, hmem⟩ := ih _ (pairwise_addTo h)
      refine ⟨hrise, fun n => ?_⟩
      simp only [hmem, mem_addTo, List.mem_cons, exists_eq_or_imp, hch, and_true, or_assoc, eq_comm (a := n)]
    · rw [if_neg (mt hc.1 hch)]
      obtain ⟨hrise, hmem⟩ := ih _ h
      refine ⟨hrise, fun n => ?_⟩
      simp only [hmem, List.mem_cons, exists_eq_or_imp, hch, and_false, false_or]

theorem State.noticeStep_eq (s : State) (ns : List Nat) : s.noticeStep ns = { s with
    mail.notices := s.mail.notices ++ ns.map fun n => { point := n, order := s.obk.scheduledOf n } } := by
  unfold State.noticeStep
  induction ns generalizing s with
  | nil => simp
  | cons n ns ih =>
    rw [List.foldl_cons, ih]
    simp [State.notify]

/-! ### Step 4 (R77) and the whole boundary -/

theorem State.tooSoon_iff (s : State) (start lag : Nat) :
    s.tooSoon start lag = true ↔ start < lag + s.obk.slot + 1 + s.settings.lead := s.releaseWithin_iff _ _ _

theorem Template.firesAt_iff (t : Nat) (m : Template) :
    m.firesAt t = true ↔ m.state = .active ∧ m.next + m.duration = t + 672 := by
  simp [Template.firesAt, Config.horizon]

theorem exec_orderBookBoundary_idle {s : State} (h : s.mail.orderBook = []) :
    exec .orderBookBoundary s = .next s := by
  change execOrderBookBoundary s = _
  simp only [execOrderBookBoundary, h]

theorem exec_orderBookBoundary {s : State} {t : Nat} {rest : List Nat} (h : s.mail.orderBook = t :: rest) :
    exec .orderBookBoundary s = .next (({ s with mail.orderBook := rest } : State).bookBoundary t).arbitrate := by
  change execOrderBookBoundary s = _
  simp only [execOrderBookBoundary, h]

theorem State.firingStep_eq (t : Nat) (s : State) : s.firingStep t = s.obk.templates.foldl
    (fun u e => if e.2.state = .active ∧ e.2.next + e.2.duration = t + 672 then u.fire e.1 e.2 else u) s := by
  unfold State.firingStep
  refine congrArg (fun f => s.obk.templates.foldl f s) (funext fun u => funext fun e => ?_)
  simp only [Template.firesAt_iff]

end Sys2Proof.Machine
end

section
/-! The Order Book takes a boundary (R61 to R64, R77, R78, R83). -/

namespace Sys2Proof.Machine

/-- Step 4 on one entry at the boundary that makes slot t current. -/
theorem State.expireEntry_named {u : State} {h i : Nat} {o : Order} (hn : u.obk.named? h = some (i, o)) :
    u.expireEntry h =
      if o.start < lagOf u.cal.reaches (u.reachOf o) + u.obk.slot + 1 + u.settings.lead then u.expireOrder i o
      else u := by
  simp only [State.expireEntry, hn, State.tooSoon_iff]

theorem State.expireEntry_unnamed {u : State} {h : Nat} (hn : u.obk.named? h = none) : u.expireEntry h = u := by
  simp only [State.expireEntry, hn]

/-- Settles O32: steps 1 to 3 each lift orders over the whole table; the notices, the expiry and the firings are
walks of their own, and the boundary is the six in their order. -/
theorem orderBookBoundaryRunsTheSixSteps : Obligations.OrderBookBoundaryRunsTheSixSteps := by
  constructor
  · intro s t hr closes ends starts lifts only
    refine ⟨?closing, ?ending, ?starting, ?notices⟩
    case closing =>
      have hcloses : ∀ o, Order.closesBy t o = true ↔ closes o := fun o => decide_eq_true_iff
      rw [State.closeStep_eq]
      refine ⟨State.liftOrders_frame _ _ _ s, fun i => State.lift_marks hr hcloses, fun i o ho =>
        ⟨fun h => State.lift_lifted hr ho ((hcloses o).2 h),
          fun h => State.lift_left hr ho (Bool.eq_false_of_not_eq_true (mt (hcloses o).1 h))⟩, ?_, fun _ n => ?_⟩
      · rw [List.any_eq_true]
        constructor
        · rintro ⟨e, he, hp⟩
          obtain ⟨hc, hs⟩ := Bool.and_eq_true_iff.1 hp
          rw [decide_eq_true_iff, Order.share_of_closesBy hc] at hs
          exact ⟨e.1, e.2, cell?_of_mem hr he, (hcloses _).1 hc, by omega⟩
        · rintro ⟨i, o, ho, hc, hd⟩
          have hc := (hcloses o).2 hc
          refine ⟨(i, o), mem_of_cell? ho, Bool.and_eq_true_iff.2 ⟨hc, decide_eq_true ?_⟩⟩
          rw [Order.share_of_closesBy hc]
          omega
      · refine (State.lift_account? (g := Order.closed) hr fun o _ => ⟨rfl, Nat.zero_le _, Nat.zero_le _⟩).trans ?_
        exact congrArg (fun f => Option.map f (s.account? n)) (funext (Account.lifted_closed t n s.obk.orders))
    case ending =>
      have hends : ∀ o, Order.endsAt t o = true ↔ ends o := Order.endsAt_iff t
      rw [State.endStep_eq]
      exact ⟨State.liftOrders_frame _ _ _ s, fun i => State.lift_marks hr hends,
        fun _ n => State.lift_account?_same hr (fun _ => rfl) fun _ => Order.ended_figures,
        fun i o ho => ⟨fun h => State.lift_lifted hr ho ((hends o).2 h),
          fun h => State.lift_left hr ho (Bool.eq_false_of_not_eq_true (mt (hends o).1 h))⟩⟩
    case starting =>
      have hstarts : ∀ o, s.startsAt t o = true ↔ starts o ∧ (s.point? o.point).isSome = true :=
        fun o => decide_eq_true_iff
      rw [State.startStep_eq]
      refine ⟨State.liftOrders_frame _ _ _ s, fun i => State.lift_marks hr hstarts,
        fun _ n => State.lift_account?_same hr (fun _ => rfl) fun _ => State.started_figures, fun i o p ho hp => ?_⟩
      have lifted : starts o → ∀ m, p.mode = m →
          cell? (s.liftOrders (s.startsAt t) s.started s.obk.orders).obk.orders i = some (o.under m) := by
        intro hs m hm
        have hmode : s.modeOf o.point = m := by simp [State.modeOf, hp, hm]
        rw [State.lift_lifted hr ho ((hstarts o).2 ⟨hs, by simp [hp]⟩), State.started, hmode]
      exact ⟨fun h => lifted h .auto, fun h => lifted h .localHold, fun h => lifted h .disabled,
        fun h => State.lift_left hr ho (Bool.eq_false_of_not_eq_true fun hp => h ((hstarts o).1 hp).1)⟩
    case notices =>
      obtain ⟨hrise, hmem⟩ := changedPoints_foldl t s.obk.orders [] List.Pairwise.nil
      exact ⟨hrise.imp Nat.ne_of_lt, fun n => (hmem n).trans (by simp only [List.not_mem_nil, false_or]; rfl),
        State.noticeStep_eq⟩
  · intro s
    refine ⟨exec_orderBookBoundary_idle, ?_⟩
    intro t rest hm s0 s1 s3 expire s4 s5 again
    have hfired : s4.firingStep t = s5 := s4.firingStep_eq t
    have hagain : ((s0.closeStep t).2 || decide (s4.obk.waiting.length < s3.obk.waiting.length) || s5.obk.owed) =
        true ↔ again := by
      simp only [Bool.or_eq_true, decide_eq_true_iff, or_assoc, again]
    have hbook : ({ s with mail.orderBook := rest } : State).bookBoundary t =
        if ((s0.closeStep t).2 || decide (s4.obk.waiting.length < s3.obk.waiting.length) || s5.obk.owed) = true then
          s5.startReexamination else s5 := by
      rw [← hfired]
      rfl
    refine ⟨fun u h hu => ?_, fun ha => ?_, fun ha => ?_⟩
    · cases hn : u.obk.named? h with
      | none =>
        rw [State.expireEntry_unnamed hn]
        simp only [expire, hn]
      | some e =>
        rw [State.expireEntry_named hn, hu]
        simp only [expire, hn] <;> rfl
    · rw [exec_orderBookBoundary hm, hbook, if_pos (hagain.2 ha)]
    · rw [exec_orderBookBoundary hm, hbook, if_neg (mt hagain.1 ha)]

end Sys2Proof.Machine
end

section
/-! The warm reset at the request port, the field line and the Sweep Engine (R71, R118, R122, R168, R198). -/

namespace Sys2Proof.Machine

/-! ### The request port (R71, R198) -/

theorem State.markHandle_named {s : State} {x : Option Nat} {e : Nat × Order} (h : x.bind s.obk.named? = some e) :
    s.markHandle x = s.markOrder e.1 := by
  simp only [State.markHandle, h]

theorem State.markHandle_unnamed {s : State} {x : Option Nat} (h : x.bind s.obk.named? = none) :
    s.markHandle x = s := by
  simp only [State.markHandle, h]

theorem State.markHandle_frame (s : State) (x : Option Nat) :
    s.markHandle x = { s with obk.marks := (s.markHandle x).obk.marks } := by
  cases h : x.bind s.obk.named? with
  | none => rw [State.markHandle_unnamed h]
  | some e =>
    rw [State.markHandle_named h]
    rfl

/-- The command in execution, other than SOFT_RESET, is orphaned by a warm reset. -/
def Port.orphans (p : Port) : Bool := decide (p.state = .executing ∧ p.executing? ≠ some .softReset)

def Port.warmReset (p : Port) : Port :=
  { p with
    state := if p.orphans then .executing else .idle
    command := if p.orphans then p.command else none
    response := none, overrun := false, orphan := p.orphans }

/-- The handle that a waiting response names. -/
def Port.named (p : Port) : Option Nat := p.waiting?.bind fun r => r.reply.names

theorem State.resetPort_eq (s : State) :
    s.resetPort = { s.markHandle s.port.named with port := s.port.warmReset } := by
  have horphan : (decide (s.port.state = .executing) && decide (s.port.executing? ≠ some .softReset)) =
      s.port.orphans := (Bool.decide_and _ _).symm
  unfold State.resetPort
  rw [horphan]
  cases h : s.port.waiting? with
  | none =>
    have hnamed : s.port.named = none := by simp [Port.named, h]
    rw [hnamed]
    rfl
  | some r =>
    have hnamed : s.port.named = r.reply.names := by simp [Port.named, h]
    rw [hnamed]
    dsimp only [State.markNamed]
    rw [State.markHandle_frame]
    rfl

theorem State.resetPort_frame (s : State) : s.resetPort = { s with
    port := s.port.warmReset, obk.marks := (s.markHandle s.port.named).obk.marks } := by
  rw [State.resetPort_eq, State.markHandle_frame]

theorem Port.waiting?_eq_some {p : Port} {r : Response} :
    p.waiting? = some r ↔ p.state = .responseWaiting ∧ p.response = some r := by
  unfold Port.waiting?
  cases p.state <;> simp

/-- The response that is discarded marks the order it named, if one. -/
theorem State.resetPort_marks_named {s : State} {r : Response} {e : Nat × Order}
    (hw : s.port.waiting? = some r) (hn : r.reply.names.bind s.obk.named? = some e) :
    s.resetPort.obk.marks = addTo s.obk.marks e.1 := by
  have hnamed : s.port.named = r.reply.names := by simp [Port.named, hw]
  rw [State.resetPort_frame, hnamed, State.markHandle_named hn]
  rfl

theorem State.resetPort_marks_unnamed {s : State}
    (h : ∀ r, s.port.waiting? = some r → r.reply.names.bind s.obk.named? = none) :
    s.resetPort.obk.marks = s.obk.marks := by
  have hnone : s.port.named.bind s.obk.named? = none := by
    cases hw : s.port.waiting? with
    | none => simp [Port.named, hw]
    | some r => simpa [Port.named, hw] using h r hw
  rw [State.resetPort_frame, State.markHandle_unnamed hnone]

/-! ### The field line (R118, R122) -/

/-- The station that the transaction polls. -/
def State.asked (s : State) : Option Nat :=
  s.line.transaction.bind fun x =>
    match x.job with
    | .poll a => some a
    | .set _ _ _ => none

/-- The point that the transaction sets, unless it has been removed since. -/
def State.setting (s : State) : Option Nat :=
  s.line.transaction.bind fun x =>
    match x.job with
    | .set n _ false => some n
    | .set _ _ true | .poll _ => none

/-- A point whose SET is abandoned. -/
def Point.unset (p : Point) : Point :=
  { p with field.inFlight := none, field.resendOwed := p.field.resendOwed || p.sendable }

/-- What there is to abandon: nothing, a POLL, a SET of a point that has been removed, or a SET. -/
theorem State.abandon_cases (s : State) :
    (s.line.transaction = none ∧ s.asked = none ∧ s.setting = none ∧ s.abandon = s) ∨
      (∃ a, s.asked = some a ∧ s.setting = none ∧
        s.abandon = s.lineIdle.setStation a { s.station a with due := true }) ∨
      (s.asked = none ∧ s.setting = none ∧ s.abandon = s.lineIdle) ∨
      ∃ n, s.asked = none ∧ s.setting = some n ∧ s.abandon = s.lineIdle.changePoint n Point.unset := by
  unfold State.abandon State.asked State.setting
  cases s.line.transaction with
  | none => exact Or.inl ⟨rfl, rfl, rfl, rfl⟩
  | some x =>
    obtain ⟨job, attempt, lastAttempt, phase, bitRate, timeout⟩ := x
    cases job with
    | poll a => exact Or.inr (Or.inl ⟨a, rfl, rfl, rfl⟩)
    | set n v removed =>
      cases removed with
      | true => exact Or.inr (Or.inr (Or.inl ⟨rfl, rfl, rfl⟩))
      | false => exact Or.inr (Or.inr (Or.inr ⟨n, rfl, rfl, rfl⟩))

theorem State.abandon_frame (s : State) : s.abandon = { s with
    points := s.abandon.points
    line := { s.line with transaction := none, stations := s.abandon.line.stations } } := by
  rcases s.abandon_cases with ⟨ht, -, -, h⟩ | ⟨a, -, -, h⟩ | ⟨-, -, h⟩ | ⟨n, -, -, h⟩
  · rw [h, ← ht]
  · rw [h]
    rfl
  · rw [h]
    rfl
  · rw [h, State.changePoint_frame]
    rfl

theorem State.abandon_station (s : State) (a : Nat) :
    s.abandon.station a = { s.station a with due := (s.station a).due || decide (s.asked = some a) } := by
  rcases s.abandon_cases with ⟨-, ha, -, h⟩ | ⟨b, ha, -, h⟩ | ⟨ha, -, h⟩ | ⟨n, ha, -, h⟩
  · simp [h, ha]
  · rw [h, State.setStation_station, ha]
    by_cases hab : a = b
    · simp [hab]
    · have hba : ¬some b = some a := fun he => hab (Option.some.inj he).symm
      simp only [if_neg hab, hba, decide_false, Bool.or_false]
      rfl
  · simp [h, ha, State.lineIdle, State.station]
  · rw [h, State.changePoint_frame]
    simp [ha, State.lineIdle, State.station]

theorem State.abandon_point? (s : State) (n : Nat) :
    s.abandon.point? n = (s.point? n).map fun p => if s.setting = some n then p.unset else p := by
  rcases s.abandon_cases with ⟨-, -, hn, h⟩ | ⟨b, -, hn, h⟩ | ⟨-, hn, h⟩ | ⟨m, -, hn, h⟩
  · simp [h, hn]
  · simp [h, hn, State.setStation, State.lineIdle, State.point?]
  · simp [h, hn, State.lineIdle, State.point?]
  · rw [h, State.changePoint_point?, hn]
    by_cases hmn : n = m
    · simp [hmn, State.lineIdle, State.point?]
    · have hne : ¬some m = some n := fun he => hmn (Option.some.inj he).symm
      simp [hmn, hne, State.lineIdle, State.point?]

theorem State.abandon_rising {s : State} (h : risingKeys s.points = true) : risingKeys s.abandon.points = true := by
  rcases s.abandon_cases with ⟨-, -, -, he⟩ | ⟨a, -, -, he⟩ | ⟨-, -, he⟩ | ⟨n, -, -, he⟩
  · rwa [he]
  · rwa [he]
  · rwa [he]
  · rw [he]
    exact State.changePoint_rising n _ h

/-! #### Every sendable point is re-evaluated -/

theorem foldl_reevaluate_frame (l : Table Point) (u : State) :
    l.foldl (fun u e => u.reevaluate e.1) u =
      { u with points := (l.foldl (fun u e => u.reevaluate e.1) u).points } := by
  induction l generalizing u with
  | nil => rfl
  | cons e l ih =>
    rw [List.foldl_cons, ih, State.reevaluate_frame]

/-- With no transaction on the line every point of a list is re-evaluated, once or more. -/
theorem foldl_reevaluate_point? (l : Table Point) {u : State} (h : u.line.transaction = none) (n : Nat) :
    (l.foldl (fun u e => u.reevaluate e.1) u).point? n =
      if ∃ e ∈ l, e.1 = n then (u.point? n).map (Point.pendingAgain false) else u.point? n := by
  induction l generalizing u with
  | nil => simp
  | cons e l ih =>
    have hidle : (u.reevaluate e.1).line.transaction = none := by rwa [State.reevaluate_frame]
    have hset : u.line.settingPoint e.1 = false := by simp [Line.settingPoint, h]
    rw [List.foldl_cons, ih hidle, State.reevaluate_point?, hset]
    by_cases he : n = e.1
    · subst he
      have htwice : Point.pendingAgain false ∘ Point.pendingAgain false = Point.pendingAgain false := rfl
      simp [htwice]
    · simp only [if_neg he, List.exists_mem_cons_iff, Ne.symm he, false_or]

theorem State.reevaluateAll_point? {u : State} (h : u.line.transaction = none) (hr : risingKeys u.points = true)
    (n : Nat) : u.reevaluateAll.point? n =
      (u.point? n).map fun p => if p.sendable then p.pendingAgain false else p := by
  unfold State.reevaluateAll
  rw [foldl_reevaluate_point? _ h]
  cases hp : u.point? n with
  | none => simp
  | some p =>
    have hsend : (∃ e ∈ u.points.filter (fun e => e.2.sendable), e.1 = n) ↔ p.sendable = true := by
      constructor
      · rintro ⟨e, he, rfl⟩
        obtain ⟨hm, hs⟩ := List.mem_filter.1 he
        cases hp.symm.trans (cell?_of_mem hr hm)
        exact hs
      · exact fun hs => ⟨(n, p), List.mem_filter.2 ⟨mem_of_cell? hp, hs⟩, rfl⟩
    simp only [hsend, Option.map_some]
    split <;> rfl

theorem valueAt_map {α : Type} (f : α → α) (d : α) (hf : f d = d) (t : Table α) (n : Nat) :
    valueAt d (t.map fun e => (e.1, f e.2)) n = f (valueAt d t n) := by
  unfold valueAt
  rw [cell?_map]
  cases cell? t n with
  | none => exact hf.symm
  | some v => rfl

/-- The line as a warm reset leaves it, before the points are re-evaluated. -/
def State.lineStopped (s : State) : State :=
  { s.abandon with
    line.mode := .stopped
    line.stations := s.abandon.line.stations.map (fun e => (e.1, e.2.restarted)) }

theorem State.resetLine_eq (s : State) : s.resetLine = s.lineStopped.reevaluateAll := rfl

theorem State.resetLine_frame (s : State) : s.resetLine = { s with
    points := s.resetLine.points
    line := { s.line with mode := .stopped, transaction := none, stations := s.lineStopped.line.stations } } := by
  rw [State.resetLine_eq, State.reevaluateAll, foldl_reevaluate_frame]
  unfold State.lineStopped
  rw [State.abandon_frame]

theorem State.resetLine_station (s : State) (a : Nat) : s.resetLine.station a =
    if (s.station a).polled then
      { s.station a with state := .responding, failures := 0, silentSince := none, interval := 0, due := true }
    else { s.station a with due := (s.station a).due || decide (s.asked = some a) } := by
  have hmap : s.resetLine.station a = (s.abandon.station a).restarted := by
    rw [State.resetLine_frame]
    exact valueAt_map Station.restarted .powerOn rfl _ a
  rw [hmap, State.abandon_station]
  cases hp : (s.station a).polled with
  | true => simp [Station.restarted, Station.enter, hp]
  | false => simp [Station.restarted, hp]

theorem State.resetLine_point? {s : State} (hr : risingKeys s.points = true) (n : Nat) :
    s.resetLine.point? n = (s.point? n).map fun p =>
      let q : Point := if s.setting = some n then p.unset else p
      if p.sendable then
        { q with
          field.sendPending := q.field.resendOwed ||
            decide (q.target ≠ q.field.acknowledged ∧ q.field.declined ≠ some q.target) }
      else q := by
  have hidle : s.lineStopped.line.transaction = none := by
    rw [State.lineStopped, State.abandon_frame]
  have hpoint : s.lineStopped.point? n = s.abandon.point? n := rfl
  rw [State.resetLine_eq, State.reevaluateAll_point? hidle (State.abandon_rising hr), hpoint, State.abandon_point?,
    Option.map_map]
  refine congrArg (fun f => Option.map f (s.point? n)) (funext fun p => ?_)
  have hunset : p.unset.sendable = p.sendable := rfl
  rw [Function.comp_apply]
  by_cases hn : s.setting = some n <;> by_cases hs : p.sendable = true <;>
    simp [hn, hs, hunset, Point.pendingAgain, Point.wantsSet]

/-! ### The Sweep Engine (R168) -/

theorem State.abortSweep_frame (s : State) : s.abortSweep = { s with
    sweep := s.abortSweep.sweep, mail.reports := s.abortSweep.mail.reports } := by
  unfold State.abortSweep
  split
  · rfl
  · split <;> rfl

theorem State.abortSweep_idle {s : State} (h : s.sweeping = false) : s.abortSweep = s := by
  unfold State.abortSweep
  unfold State.sweeping at h
  split
  · rfl
  · next w hw =>
    rw [hw] at h
    exact if_neg (of_decide_eq_false h)

theorem State.abortSweep_sweeping {s : State} {w : Sweep} (h : s.sweep.status = some w) (hw : w.state = .inProgress) :
    s.abortSweep = { s with
      sweep := { status := some { w with state := .aborted }, done := true }
      mail.reports := s.mail.reports ++ [{ kind := .sweepAborted, ref := .sweep w.kind w.cursor }] } := by
  simp only [State.abortSweep, h, hw, if_true, State.closeSweep, Option.map_some]
  rfl

end Sys2Proof.Machine
end

section
/-! RESET, SOFT_RESET and the completion of an orphan (R71, R198). -/

namespace Sys2Proof.Machine

section

variable {s : State}

/-! ### The warm reset, record by record -/

theorem State.warmReset_frame (s : State) : s.warmReset = { s with
    port := s.port.warmReset, obk.marks := s.resetPort.obk.marks, points := s.resetPort.resetLine.points
    line := s.resetPort.resetLine.line, sweep := s.warmReset.sweep, mail.reports := s.warmReset.mail.reports } := by
  unfold State.warmReset
  rw [State.abortSweep_frame, State.resetLine_frame, State.resetPort_frame]

theorem State.warmReset_line (s : State) : s.warmReset.line.mode = .stopped ∧
    s.warmReset.line.transaction = none ∧ s.warmReset.line.rotation = s.line.rotation := by
  rw [State.warmReset_frame, State.resetLine_frame, State.resetPort_frame]
  exact ⟨rfl, rfl, rfl⟩

theorem State.warmReset_station (s : State) (a : Nat) : s.warmReset.station a =
    if (s.station a).polled then
      { s.station a with state := .responding, failures := 0, silentSince := none, interval := 0, due := true }
    else { s.station a with due := (s.station a).due || decide (s.asked = some a) } := by
  have hline : s.warmReset.station a = s.resetPort.resetLine.station a := by
    rw [State.warmReset_frame]
    rfl
  rw [hline, State.resetLine_station, State.resetPort_frame]
  rfl

theorem State.warmReset_point? (hr : risingKeys s.points = true) (n : Nat) :
    s.warmReset.point? n = (s.point? n).map fun p =>
      let q : Point := if s.setting = some n then p.unset else p
      if p.sendable then
        { q with
          field.sendPending := q.field.resendOwed ||
            decide (q.target ≠ q.field.acknowledged ∧ q.field.declined ≠ some q.target) }
      else q := by
  have hpoint : s.warmReset.point? n = s.resetPort.resetLine.point? n := by
    rw [State.warmReset_frame]
    rfl
  have hrise : risingKeys s.resetPort.points = true := by
    rw [State.resetPort_frame]
    exact hr
  rw [hpoint, State.resetLine_point? hrise, State.resetPort_frame]
  rfl

theorem State.warmReset_idle (h : s.sweeping = false) :
    s.warmReset.sweep = s.sweep ∧ s.warmReset.mail.reports = s.mail.reports := by
  have hidle : s.resetPort.resetLine.sweeping = false := by
    rw [State.resetLine_frame, State.resetPort_frame]
    exact h
  rw [State.warmReset, State.abortSweep_idle hidle, State.resetLine_frame, State.resetPort_frame]
  exact ⟨rfl, rfl⟩

theorem State.warmReset_sweeping {w : Sweep} (h : s.sweep.status = some w) (hw : w.state = .inProgress) :
    s.warmReset.sweep = { status := some { w with state := .aborted }, done := true } ∧
      s.warmReset.mail.reports =
        s.mail.reports ++ [{ kind := .sweepAborted, ref := .sweep w.kind w.cursor }] := by
  have hstatus : s.resetPort.resetLine.sweep.status = some w := by
    rw [State.resetLine_frame, State.resetPort_frame]
    exact h
  rw [State.warmReset, State.abortSweep_sweeping hstatus hw, State.resetLine_frame, State.resetPort_frame]
  exact ⟨rfl, rfl⟩

/-! ### The command that is executed -/

/-- A request other than PLACE that has been handed over completes as its owning block completes it. -/
theorem completes_runRequest {c : Instr} (hh : s.handed c = true) (hp : isPlace c = false)
    (hs : c ≠ .softReset) : ∃ t r, runRequest c s = (t, some r) ∧ Completes c s t r := by
  obtain ⟨act, hact, hrun⟩ := exec_of_request (State.requestBytes_of_handed hh) hp hs
  refine ⟨_, _, hrun s, completes_of_handed (hact s) hh rfl ?_⟩
  have hkept := runRequest_queueAndCommand c s
  rw [hrun] at hkept
  exact congrArg Prod.snd hkept

theorem exec_runRequest {c : Instr} (hh : s.handed (onPort c) = true) (hs : c ≠ .softReset) :
    match runRequest c s with
    | (t, some r) => Completes c s t r
    | (t, none) => exec c s = .next t := by
  cases hp : isPlace c with
  | false =>
    have hport : onPort c = c := by
      cases c
      case place => cases hp
      all_goals rfl
    rw [hport] at hh
    obtain ⟨t, r, hrun, hdone⟩ := completes_runRequest hh hp hs
    rw [hrun]
    exact hdone
  | true =>
    cases c
    case place p u d f o l n =>
      change match reqPlace p u d f o l n s with
        | (t, some r) => Completes (.place p u d f o l n) s t r
        | (t, none) => exec (.place p u d f o l n) s = .next t
      cases hr : reqPlace p u d f o l n s with
      | mk t a =>
        cases a with
        | some r => exact completes_place hh hr
        | none => exact (exec_place_searching hh (congrArg Prod.snd hr)).trans (by rw [hr])
    all_goals cases hp

/-! ### The orphan (R71, R198) -/

theorem execOrphanCompletion_absent (h : s.port.orphan = false ∨ s.port.executing? = none) :
    execOrphanCompletion s = .next s := by
  unfold execOrphanCompletion
  rcases h with h | h
  · simp [h]
  · simp [h]

section

variable {c : Instr} {t : State} (ho : s.port.orphan = true) (hc : s.port.executing? = some c)

include ho hc

theorem execOrphanCompletion_searching (hr : runRequest c s = (t, none)) :
    execOrphanCompletion s = .next t := by
  simp [execOrphanCompletion, ho, hc, hr]

theorem execOrphanCompletion_answered {r : Reply} (hr : runRequest c s = (t, some r)) :
    execOrphanCompletion s = .next { t with
      port := { t.port with state := .idle, command := none, orphan := false }
      obk.marks := (t.markHandle r.names).obk.marks } := by
  have hport : (t.markHandle r.names).port = t.port := by rw [State.markHandle_frame]
  simp only [execOrphanCompletion, ho, hc, hr, if_true, State.markNamed, hport]
  rw [State.markHandle_frame]
  rfl

end

end

/-- Settles O56: the warm reset is read record by record off its three parts; what is executed, orphaned or not, is
the request at its owning block. -/
theorem warmResetActsOnPortLineAndSweep : Obligations.WarmResetActsOnPortLineAndSweep := by
  unfold Obligations.WarmResetActsOnPortLineAndSweep
  intro resets s hr
  have hresets : ∀ u : State, risingKeys u.points = true → resets u u.warmReset := by
    intro u hu
    have hmarks : u.warmReset.obk.marks = u.resetPort.obk.marks := by rw [State.warmReset_frame]
    refine ⟨?_, ?_, fun r e hs hresponse hn => ?_, fun h => ?_, u.warmReset_line, u.warmReset_station,
      State.warmReset_point? hu, State.warmReset_idle, fun w => State.warmReset_sweeping⟩
    · rw [State.warmReset_frame]
    · rw [State.warmReset_frame]
      rfl
    · rw [hmarks]
      exact State.resetPort_marks_named (Port.waiting?_eq_some.2 ⟨hs, hresponse⟩) hn
    · rw [hmarks]
      refine State.resetPort_marks_unnamed fun r hw => ?_
      obtain ⟨hs, hresponse⟩ := Port.waiting?_eq_some.1 hw
      exact h hs r hresponse
  refine ⟨fun ha => if_pos ha, fun ha hp => ⟨_, ?_, hresets _ hr⟩, fun ha hp => ?_,
    fun hh => ⟨_, if_pos hh, hresets s hr⟩, fun hh => if_neg (by simp [hh]), rfl, fun c => exec_runRequest,
    fun h => execOrphanCompletion_absent h, fun c ho hc => ?_⟩
  · change execResetAsserted s = _
    simp [execResetAsserted, ha, hp]
  · change execResetAsserted s = _
    simp [execResetAsserted, ha, hp]
  · cases hrun : runRequest c s with
    | mk t a =>
      cases a with
      | none => exact execOrphanCompletion_searching ho hc hrun
      | some r =>
        refine ⟨_, execOrphanCompletion_answered ho hc hrun, fun e he => ?_, fun hn => ?_⟩
        · rw [State.markHandle_named he]
          rfl
        · rw [State.markHandle_unnamed hn]

end Sys2Proof.Machine
end

section
/-! The standing order requests and the first-occurrence rule (R81, R82, R85, R86). -/

namespace Sys2Proof.Machine

/-! ### The first-occurrence rule (R81) -/

theorem firstOccurrence_eq (t offset d : Nat) :
    firstOccurrence t offset d =
      t + 673 - d + (offset + 672 - (t + 673 - d) % 672) % 672 := rfl

/-- A start at or after `lo` with the remainder, less than a week later: the earliest one. -/
theorem earliest_of_remainder {lo offset : Nat} (ho : offset < 672) :
    (lo + (offset + 672 - lo % 672) % 672) % 672 = offset ∧
      ∀ s', s' % 672 = offset → lo ≤ s' → lo + (offset + 672 - lo % 672) % 672 ≤ s' := by
  exact ⟨by omega, fun s' hs hlo => by omega⟩

/-- Settles O29: the rule adds to the bound t + 673 − d the distance, below a week, to the remainder. -/
theorem firstOccurrenceIsTheEarliestBeyondTheHorizon :
    Obligations.FirstOccurrenceIsTheEarliestBeyondTheHorizon := by
  unfold Obligations.FirstOccurrenceIsTheEarliestBeyondTheHorizon
  intro t offset d ho hd
  obtain ⟨hrem, hleast⟩ := earliest_of_remainder (lo := t + 673 - d) ho
  rw [← firstOccurrence_eq] at hrem hleast
  have hge : t + 673 - d ≤ firstOccurrence t offset d := Nat.le_add_right _ _
  exact ⟨hrem, by omega, fun s' hs hlate => hleast s' hs (by omega)⟩

/-! ### STANDING_SET (R82) -/

theorem OnConflict.ofCode?_isNone (k : Nat) : (OnConflict.ofCode? k).isNone = true ↔ 2 < k := by
  constructor
  · intro h
    by_contra hk
    obtain ⟨c, hc, -⟩ := OnConflict.ofCode?_exists hk
    simp [hc] at h
  · intro h
    match k with
    | k + 3 => rfl

theorem State.standingBadParam_iff (s : State) (x n offset d flow conflict : Nat) (count : Option Nat) :
    s.standingBadParam x n offset d flow conflict count = true ↔
      191 < x ∨ 1023 < n ∨ 671 < offset ∨ d < 1 ∨ 192 < d ∨ flow < 1 ∨ 2000 < flow ∨ 2 < conflict ∨
        (∃ m, count = some m ∧ (m < 1 ∨ 250 < m)) ∨
        ∃ p, s.point? n = some p ∧ p.kind = .turnout ∧ p.rated < flow := by
  have hrated : (s.turnout? n).any (fun p => decide (p.rated < flow)) = true ↔
      ∃ p, s.point? n = some p ∧ p.kind = .turnout ∧ p.rated < flow := by
    unfold State.turnout?
    cases s.point? n with
    | none => simp
    | some p => by_cases hk : p.kind = .turnout <;> simp [hk]
  simp only [State.standingBadParam, Bool.or_eq_true, decide_eq_true_eq, OnConflict.ofCode?_isNone, hrated,
    Option.any_eq_true, Nat.succ_le_iff, or_assoc]

/-- The record that STANDING_SET writes (R82). -/
def Template.asked (n offset d flow : Nat) (k : OnConflict) (count : Option Nat) (slot : Nat) : Template :=
  { state := .active, point := n, offset := offset, duration := d, flow := flow, conflict := k,
    remaining := count, next := firstOccurrence slot offset d, refusals := 0, lastResult := none,
    lastOrder := none }

section StandingSet

variable {s : State} {x n offset d flow conflict : Nat} {count : Option Nat} {p : Point}

theorem reqStandingSet_bad (h : s.standingBadParam x n offset d flow conflict count = true) :
    reqStandingSet x n offset d flow conflict count s = (s, refusal .badParam) := if_pos h

variable (h : ¬s.standingBadParam x n offset d flow conflict count = true)

include h

theorem reqStandingSet_noPoint (hp : s.turnout? n = none) :
    reqStandingSet x n offset d flow conflict count s = (s, refusal .noSuchPoint) := by
  unfold reqStandingSet
  rw [if_neg h, hp]

theorem reqStandingSet_notOpen (hp : s.turnout? n = some p) (ha : s.openAccount? p = none) :
    reqStandingSet x n offset d flow conflict count s = (s, refusal .accountNotOpen) := by
  unfold reqStandingSet
  rw [if_neg h, hp]
  simp only [ha]

theorem reqStandingSet_writes {a : Account} {k : OnConflict} (hp : s.turnout? n = some p)
    (ha : s.openAccount? p = some a) (hk : OnConflict.ofCode? conflict = some k) :
    reqStandingSet x n offset d flow conflict count s =
      ({ s with obk.templates :=
          setCell s.obk.templates x (Template.asked n offset d flow k count s.obk.slot) },
        answer .done (be32 (firstOccurrence s.obk.slot offset d) ++
          be32 (firstOccurrence s.obk.slot offset d + d - 672))) := by
  unfold reqStandingSet
  rw [if_neg h, hp]
  simp only [ha, hk]
  rfl

end StandingSet

/-! ### STANDING_RESUME (R85), STANDING_CLEAR (R86) -/

section StandingResume

variable {s : State} {x : Nat} {t : Template}

theorem reqStandingResume_bad (hx : 191 < x) : reqStandingResume x s = (s, refusal .badParam) := if_pos hx

theorem reqStandingResume_notSuspended (hx : x ≤ 191)
    (h : ∀ t, cell? s.obk.templates x = some t → t.state ≠ .suspended) :
    reqStandingResume x s = (s, refusal .wrongState) := by
  unfold reqStandingResume
  rw [if_neg (Nat.not_le.2 (Nat.lt_succ_of_le hx) : ¬Config.templates ≤ x)]
  split
  · rfl
  · next t ht => exact if_neg (h t ht)

theorem reqStandingResume_suspended (hx : x ≤ 191) (ht : cell? s.obk.templates x = some t)
    (hs : t.state = .suspended) :
    reqStandingResume x s =
      ({ s with obk.templates := setCell s.obk.templates x { t with
          state := .active, refusals := 0, next := firstOccurrence s.obk.slot t.offset t.duration } },
        answer .done (be32 (firstOccurrence s.obk.slot t.offset t.duration))) := by
  unfold reqStandingResume
  rw [if_neg (Nat.not_le.2 (Nat.lt_succ_of_le hx) : ¬Config.templates ≤ x), ht]
  exact if_pos hs

theorem reqStandingClear_bad (hx : 191 < x) : reqStandingClear x s = (s, refusal .badParam) := if_pos hx

theorem reqStandingClear_clears (hx : x ≤ 191) :
    reqStandingClear x s = ({ s with obk.templates := delCell s.obk.templates x }, doneReply) :=
  if_neg (Nat.not_lt.2 hx)

end StandingResume

/-- Settles O28: each way through the three requests writes the one record, or refuses. -/
theorem standingRequestsWriteTheTemplate : Obligations.StandingRequestsWriteTheTemplate := by
  unfold Obligations.StandingRequestsWriteTheTemplate
  intro s
  refine ⟨fun x n offset d flow conflict count hh => ?_, fun x hh => ?_, fun x hh => ?_⟩
  · intro c bad opened
    have hbad : bad ↔ s.standingBadParam x n offset d flow conflict count = true :=
      (s.standingBadParam_iff x n offset d flow conflict count).symm
    refine ⟨fun hb => ?_, fun hb hp => ?_, fun hb p hp hk ha => ?_, fun hb p hp hk ha => ?_⟩
    · exact refuses_of_handed rfl hh (reqStandingSet_bad (hbad.1 hb))
    · exact refuses_of_handed rfl hh (reqStandingSet_noPoint (mt hbad.2 hb) (State.turnout?_eq_none hp))
    · exact refuses_of_handed rfl hh (reqStandingSet_notOpen (mt hbad.2 hb) (State.turnout?_eq_some hp hk)
        (State.openAccount?_eq_none ha))
    · obtain ⟨i, a, hi, ha, ho⟩ := ha
      have hconflict : ¬2 < conflict := fun hc => hb (by simp only [bad, hc, true_or, or_true])
      obtain ⟨k, hk', hslide, hqueue⟩ := OnConflict.ofCode?_exists hconflict
      refine ⟨_, k, ?_, fun y => cell?_setCell _ _ _ _, ?_⟩
      · cases k
        · exact Or.inl ⟨by simp at hslide hqueue; omega, rfl⟩
        · exact Or.inr (Or.inl ⟨hslide.1 rfl, rfl⟩)
        · exact Or.inr (Or.inr ⟨hqueue.1 rfl, rfl⟩)
      · exact completes_of_handed rfl hh (reqStandingSet_writes (mt hbad.2 hb) (State.turnout?_eq_some hp hk)
          (State.openAccount?_eq_some hi ha ho) hk') rfl
  · refine ⟨fun hx => refuses_of_handed rfl hh (reqStandingResume_bad hx),
      fun hx ht => refuses_of_handed rfl hh (reqStandingResume_notSuspended hx ht), fun hx t ht hs => ?_⟩
    exact ⟨_, fun y => cell?_setCell _ _ _ _,
      completes_of_handed rfl hh (reqStandingResume_suspended hx ht hs) rfl⟩
  · exact ⟨fun hx => refuses_of_handed rfl hh (reqStandingClear_bad hx),
      fun hx => ⟨_, fun y => cell?_delCell _ _ _, completes_of_handed rfl hh (reqStandingClear_clears hx) rfl⟩⟩

end Sys2Proof.Machine
end

section
/-! A firing (R83, R84), and the re-examination of the waiting list entry by entry (R74, R75). -/

namespace Sys2Proof.Machine

/-! ### A firing -/

/-- A firing whose PLACE makes an order: the mark of the order, then the template, never SUSPENDED. -/
theorem State.fire_created {s s1 : State} {x h i : Nat} {m : Template} {r : Result} {o : Order}
    (hp : s.placeFirst (m.ask x) 96 = (s1, .created r h)) (hn : s1.obk.named? h = some (i, o)) :
    s.fire x m = { s1 with
      obk.marks := addTo s1.obk.marks i
      obk.templates := setCell s1.obk.templates x (m.fired r (some h)) } := by
  have hstate : (m.fired r (some h)).state ≠ .suspended := by
    unfold Template.fired
    simp only [Option.isSome_some, if_true]
    split_ifs with _ hthree
    · nofun
    · exact absurd hthree (by decide)
    · nofun
  have hmark : s1.markHandle (some h) = s1.markOrder i := State.markHandle_named (x := some h) hn
  unfold State.fire
  simp only [hp, Placed.outcome, hmark]
  exact if_neg hstate

/-- A firing whose PLACE is refused: the template alone, and a report when it is then SUSPENDED. -/
theorem State.fire_refused {s : State} {x : Nat} {m : Template} {a : Reply}
    (hp : s.placeFirst (m.ask x) 96 = (s, .refused a)) :
    s.fire x m =
      if (m.fired a.result none).state = .suspended then
        State.report .standingSuspended (.number x)
          { s with obk.templates := setCell s.obk.templates x (m.fired a.result none) }
      else { s with obk.templates := setCell s.obk.templates x (m.fired a.result none) } := by
  unfold State.fire
  simp only [hp]
  rfl

/-- Settles O30: the two ends of the firing's PLACE, each with the template R84 gives. -/
theorem firingUpdatesTheTemplate : Obligations.FiringUpdatesTheTemplate := by
  unfold Obligations.FiringUpdatesTheTemplate
  intro s x m q placed after
  exact ⟨fun s1 r h i o hp hn => State.fire_created hp hn, fun a hp => State.fire_refused hp⟩

/-! ### Re-examination -/

/-- A handle that names an entry is that entry's handle (R38). -/
theorem OrderBook.handle_of_named? {b : OrderBook} {h i : Nat} {o : Order} (hn : b.named? h = some (i, o)) :
    b.handle i = h := by
  unfold OrderBook.named? at hn
  split at hn
  · cases hn
  · split_ifs at hn with hg
    cases hn
    rw [OrderBook.handle, hg]
    exact Nat.div_add_mod' h _

section Reexamined

variable {s : State} {h i : Nat} {o : Order} {p : Point} (hn : s.obk.named? h = some (i, o))
  (hp : s.point? o.point = some p)

include hn hp

/-- The test of check 4, then of checks 5 to 7 (R75). -/
theorem State.reexamineEntry_eq :
    s.reexamineEntry h =
      if s.tooSoon o.start (lagOf s.cal.reaches p.reach) || s.pastHorizon o.endSlot then s.expireOrder i o
      else
        match s.tryWindow o.point p.reach o.account o.start o.duration o.flow (some i) with
        | .error _ => s
        | .ok c =>
          (((s.withRing c).leaveWaiting h).putOrder i { o with state := .confirmed }).markOrder i := by
  unfold State.reexamineEntry
  simp only [hn, hp] <;> rfl

end Reexamined

theorem State.late_iff (s : State) (o : Order) (lag : Nat) :
    (s.tooSoon o.start lag || s.pastHorizon o.endSlot) = true ↔
      o.start < lag + s.obk.slot + 1 + s.settings.lead ∨ s.obk.slot + 672 < o.start + o.duration := by
  rw [Bool.or_eq_true]
  exact or_congr decide_eq_true_iff decide_eq_true_iff

/-- Settles O31: the walk as it stands, and for one entry the test of check 4 and that of checks 5 to 7. -/
theorem reexaminationTestsEveryEntry : Obligations.ReexaminationTestsEveryEntry := by
  unfold Obligations.ReexaminationTestsEveryEntry
  intro s
  refine ⟨fun hs => if_pos hs, fun hs => if_neg (by simp [hs]), fun h i o p hn hp => ?_⟩
  intro s1 late window
  have hlate : (s.tooSoon o.start (lagOf s.cal.reaches p.reach) || s.pastHorizon o.endSlot) = true ↔ late :=
    s.late_iff o _
  have heq := State.reexamineEntry_eq hn hp
  refine ⟨fun hl => ?_, fun hl r hw => ?_, fun hl ring hw => ?_⟩
  · rw [heq, if_pos (hlate.2 hl), State.expireOrder, OrderBook.handle_of_named? hn]
    rfl
  · rw [heq, if_neg (mt hlate.1 hl)]
    simp only [window] at hw
    rw [hw]
  · rw [heq, if_neg (mt hlate.1 hl)]
    simp only [window] at hw
    rw [hw]

end Sys2Proof.Machine
end

section
/-! The waiting list as an invariant: what it reads of the order table, and how it follows one entry that is
rewritten or freed (R40, R72, R73). -/

namespace Sys2Proof.Machine

/-! ### What the waiting list reads -/

/-- What the waiting list reads of an order. -/
def Order.queuePart (o : Order) : Nat × Bool := (o.sequence, decide (o.state = .pendingWait))

theorem Order.queuePart_eq {o o' : Order} (hs : o'.sequence = o.sequence) (ho : o.state ≠ .pendingWait)
    (ho' : o'.state ≠ .pendingWait) : o'.queuePart = o.queuePart := by
  simp [Order.queuePart, hs, ho, ho']

theorem Order.waits_of_queuePart {o o' : Order} (h : o'.queuePart = o.queuePart) :
    o'.sequence = o.sequence ∧ (o'.state = .pendingWait ↔ o.state = .pendingWait) := by
  simpa [Order.queuePart] using h

/-- Every entry, every generation, the list and the placement sequence are one to the waiting list. -/
structure SameQueue (s t : State) : Prop where
  rise : risingKeys s.obk.orders = true → risingKeys t.obk.orders = true
  orders : ∀ i, (cell? t.obk.orders i).map Order.queuePart = (cell? s.obk.orders i).map Order.queuePart
  generations : t.obk.generations = s.obk.generations
  waiting : t.obk.waiting = s.obk.waiting
  sequence : t.obk.sequence = s.obk.sequence

namespace SameQueue

variable {s t : State}

theorem of_eq (ho : t.obk.orders = s.obk.orders) (hg : t.obk.generations = s.obk.generations)
    (hw : t.obk.waiting = s.obk.waiting) (hs : t.obk.sequence = s.obk.sequence) : SameQueue s t :=
  ⟨fun hr => by rwa [ho], fun i => by rw [ho], hg, hw, hs⟩

theorem of_obk (h : t.obk = s.obk) : SameQueue s t :=
  of_eq (by rw [h]) (by rw [h]) (by rw [h]) (by rw [h])

/-- An order of the one table has its like in the other. -/
theorem like (h : SameQueue s t) {i : Nat} {o' : Order} (ho : cell? t.obk.orders i = some o') :
    ∃ o, cell? s.obk.orders i = some o ∧ o'.sequence = o.sequence ∧
      (o'.state = .pendingWait ↔ o.state = .pendingWait) := by
  have hi := h.orders i
  rw [ho, Option.map_some, eq_comm, Option.map_eq_some_iff] at hi
  obtain ⟨o, hc, hpart⟩ := hi
  exact ⟨o, hc, Order.waits_of_queuePart hpart.symm⟩

theorem like' (h : SameQueue s t) {i : Nat} {o : Order} (ho : cell? s.obk.orders i = some o) :
    ∃ o', cell? t.obk.orders i = some o' ∧ o'.sequence = o.sequence ∧
      (o'.state = .pendingWait ↔ o.state = .pendingWait) := by
  have hi := h.orders i
  rw [ho, Option.map_some, Option.map_eq_some_iff] at hi
  obtain ⟨o', hc, hpart⟩ := hi
  exact ⟨o', hc, Order.waits_of_queuePart hpart⟩

theorem handle (h : SameQueue s t) : t.obk.handle = s.obk.handle := by
  funext i
  simp only [OrderBook.handle, OrderBook.generation, h.generations]

end SameQueue

/-- The placement sequence behind the handle of an entry. -/
theorem OrderBook.sequenceOf_handle {b : OrderBook} {i : Nat} {o : Order} (hi : i < 2048)
    (ho : cell? b.orders i = some o) : b.sequenceOf (b.handle i) = o.sequence := by
  simp [OrderBook.sequenceOf, OrderBook.named?_handle hi ho]

theorem OrderBook.handle_injective {b : OrderBook} {i k : Nat} (hi : i < 2048) (hk : k < 2048)
    (h : b.handle i = b.handle k) : i = k := by
  rw [← b.handle_mod hi, h, b.handle_mod hk]

namespace State.queued

variable {s t : State} {i : Nat}

theorem ordersRise (h : s.queued) : risingKeys s.obk.orders = true := by
  obtain ⟨hrise, -⟩ := h
  exact hrise

theorem entry (h : s.queued) {o : Order} (ho : cell? s.obk.orders i = some o) :
    i < 2048 ∧ o.sequence ≤ s.obk.sequence := by
  obtain ⟨-, hentries, -⟩ := h
  exact hentries i o ho

theorem waits_iff (h : s.queued) (x : Nat) : x ∈ s.obk.waiting ↔
    ∃ i o, cell? s.obk.orders i = some o ∧ o.state = .pendingWait ∧ x = s.obk.handle i := by
  obtain ⟨-, -, hlist, -⟩ := h
  exact hlist x

theorem sorted (h : s.queued) : (s.obk.waiting.map s.obk.sequenceOf).Pairwise (· < ·) := by
  obtain ⟨-, -, -, hsorted, -⟩ := h
  exact hsorted

theorem room (h : s.queued) : s.obk.waiting.length ≤ 96 := by
  obtain ⟨-, -, -, -, hroom⟩ := h
  exact hroom

/-- An order that does not wait is not on the list. -/
theorem handle_notMem (h : s.queued) (hi : i < 2048)
    (hn : ∀ o, cell? s.obk.orders i = some o → o.state ≠ .pendingWait) : s.obk.handle i ∉ s.obk.waiting := by
  intro hm
  obtain ⟨k, o, ho, hw, he⟩ := (h.waits_iff _).1 hm
  obtain rfl := OrderBook.handle_injective hi (h.entry ho).1 he
  exact hn o ho hw

/-- The list is right when all that it reads is the same. -/
theorem same (h : s.queued) (hq : SameQueue s t) : t.queued := by
  have hseq : t.obk.waiting.map t.obk.sequenceOf = s.obk.waiting.map s.obk.sequenceOf := by
    rw [hq.waiting]
    refine List.map_congr_left fun x hx => ?_
    obtain ⟨i, o, ho, -, rfl⟩ := (h.waits_iff x).1 hx
    obtain ⟨o', ho', hs, -⟩ := hq.like' ho
    rw [OrderBook.sequenceOf_handle (h.entry ho).1 ho, ← hs, ← hq.handle,
      OrderBook.sequenceOf_handle (h.entry ho).1 ho']
  refine ⟨hq.rise h.ordersRise, fun i o ho => ?_, fun x => ?_, by rw [hseq]; exact h.sorted,
    by rw [hq.waiting]; exact h.room⟩
  · obtain ⟨o', ho', hs, -⟩ := hq.like ho
    rw [hs, hq.sequence]
    exact h.entry ho'
  · rw [hq.waiting, h.waits_iff x, hq.handle]
    constructor
    · rintro ⟨i, o, ho, hw, rfl⟩
      obtain ⟨o', ho', -, hw'⟩ := hq.like' ho
      exact ⟨i, o', ho', hw'.2 hw, rfl⟩
    · rintro ⟨i, o, ho, hw, rfl⟩
      obtain ⟨o', ho', -, hw'⟩ := hq.like ho
      exact ⟨i, o', ho', hw'.1 hw, rfl⟩

end State.queued

/-! ### One entry is rewritten or freed -/

/-- The table has changed at entry i alone; its handle has been taken off the list, and w put at the end. -/
structure Requeued (s t : State) (i : Nat) (w : List Nat) : Prop where
  index : i < 2048
  rise : risingKeys s.obk.orders = true → risingKeys t.obk.orders = true
  orders : ∀ k, k ≠ i → cell? t.obk.orders k = cell? s.obk.orders k
  generation : ∀ k, k ≠ i → t.obk.generation k = s.obk.generation k
  waiting : t.obk.waiting = dropFrom s.obk.waiting (s.obk.handle i) ++ w
  sequence : s.obk.sequence ≤ t.obk.sequence
  placed : ∀ o, cell? t.obk.orders i = some o → o.sequence ≤ t.obk.sequence

namespace Requeued

variable {s t : State} {i : Nat} {w : List Nat}

theorem handle (hq : Requeued s t i w) {k : Nat} (hk : k ≠ i) : t.obk.handle k = s.obk.handle k := by
  rw [OrderBook.handle, hq.generation k hk]
  rfl

/-- Those that stay on the list are the other waiting orders, with the placement sequences they had. -/
theorem mem_left (hq : Requeued s t i w) (h : s.queued) (x : Nat) :
    x ∈ dropFrom s.obk.waiting (s.obk.handle i) ↔
      ∃ k o, k ≠ i ∧ cell? t.obk.orders k = some o ∧ o.state = .pendingWait ∧ x = t.obk.handle k := by
  rw [dropFrom, List.mem_filter, h.waits_iff]
  constructor
  · rintro ⟨⟨k, o, ho, hw, rfl⟩, hne⟩
    have hki : k ≠ i := by
      rintro rfl
      simp at hne
    exact ⟨k, o, hki, (hq.orders k hki).trans ho, hw, (hq.handle hki).symm⟩
  · rintro ⟨k, o, hki, ho, hw, rfl⟩
    rw [hq.orders k hki] at ho
    refine ⟨⟨k, o, ho, hw, hq.handle hki⟩, ?_⟩
    rw [hq.handle hki, bne_iff_ne]
    exact fun he => hki (OrderBook.handle_injective (h.entry ho).1 hq.index he)

theorem sequenceOf (hq : Requeued s t i w) (h : s.queued) {x : Nat}
    (hx : x ∈ dropFrom s.obk.waiting (s.obk.handle i)) :
    t.obk.sequenceOf x = s.obk.sequenceOf x ∧ t.obk.sequenceOf x ≤ s.obk.sequence := by
  obtain ⟨k, o, hki, ho, -, rfl⟩ := (hq.mem_left h x).1 hx
  have ho' := (hq.orders k hki).symm.trans ho
  obtain ⟨hk, hle⟩ := h.entry ho'
  rw [OrderBook.sequenceOf_handle hk ho, hq.handle hki, OrderBook.sequenceOf_handle hk ho']
  exact ⟨rfl, hle⟩

/-- What stays on the list is in ascending placement sequence still. -/
theorem left_sorted (hq : Requeued s t i w) (h : s.queued) :
    ((dropFrom s.obk.waiting (s.obk.handle i)).map t.obk.sequenceOf).Pairwise (· < ·) := by
  rw [List.map_congr_left fun x hx => (hq.sequenceOf h hx).1]
  exact h.sorted.sublist (List.filter_sublist.map _)

theorem rest (hq : Requeued s t i w) (h : s.queued) : risingKeys t.obk.orders = true ∧
    ∀ k o, cell? t.obk.orders k = some o → k < 2048 ∧ o.sequence ≤ t.obk.sequence := by
  refine ⟨hq.rise h.ordersRise, fun k o ho => ?_⟩
  by_cases hki : k = i
  · subst hki
    exact ⟨hq.index, hq.placed o ho⟩
  · rw [hq.orders k hki] at ho
    exact (h.entry ho).imp_right fun hle => hle.trans hq.sequence

/-- The entry is free, or its order does not wait: it is off the list. -/
theorem left (hq : Requeued s t i []) (h : s.queued)
    (hn : ∀ o, cell? t.obk.orders i = some o → o.state ≠ .pendingWait) : t.queued := by
  obtain ⟨hrise, hentries⟩ := hq.rest h
  have hlist : t.obk.waiting = dropFrom s.obk.waiting (s.obk.handle i) := by rw [hq.waiting, List.append_nil]
  refine ⟨hrise, hentries, fun x => ?_, by rw [hlist]; exact hq.left_sorted h, ?_⟩
  · rw [hlist, hq.mem_left h]
    constructor
    · rintro ⟨k, o, -, ho, hw, rfl⟩
      exact ⟨k, o, ho, hw, rfl⟩
    · rintro ⟨k, o, ho, hw, rfl⟩
      refine ⟨k, o, ?_, ho, hw, rfl⟩
      rintro rfl
      exact hn o ho hw
  · rw [hlist]
    exact (List.length_filter_le _ _).trans h.room

/-- The entry's order waits, placed last: it is at the end of the list. -/
theorem joined (hq : Requeued s t i [t.obk.handle i]) (h : s.queued) {o : Order}
    (ho : cell? t.obk.orders i = some o) (hw : o.state = .pendingWait) (hlast : s.obk.sequence < o.sequence)
    (hroom : s.obk.waiting.length < 96) : t.queued := by
  obtain ⟨hrise, hentries⟩ := hq.rest h
  refine ⟨hrise, hentries, fun x => ?_, ?_, ?_⟩
  · rw [hq.waiting, List.mem_append, hq.mem_left h, List.mem_singleton]
    constructor
    · rintro (⟨k, o, -, ho, hw, rfl⟩ | rfl)
      · exact ⟨k, o, ho, hw, rfl⟩
      · exact ⟨i, o, ho, hw, rfl⟩
    · rintro ⟨k, o, ho, hw, rfl⟩
      by_cases hki : k = i
      · exact Or.inr (by rw [hki])
      · exact Or.inl ⟨k, o, hki, ho, hw, rfl⟩
  · rw [hq.waiting, List.map_append]
    refine List.pairwise_append.2 ⟨hq.left_sorted h, List.pairwise_singleton _ _, fun a ha b hb => ?_⟩
    obtain ⟨x, hx, rfl⟩ := List.mem_map.1 ha
    obtain rfl := List.mem_singleton.1 hb
    rw [OrderBook.sequenceOf_handle hq.index ho]
    exact (hq.sequenceOf h hx).2.trans_lt hlast
  · rw [hq.waiting, List.length_append, List.length_singleton]
    exact Nat.succ_le_of_lt ((List.length_filter_le _ _).trans_lt hroom)

end Requeued

/-- Taking a handle off a list that does not hold it changes nothing. -/
theorem dropFrom_of_notMem {l : List Nat} {x : Nat} (h : x ∉ l) : dropFrom l x = l := by
  refine List.filter_eq_self.2 fun y hy => ?_
  rw [bne_iff_ne]
  rintro rfl
  exact h hy

/-- An order is put into entry i of a state whose table and generations are those of s. -/
theorem Requeued.putOrder {s u : State} {i : Nat} {w : List Nat} (o : Order) (hi : i < 2048)
    (ho : u.obk.orders = s.obk.orders) (hg : u.obk.generations = s.obk.generations)
    (hw : u.obk.waiting = dropFrom s.obk.waiting (s.obk.handle i) ++ w)
    (hs : s.obk.sequence ≤ u.obk.sequence) (hp : o.sequence ≤ u.obk.sequence) :
    Requeued s (u.putOrder i o) i w := by
  rw [State.putOrder_frame, ho]
  refine ⟨hi, fun hr => risingKeys_setCell i o hr, fun k hk => cell?_setCell_other _ _ hk, fun k _ => ?_, hw, hs,
    fun x hx => ?_⟩
  · simp only [OrderBook.generation, hg]
  · rw [cell?_setCell_self] at hx
    exact Option.some.inj hx ▸ hp

theorem SameQueue.putOrder {s : State} {i : Nat} {o o' : Order} (ho : cell? s.obk.orders i = some o)
    (h : o'.queuePart = o.queuePart) : SameQueue s (s.putOrder i o') := by
  rw [State.putOrder_frame]
  refine ⟨fun hr => risingKeys_setCell i o' hr, fun k => ?_, rfl, rfl, rfl⟩
  rw [cell?_setCell]
  by_cases hk : k = i
  · rw [if_pos hk, hk, ho, Option.map_some, Option.map_some, h]
  · rw [if_neg hk]

end Sys2Proof.Machine
end

section
/-! The frost extra loads as an invariant: R101 gives each reach a sum over the points, kept at every reach but those
whose load is still to be recomputed. -/

namespace Sys2Proof.Machine

/-! ### The sum of R101 -/

/-- What a point adds to the frost extra load of reach r. -/
def Point.frostAt (rs : Table Reach) (r : Nat) (p : Point) : Nat := if r ∈ pathOf rs p.reach then p.frostTerm else 0

theorem Point.frostAt_of_term {rs : Table Reach} {p : Point} (h : p.frostTerm = 0) (r : Nat) :
    p.frostAt rs r = 0 := by
  unfold Point.frostAt
  split
  · exact h
  · rfl

theorem Point.frostAt_off_path {rs : Table Reach} {p : Point} {r : Nat} (h : r ∉ pathOf rs p.reach) :
    p.frostAt rs r = 0 := if_neg h

/-- A point that is not in AUTO has no term. -/
theorem Point.frostTerm_of_mode {p : Point} (h : p.mode ≠ .auto) : p.frostTerm = 0 := by
  unfold Point.frostTerm
  split
  · next hm _ => exact absurd hm h
  · rfl

/-- Nor has one that is not in frost. -/
theorem Point.frostTerm_of_backup {p : Point} (h : p.backup = none) : p.frostTerm = 0 := by
  unfold Point.frostTerm
  rw [h]
  split
  · next hb => cases hb
  · rfl

/-- Nor has a check point. -/
theorem Point.frostTerm_of_check {p : Point} (h : p.kind = .check) : p.frostTerm = 0 := by
  unfold Point.frostTerm
  rw [h]

/-- A sum over the entries that pass a test. -/
theorem sum_filter_map {β : Type} (q : β → Bool) (f : β → Nat) (l : List β) :
    ((l.filter q).map f).sum = (l.map (fun e => if q e then f e else 0)).sum := by
  induction l with
  | nil => rfl
  | cons e l ih => by_cases he : q e <;> simp [he, ih]

theorem foldl_add_eq_sum {β : Type} (f : β → Nat) (l : List β) (n : Nat) :
    l.foldl (fun n e => n + f e) n = n + (l.map f).sum := by
  induction l generalizing n with
  | nil => rfl
  | cons e l ih => rw [List.foldl_cons, ih, List.map_cons, List.sum_cons, Nat.add_assoc]

theorem State.frostSum_eq_sum (s : State) (r : Nat) :
    s.frostSum r = (s.points.map (fun e => e.2.frostAt s.cal.reaches r)).sum := by
  rw [State.frostSum, foldl_add_eq_sum (fun e : Nat × Point => e.2.frostTerm), Nat.zero_add, sum_filter_map]
  simp only [inSubtree, List.contains_iff_mem, Point.frostAt]

/-- The sum as the statement of the invariant writes it. -/
theorem State.frostOwed_eq (s : State) (r : Nat) : s.frostOwed r = s.frostSum r := by
  rw [State.frostSum_eq_sum, State.frostOwed, sum_filter_map]
  refine congrArg List.sum (List.map_congr_left fun e _ => ?_)
  unfold Point.frostAt Point.frostTerm
  cases e.2.kind <;> cases e.2.mode <;> cases e.2.backup <;> simp

/-! ### The invariant -/

/-- Point numbers stand once, rising; parents and points name configured reaches; and every reach not among the stale
ones has the frost extra load that R101 gives. -/
structure Frosted (stale : List Nat) (s : State) : Prop where
  rise : risingKeys s.points = true
  parents : ∀ r v p, s.reach? r = some v → v.parent = some p → s.reach? p ≠ none
  placed : ∀ n p, s.point? n = some p → s.reach? p.reach ≠ none
  load : ∀ r, r ∉ stale → s.extraLoad r = s.frostSum r

theorem frostKept_iff (s : State) : s.frostKept ↔ Frosted [] s := by
  simp only [State.frostKept, State.frostOwed_eq]
  constructor
  · rintro ⟨hrise, ⟨hparents, hplaced⟩, hload⟩
    exact ⟨hrise, hparents, hplaced, fun r _ => hload r⟩
  · rintro ⟨hrise, hparents, hplaced, hload⟩
    exact ⟨hrise, ⟨hparents, hplaced⟩, fun r => hload r List.not_mem_nil⟩

namespace Frosted

variable {rs rs' : List Nat} {s t : State} {n : Nat} {v : Point}

theorem weaken (h : Frosted rs s) (hsub : ∀ r ∈ rs, r ∈ rs') : Frosted rs' s :=
  ⟨h.rise, h.parents, h.placed, fun r hr => h.load r fun hm => hr (hsub r hm)⟩

/-- Every reach on the path of a point is configured. -/
theorem path_configured (h : Frosted rs s) {p : Point} (hp : s.point? n = some p) {r : Nat}
    (hr : r ∈ pathOf s.cal.reaches p.reach) : s.reach? r ≠ none :=
  configured_of_mem_pathUp h.parents (h.placed n p hp) hr

/-- A reach that is not configured lies on no point's path. -/
theorem frostSum_unconfigured (h : Frosted rs s) {r : Nat} (hr : s.reach? r = none) : s.frostSum r = 0 := by
  rw [State.frostSum_eq_sum]
  refine List.sum_eq_zero fun x hx => ?_
  obtain ⟨⟨n, p⟩, he, rfl⟩ := List.mem_map.1 hx
  exact Point.frostAt_off_path fun hm => h.path_configured (cell?_of_mem h.rise he) hm hr

theorem of_view (h : Frosted rs s) (hp : t.points = s.points) (hl : t.frostLoad = s.frostLoad)
    (hr : t.cal.reaches = s.cal.reaches) : Frosted rs t := by
  obtain ⟨hrise, hparents, hplaced, hload⟩ := h
  refine ⟨by rwa [hp], ?_, ?_, fun r hm => ?_⟩
  · simpa only [State.reach?, hr] using hparents
  · simpa only [State.reach?, State.point?, hr, hp] using hplaced
  · rw [State.frostSum_eq_sum, State.extraLoad, hl, hp, hr, ← State.frostSum_eq_sum]
    exact hload r hm

/-- The points lie where they lay and add what they added. -/
theorem alike (h : Frosted rs s) (hf : FrostAlike s t) (hl : t.frostLoad = s.frostLoad)
    (hr : t.cal.reaches = s.cal.reaches) : Frosted rs t := by
  refine ⟨hf.rise, ?_, fun n p hp => ?_, fun r hm => ?_⟩
  · simpa only [State.reach?, hr] using h.parents
  · have hterm : (p.reach, p.frostTerm) ∈ s.frostTerms := by
      rw [← hf.terms]
      exact List.mem_map.2 ⟨(n, p), mem_of_cell? hp, rfl⟩
    obtain ⟨⟨k, q⟩, hq, he⟩ := List.mem_map.1 hterm
    rw [State.reach?, hr, ← (Prod.mk.inj he).1]
    exact h.placed k q (cell?_of_mem h.rise hq)
  · rw [hf.frostSum hr, State.extraLoad, hl]
    exact h.load r hm

/-- The load of every reach is as R101 gives it when the stale ones have been recomputed. -/
theorem refreshFrost (h : Frosted rs s) : Frosted [] (s.refreshFrost rs) := by
  have hreload : Frosted rs (s.reload rs) := ⟨h.rise, h.parents, h.placed, fun r hm => by
    have hstale : r ∉ s.frostStale rs := fun hs => hm (List.mem_of_mem_filter hs)
    change valueAt 0 ((s.frostStale rs).foldl _ s.frostLoad) r = _
    rw [valueAt_foldl_setValue, if_neg hstale]
    exact h.load r hm⟩
  have hall : Frosted [] (s.reload rs) := { hreload with
    load := fun r _ => by
      by_cases hm : r ∈ rs
      · exact State.reload_extraLoad hm
      · exact hreload.load r hm }
  rw [State.refreshFrost_eq]
  exact hall.alike (.recheckMany _ hall.rise) (by rw [State.recheckMany_frame]) (by rw [State.recheckMany_frame])

/-- The points change so that each reach not stale has the sum it had. -/
theorem repoint {ps : Table Point} (h : Frosted rs s) (hrise : risingKeys ps = true)
    (hplaced : ∀ n p, cell? ps n = some p → s.reach? p.reach ≠ none) (hsub : ∀ r ∈ rs, r ∈ rs')
    (hsum : ∀ r, r ∉ rs' → (ps.map (fun e => e.2.frostAt s.cal.reaches r)).sum =
      (s.points.map (fun e => e.2.frostAt s.cal.reaches r)).sum) : Frosted rs' { s with points := ps } := by
  refine ⟨hrise, h.parents, hplaced, fun r hm => ?_⟩
  rw [State.frostSum_eq_sum]
  change s.extraLoad r = _
  rw [hsum r hm, ← State.frostSum_eq_sum]
  exact h.load r fun hr => hm (hsub r hr)

/-- A point takes a record that adds to each reach not stale what the one before added. -/
theorem setPoint (h : Frosted rs s) (hv : s.reach? v.reach ≠ none) (hsub : ∀ r ∈ rs, r ∈ rs')
    (hat : ∀ r, r ∉ rs' → v.frostAt s.cal.reaches r = cellSum (Point.frostAt s.cal.reaches r) s.points n) :
    Frosted rs' (s.setPoint n v) := by
  refine h.repoint (risingKeys_setCell n v h.rise) (fun m p hm => ?_) hsub fun r hr => ?_
  · rw [cell?_setCell] at hm
    split_ifs at hm
    · cases hm
      exact hv
    · exact h.placed m p hm
  · have hsum := sum_setCell (Point.frostAt s.cal.reaches r) n v h.rise
    rw [← hat r hr] at hsum
    exact Nat.add_right_cancel hsum

theorem delPoint (h : Frosted rs s) (hat : ∀ r, cellSum (Point.frostAt s.cal.reaches r) s.points n = 0) :
    Frosted rs { s with points := delCell s.points n } := by
  refine h.repoint (risingKeys_delCell n h.rise) (fun m p hm => ?_) (fun r hr => hr) fun r _ => ?_
  · rw [cell?_delCell] at hm
    split_ifs at hm
    exact h.placed m p hm
  · have hsum := sum_delCell (Point.frostAt s.cal.reaches r) n h.rise
    rwa [hat r, Nat.add_zero] at hsum

/-- A point without a term adds nothing, nor does one that is UNUSED. -/
theorem cellSum_zero (h : ∀ p, s.point? n = some p → p.frostTerm = 0) (r : Nat) :
    cellSum (Point.frostAt s.cal.reaches r) s.points n = 0 := by
  cases hp : s.point? n with
  | none => exact cellSum_of_none hp
  | some p => exact (cellSum_of_cell? hp).trans (Point.frostAt_of_term (h p hp) r)

/-! ### The reaches change -/

/-- The reaches keep their places in the tree. -/
theorem reshape {rt : Table Reach} (h : Frosted rs s) (hshape : SameShape s.cal.reaches rt) :
    Frosted rs { s with cal.reaches := rt } := by
  refine ⟨h.rise, fun r v p hv hp => ?_, fun n p hp => mt (hshape.none_iff _).1 (h.placed n p hp), fun r hm => ?_⟩
  · have hr := hshape.parent r
    have hv' : cell? rt r = some v := hv
    rw [hv', Option.bind_some, hp, eq_comm, Option.bind_eq_some_iff] at hr
    obtain ⟨w, hw, hwp⟩ := hr
    exact mt (hshape.none_iff p).1 (h.parents r w p hw hwp)
  · rw [State.frostSum_eq_sum]
    simp only [Point.frostAt, hshape.pathOf]
    exact (h.load r hm).trans (s.frostSum_eq_sum r)

/-- The parents of reaches change, none of them on the path of a point. -/
theorem replant {rt : Table Reach} (h : Frosted rs s) (hrooted : ({ s with cal.reaches := rt } : State).rooted)
    (hsame : ∀ n p, s.point? n = some p → ∀ r ∈ pathOf s.cal.reaches p.reach,
      (cell? rt r).bind Reach.parent = (cell? s.cal.reaches r).bind Reach.parent) :
    Frosted rs { s with cal.reaches := rt } := by
  obtain ⟨hparents, hplaced⟩ := hrooted
  refine ⟨h.rise, hparents, hplaced, fun r hm => ?_⟩
  refine (h.load r hm).trans ?_
  rw [State.frostSum_eq_sum, State.frostSum_eq_sum]
  refine congrArg List.sum (List.map_congr_left fun e he => ?_)
  have hpath : pathOf rt e.2.reach = pathOf s.cal.reaches e.2.reach :=
    pathUp_congr (hsame e.1 e.2 (cell?_of_mem h.rise he))
  simp only [Point.frostAt, hpath]

/-- A reach that is not configured has the frost extra load 0, before and after the tree changes. -/
theorem retree {rt : Table Reach} (h : Frosted [] s) (hrooted : ({ s with cal.reaches := rt } : State).rooted)
    (hconf : ∀ r, cell? rt r = none → s.reach? r = none) (hsub : ∀ r, cell? rt r ≠ none → r ∈ rs) :
    Frosted rs { s with cal.reaches := rt } := by
  obtain ⟨hparents, hplaced⟩ := hrooted
  have hsum : ∀ r, cell? rt r = none → ({ s with cal.reaches := rt } : State).frostSum r = 0 := by
    intro r hr
    rw [State.frostSum_eq_sum]
    refine List.sum_eq_zero fun x hx => ?_
    obtain ⟨⟨n, p⟩, he, rfl⟩ := List.mem_map.1 hx
    refine Point.frostAt_off_path fun hm => ?_
    exact configured_of_mem_pathUp hparents (hplaced n p (cell?_of_mem h.rise he)) hm hr
  refine ⟨h.rise, hparents, hplaced, fun r hm => ?_⟩
  have hr : cell? rt r = none := by
    by_contra hne
    exact hm (hsub r hne)
  rw [hsum r hr]
  exact (h.load r List.not_mem_nil).trans (h.frostSum_unconfigured (hconf r hr))

end Frosted

end Sys2Proof.Machine
end

section
/-! The two invariants on one walk: how the waiting list and the frost extra loads follow what the field line, Release
Control, the meters and the accounts do (R65, R72, R90, R101). -/

namespace Sys2Proof.Machine

theorem Order.not_waiting_of_due {o : Order} (h : o.due = true) : o.state ≠ .pendingWait := by
  intro hw
  simp [Order.due, hw] at h

/-- The waiting list and the frost extra loads, each where it is assumed of the state that the step begins with: the
propositions p and q stand for the two assumptions, so that one walk through the commands serves both invariants. -/
structure Kept (p q : Prop) (stale : List Nat) (s : State) : Prop where
  queue : p → s.queued
  frost : q → Frosted stale s

namespace Kept

variable {p q : Prop} {rs : List Nat} {s t : State} {n : Nat} {v w : Point}

/-! ### Records beside the two -/

/-- What the two invariants read. -/
def view (s : State) : (Table Order × Table Nat × List Nat × Nat) × Table Point × Table Nat × Table Reach :=
  ((s.obk.orders, s.obk.generations, s.obk.waiting, s.obk.sequence), s.points, s.frostLoad, s.cal.reaches)

theorem aside (h : Kept p q rs s) (hv : view t = view s) : Kept p q rs t := by
  simp only [view, Prod.mk.injEq] at hv
  obtain ⟨⟨ho, hg, hw, hs⟩, hp, hl, hr⟩ := hv
  exact ⟨fun hq => (h.queue hq).same (.of_eq ho hg hw hs), fun hf => (h.frost hf).of_view hp hl hr⟩

/-- The points change in what R101 does not read, the Order Book not at all. -/
theorem alike (h : Kept p q rs s) (ho : t.obk = s.obk) (hl : t.frostLoad = s.frostLoad)
    (hr : t.cal.reaches = s.cal.reaches) (hf : risingKeys s.points = true → FrostAlike s t) : Kept p q rs t :=
  ⟨fun hq => (h.queue hq).same (.of_obk ho), fun hq => (h.frost hq).alike (hf (h.frost hq).rise) hl hr⟩

/-- The Order Book changes in what the waiting list does not read, the points not at all. -/
theorem rebook (h : Kept p q rs s) (ho : p → SameQueue s t) (hp : t.points = s.points)
    (hl : t.frostLoad = s.frostLoad) (hr : t.cal.reaches = s.cal.reaches) : Kept p q rs t :=
  ⟨fun hq => (h.queue hq).same (ho hq), fun hf => (h.frost hf).of_view hp hl hr⟩

theorem ite {c : Prop} [Decidable c] (hs : Kept p q rs s) (ht : Kept p q rs t) :
    Kept p q rs (if c then s else t) := by
  split
  · exact hs
  · exact ht

theorem foldl {β : Type} {f : State → β → State} (hf : ∀ s x, Kept p q rs s → Kept p q rs (f s x)) (l : List β)
    (h : Kept p q rs s) : Kept p q rs (l.foldl f s) :=
  foldl_inv (Kept p q rs) f hf l s h

theorem report (k : ErrorKind) (r : ErrorRef) (h : Kept p q rs s) : Kept p q rs (s.report k r) := h.aside rfl
theorem markOrder (i : Nat) (h : Kept p q rs s) : Kept p q rs (s.markOrder i) := h.aside rfl
theorem owe (h : Kept p q rs s) : Kept p q rs s.owe := h.aside rfl
theorem tally (f : Counts → Counts) (h : Kept p q rs s) : Kept p q rs (s.tally f) := h.aside rfl
theorem setAccount (a : Account) (h : Kept p q rs s) : Kept p q rs (s.setAccount n a) := h.aside rfl

theorem reviseAccount (n : Nat) (f : Account → Account) (h : Kept p q rs s) : Kept p q rs (s.reviseAccount n f) := by
  unfold State.reviseAccount
  split
  · exact h
  · exact h.setAccount _

theorem markHandle (x : Option Nat) (h : Kept p q rs s) : Kept p q rs (s.markHandle x) :=
  h.aside (by rw [State.markHandle_frame]; rfl)

/-! ### Points and their field side (chapter 6) -/

theorem setPoint (h : Kept p q rs s) (hv : s.point? n = some v) (hr : w.reach = v.reach)
    (ht : w.frostTerm = v.frostTerm) : Kept p q rs (s.setPoint n w) :=
  h.alike rfl rfl rfl fun hrise => .setPoint hrise hv hr ht

theorem changePoint (n : Nat) (f : Point → Point) (h : Kept p q rs s) (hr : ∀ v, (f v).reach = v.reach)
    (ht : ∀ v, (f v).frostTerm = v.frostTerm) : Kept p q rs (s.changePoint n f) :=
  h.alike (by rw [State.changePoint_frame]) (by rw [State.changePoint_frame]) (by rw [State.changePoint_frame])
    fun hrise => .changePoint n f hrise hr ht

theorem reevaluate (n : Nat) (h : Kept p q rs s) : Kept p q rs (s.reevaluate n) :=
  .ite h (h.changePoint n _ (fun _ => rfl) fun _ => rfl)

theorem resend (n : Nat) (h : Kept p q rs s) : Kept p q rs (s.resend n) :=
  (h.changePoint n (fun p => { p with field.resendOwed := true }) (fun _ => rfl) fun _ => rfl).reevaluate n

theorem withdraw (n : Nat) (h : Kept p q rs s) : Kept p q rs (s.withdraw n) :=
  h.changePoint n _ (fun _ => rfl) fun _ => rfl

theorem setTarget (n flow : Nat) (h : Kept p q rs s) : Kept p q rs (s.setTarget n flow) :=
  h.alike (by rw [State.setTarget_frame]) (by rw [State.setTarget_frame]) (by rw [State.setTarget_frame])
    fun hrise => .setTarget n flow hrise

theorem offerPoll (h : Kept p q rs s) : Kept p q rs s.offerPoll :=
  h.aside (by rw [State.offerPoll_frame]; rfl)

theorem arbitrate (h : Kept p q rs s) : Kept p q rs s.arbitrate := by
  unfold State.arbitrate
  split
  · exact h
  · split
    · exact h
    · exact h.offerPoll
    · split
      · next e he =>
        exact h.alike (t := s.beginSet e.1 e.2) rfl rfl rfl fun hrise =>
          ⟨risingKeys_setCell e.1 _ hrise, (FrostAlike.setPoint
            (q := { e.2 with field.inFlight := some e.2.target, field.sendPending := false, field.resendOwed := false })
            hrise (cell?_of_mem hrise (List.mem_of_find?_eq_some he) : s.point? e.1 = some e.2) rfl rfl).terms⟩
      · exact h.offerPoll

/-! ### Targets and frost extra loads (R92 to R94, R101) -/

theorem recheckMany (ns : List Nat) (h : Kept p q rs s) : Kept p q rs (s.recheckMany ns) :=
  h.alike (by rw [State.recheckMany_frame]) (by rw [State.recheckMany_frame]) (by rw [State.recheckMany_frame])
    fun hrise => .recheckMany ns hrise

theorem recheck (n : Nat) (h : Kept p q rs s) : Kept p q rs (s.recheck n) := h.recheckMany [n]

theorem retarget (n : Nat) (h : Kept p q rs s) : Kept p q rs (s.retarget n) := by
  unfold State.retarget
  split
  · exact h
  · split
    · exact h.setTarget n _
    · exact h.recheck n

/-- A ring takes its place over the same reaches (R32). -/
theorem withRing {c : Calendar} (h : Kept p q rs s) (hc : c.reaches = s.cal.reaches) :
    Kept p q rs (s.withRing c) := by
  rw [State.withRing_eq]
  have hcal : Kept p q rs { s with cal := c } := h.aside (by rw [view, hc]; rfl)
  exact hcal.recheckMany _

theorem refreshFrost (h : Kept p q rs s) : Kept p q [] (s.refreshFrost rs) :=
  ⟨fun hq => (h.queue hq).same (.of_obk (by rw [Retold.refreshFrost s rs])), fun hf => (h.frost hf).refreshFrost⟩

/-- A point's term changes: the loads along its path are then stale. -/
theorem setTerm (h : Kept p q [] s) (hv : s.point? n = some v) (hr : w.reach = v.reach) :
    Kept p q (pathOf s.cal.reaches v.reach) (s.setPoint n w) := by
  refine ⟨fun hq => (h.queue hq).same (.of_obk rfl), fun hf => ?_⟩
  refine (h.frost hf).setPoint ?_ nofun fun r hm => ?_
  · rw [hr]
    exact (h.frost hf).placed n v hv
  · rw [cellSum_of_cell? hv, Point.frostAt_off_path hm, Point.frostAt_off_path (by rwa [hr])]

/-- The loads along the path of a point are recomputed after changes beside the reaches. -/
theorem refreshPath {r : Nat} (h : Kept p q (pathOf s.cal.reaches r) t) (hr : t.cal.reaches = s.cal.reaches) :
    Kept p q [] (t.refreshPath r) := by
  rw [← hr] at h
  exact h.refreshFrost

/-! ### Modes and switches (R65, R90, R95, R96) -/

/-- A point's due order stays due: it does not wait, before or after. -/
theorem alignOrder (n : Nat) (m : Mode) (h : Kept p q rs s) : Kept p q rs (s.alignOrder n m) := by
  refine h.rebook (fun hq => ?_) (by rw [State.alignOrder_frame]) (by rw [State.alignOrder_frame])
    (by rw [State.alignOrder_frame])
  unfold State.alignOrder
  split
  · exact .of_obk rfl
  · next i o hdue =>
    obtain ⟨hm, ho, -⟩ := OrderBook.mem_of_dueOrder hdue
    dsimp only
    split
    · exact .of_obk rfl
    · have hput := SameQueue.putOrder (o' := o.under m) (cell?_of_mem (h.queue hq).ordersRise hm)
        (Order.queuePart_eq rfl (Order.not_waiting_of_due ho) (Order.not_waiting_of_due (dueUnder_due m o)))
      exact ⟨hput.rise, hput.orders, hput.generations, hput.waiting, hput.sequence⟩

end Kept
end Sys2Proof.Machine
end

section
/-! The two invariants on the same walk: modes and switches, the field line, the meters, the accounts (R65, R89 to R103,
R112 to R142). -/

namespace Sys2Proof.Machine

/-- A point that is no turnout in frost has no term. -/
theorem Point.frostTerm_of_not_frost {v : Point} (h : ¬(v.kind = .turnout ∧ v.backup.isSome = true)) :
    v.frostTerm = 0 := by
  cases hk : v.kind with
  | check => exact Point.frostTerm_of_check hk
  | turnout =>
    cases hb : v.backup with
    | none => exact Point.frostTerm_of_backup hb
    | some b => exact absurd ⟨hk, by rw [hb]; rfl⟩ h

theorem State.mem_configured {s : State} {r : Nat} (h : s.reach? r ≠ none) : r ∈ s.configured := by
  obtain ⟨v, hv⟩ := Option.ne_none_iff_exists'.1 h
  exact List.mem_map.2 ⟨(r, v), mem_of_cell? hv, rfl⟩

namespace Kept

variable {p q : Prop} {rs : List Nat} {s t : State} {n : Nat} {v : Point}

/-! ### Modes (R90, R95, R96) -/

theorem aligned (m : Mode) (h : Kept p q rs (s.setPoint n (v.inMode m))) : Kept p q rs (s.aligned n v m) :=
  .ite (h.alignOrder n m) h

theorem retargeted (n : Nat) (m : Mode) (h : Kept p q rs s) : Kept p q rs (s.retargeted n m) :=
  .ite (h.retarget n) h

theorem resided (n : Nat) (v : Point) (m : Mode) (h : Kept p q rs s) : Kept p q rs (s.resided n v m) :=
  .ite (h.resend n) (.ite (h.withdraw n) h)

/-- A turnout in frost takes the loads of its path along; another point has no term in any mode. -/
theorem changeMode (n : Nat) (m : Mode) (h : Kept p q [] s) : Kept p q [] (s.changeMode n m) := by
  cases hv : s.point? n with
  | none =>
    unfold State.changeMode
    rwa [hv]
  | some v =>
    rw [State.changeMode_eq m hv]
    refine Kept.resided n v m ?_
    unfold State.reloaded
    split
    · have hset : Kept p q (pathOf s.cal.reaches v.reach) (s.setPoint n (v.inMode m)) := h.setTerm hv rfl
      refine ((hset.aligned m).retargeted n m).refreshPath ?_
      rw [Retold.reaches (.retargeted _ n m), State.aligned_frame]
    · next hno =>
      have hterm : (v.inMode m).frostTerm = v.frostTerm :=
        (Point.frostTerm_of_not_frost (v := v.inMode m) hno).trans (Point.frostTerm_of_not_frost hno).symm
      exact ((h.setPoint (w := v.inMode m) hv rfl hterm).aligned m).retargeted n m

theorem clearCloseOwed (n : Nat) (h : Kept p q rs s) : Kept p q rs (s.clearCloseOwed n) := by
  unfold State.clearCloseOwed
  cases hv : s.point? n with
  | none => exact h
  | some v =>
    have hset : Kept p q rs (s.setPoint n { v with closeOwed := false }) := h.setPoint hv rfl rfl
    exact .ite (.ite hset (hset.withdraw n)) h

theorem switchLocal (n : Nat) (h : Kept p q [] s) : Kept p q [] (s.switchLocal n) := by
  unfold State.switchLocal
  cases hv : s.point? n with
  | none => exact h
  | some v =>
    have hset : Kept p q [] (s.setPoint n { v with switch := .manual }) := h.setPoint hv rfl rfl
    have hclear := hset.clearCloseOwed n
    dsimp only
    split
    · have hheld := (hclear.changePoint n
        (fun w => { w with latch := w.latch || (decide (0 < v.target) || v.backup.isSome) })
        (fun _ => rfl) fun _ => rfl).changeMode n .localHold
      exact .ite (hheld.report _ _) hheld
    · exact hclear
    · exact hclear

theorem switchRemote (n : Nat) (h : Kept p q [] s) : Kept p q [] (s.switchRemote n) := by
  unfold State.switchRemote
  cases hv : s.point? n with
  | none => exact h
  | some v =>
    have hset : Kept p q [] (s.setPoint n { v with switch := .remote }) := h.setPoint hv rfl rfl
    dsimp only
    split
    · exact hset.changeMode n _
    · exact hset
    · exact hset

theorem takeGate (g : GateNews) (h : Kept p q [] s) : Kept p q [] (s.takeGate g) := by
  unfold State.takeGate
  split
  · exact h
  · have hgate : ∀ t, Kept p q [] t → Kept p q [] (t.changePoint g.point
        fun w => { w with position := min 100 g.position, gateFault := g.fault }) :=
      fun t ht => ht.changePoint _ _ (fun _ => rfl) fun _ => rfl
    cases hs : g.switch with
    | manual => exact .ite ((hgate _ (h.switchLocal _)).report _ _) (hgate _ (h.switchLocal _))
    | remote => exact .ite ((hgate _ (h.switchRemote _)).report _ _) (hgate _ (h.switchRemote _))

theorem enablePoint (h : Kept p q [] s) (hv : s.point? n = some v) : Kept p q [] (s.enablePoint n v) := by
  refine Kept.changeMode n .auto (h.setPoint hv ?_ ?_) <;> unfold Point.applyStaged <;> split <;> rfl

theorem closePoint (h : Kept p q [] s) (hv : s.point? n = some v) : Kept p q [] (s.closePoint n v) := by
  have hset : Kept p q [] (s.setPoint n { v with
      target := 0
      closeOwed := v.closeOwed || (decide (v.mode = .auto) ||
        (decide (v.mode = .disabled) && decide (v.switch = .remote))) }) := h.setPoint hv rfl rfl
  have hmode := hset.ite (hset.changeMode n .disabled) (c := v.mode = .disabled)
  exact .ite (hmode.resend n) hmode

theorem leavePoint (n : Nat) (v : Point) (h : Kept p q [] s) : Kept p q [] (s.leavePoint n v) :=
  .ite h (h.changeMode n .disabled)

/-- A turnout in frost stays in frost, with the flow of the notice saved (R89). -/
theorem takeNotice (g : Notice) (h : Kept p q [] s) : Kept p q [] (s.takeNotice g) := by
  unfold State.takeNotice
  split
  · exact h
  · next v hturnout =>
    have hv := RingSound.turnout_point hturnout
    dsimp only
    split
    · refine Kept.refreshPath (s := s) (.ite (Kept.retarget _ ?_) ?_) ?_
      · exact h.setTerm hv rfl
      · exact h.setTerm hv rfl
      · split
        · exact Retold.reaches (.retarget _ _)
        · rfl
    · next hb =>
      have hnone : v.backup = none := by simpa using hb
      have hset := h.setPoint (w := { v with
        scheduled := g.order
        backup := v.backup.map fun _ =>
          { order := g.order.map Scheduled.handle, flow := (g.order.map Scheduled.flow).getD 0 } }) hv rfl
        ((Point.frostTerm_of_backup (by simp [hnone])).trans (Point.frostTerm_of_backup hnone).symm)
      exact .ite (hset.retarget _) hset

/-! ### Frost (R102, R103): every load is recomputed after the points have changed -/

/-- A point changes where it lies, with the load of every reach to be recomputed. -/
theorem changeStale (n : Nat) (f : Point → Point) (h : Kept p q s.configured s) (hr : ∀ v, (f v).reach = v.reach) :
    Kept p q s.configured (s.changePoint n f) := by
  unfold State.changePoint
  cases hv : s.point? n with
  | none => exact h
  | some v =>
    refine ⟨fun hq => (h.queue hq).same (.of_obk rfl), fun hq => ?_⟩
    have hfrost := h.frost hq
    have hoff : ∀ r, r ∉ s.configured → r ∉ pathOf s.cal.reaches v.reach :=
      fun r hn hm => hn (State.mem_configured (hfrost.path_configured hv hm))
    refine hfrost.setPoint ?_ (fun _ hm => hm) fun r hm => ?_
    · rw [hr]
      exact hfrost.placed n v hv
    · rw [cellSum_of_cell? hv, Point.frostAt_off_path (hoff r hm), Point.frostAt_off_path]
      rw [hr]
      exact hoff r hm

/-- A walk over points that leaves the reaches, then the loads. -/
theorem frostWalk {f : State → Nat × Point → State} (l : List (Nat × Point)) (h : Kept p q [] s)
    (hreach : ∀ s e, (f s e).cal.reaches = s.cal.reaches)
    (hf : ∀ s e, Kept p q s.configured s → Kept p q s.configured (f s e)) :
    Kept p q [] ((l.foldl f s).refreshFrost s.configured) := by
  have hconf : ∀ s e, (f s e).configured = s.configured := fun s e => by
    unfold State.configured
    rw [hreach]
  have hall : Kept p q s.configured s := ⟨h.queue, fun hq => (h.frost hq).weaken nofun⟩
  have hwalk := foldl_inv (fun t => Kept p q t.configured t ∧ t.configured = s.configured) f
    (fun t e ht => ⟨by rw [hconf]; exact hf t e ht.1, (hconf t e).trans ht.2⟩) l s ⟨hall, rfl⟩
  obtain ⟨hkept, hsame⟩ := hwalk
  rw [hsame] at hkept
  exact hkept.refreshFrost

theorem enterFrost (l : List (Nat × Point)) (h : Kept p q [] s) :
    Kept p q [] ((l.foldl State.enterFrost s).refreshFrost s.configured) := by
  refine h.frostWalk l (fun s e => ?_) fun s e hs => ?_
  · unfold State.enterFrost
    rw [Retold.reaches (.retarget _ _), State.changePoint_frame]
  · exact (hs.changeStale e.1 (fun w => { w with
      backup := some { order := e.2.scheduled.map Scheduled.handle, flow := e.2.scheduledFlow } })
      fun _ => rfl).retarget e.1

theorem leaveFrost (l : List (Nat × Point)) (h : Kept p q [] s) :
    Kept p q [] ((l.foldl State.leaveFrost s).refreshFrost s.configured) := by
  refine h.frostWalk l (fun s e => ?_) fun s e hs => ?_
  · unfold State.leaveFrost
    dsimp only
    split
    · rw [Retold.reaches (.retarget _ _), State.changePoint_frame]
    · rw [State.changePoint_frame]
  · have hset := hs.changeStale e.1 (fun w => { w with backup := none }) fun _ => rfl
    exact .ite (hset.retarget e.1) hset

/-! ### The field line (chapter 6) -/

theorem stationFailed (a : Nat) (h : Kept p q rs s) : Kept p q rs (s.stationFailed a) :=
  .ite h (.ite (h.aside rfl) (h.aside rfl))

theorem setAcknowledged (n x applied : Nat) (h : Kept p q rs s) : Kept p q rs (s.setAcknowledged n x applied) := by
  unfold State.setAcknowledged
  dsimp only
  have hset := h.changePoint n (fun w => { w with
    field.acknowledged := applied
    field.unconfirmed := !decide (applied = x)
    field.declined := if decide (applied = x) then none else some x
    field.inFlight := none }) (fun _ => rfl) fun _ => rfl
  refine Kept.reevaluate n (Kept.aside (s := if decide (applied = x) = true then _ else _) ?_ rfl)
  exact .ite hset (hset.report _ _)

theorem setRefused (n : Nat) (h : Kept p q [] s) : Kept p q [] (s.setRefused n) :=
  (h.changePoint n (fun w => { w with field.inFlight := none, field.resendOwed := true })
    (fun _ => rfl) fun _ => rfl).switchLocal n

theorem setLost (n : Nat) (h : Kept p q rs s) : Kept p q rs (s.setLost n) :=
  (h.changePoint n (fun w => { w with
    field.inFlight := none, field.resendOwed := w.field.resendOwed || w.sendable })
    (fun _ => rfl) fun _ => rfl).reevaluate n

theorem setFailed (n : Nat) (h : Kept p q rs s) : Kept p q rs (s.setFailed n) :=
  ((h.changePoint n (fun w => { w with field.unconfirmed := true }) (fun _ => rfl) fun _ => rfl).report _ _).setLost n

theorem endUnanswered (tr : Transaction) (h : Kept p q rs s) : Kept p q rs (s.endUnanswered tr) := by
  have hidle : Kept p q rs s.lineIdle := h.aside rfl
  unfold State.endUnanswered
  dsimp only
  split
  · exact hidle.stationFailed _
  · have hfailed := fun a => hidle.stationFailed a
    exact .ite (.ite hidle (hidle.setLost _)) (.ite (hfailed _) ((hfailed _).setFailed _))

theorem badReply (tr : Transaction) (length : Nat) (h : Kept p q rs s) : Kept p q rs (s.badReply tr length) := by
  have hreport := h.report .frameError (.number tr.job.station)
  exact .ite (hreport.endUnanswered tr) (hreport.aside rfl)

theorem deliverChannel (a : Nat) (frame : List Byte) (s : State) (c : Nat) (h : Kept p q rs s) :
    Kept p q rs (deliverChannel a frame s c) := by
  unfold Machine.deliverChannel
  dsimp only
  split
  · exact h
  · exact h.aside rfl

theorem endAnswered (tr : Transaction) (frame : List Byte) (h : Kept p q [] s) :
    Kept p q [] (s.endAnswered tr frame) := by
  have hidle : Kept p q [] (s.lineIdle.stationAnswered tr.job.station) := h.aside rfl
  unfold State.endAnswered
  dsimp only
  split
  · exact hidle.foldl (fun s c => deliverChannel _ frame s c) _
  · exact .ite hidle (.ite (hidle.setAcknowledged _ _ _) (hidle.setRefused _))

theorem cutShort (h : Kept p q rs s) : Kept p q rs s.cutShort := by
  unfold State.cutShort
  split
  · split
    · exact h.aside rfl
    · exact h
  · exact h

theorem abandonPoll (h : Kept p q rs s) : Kept p q rs s.abandonPoll := by
  unfold State.abandonPoll
  split
  · split
    · exact h.aside rfl
    · exact h
  · exact h

theorem holdLine (h : Kept p q rs s) : Kept p q rs s.holdLine := by
  have hheld : Kept p q rs (s.setMode .hold) := h.aside rfl
  unfold State.holdLine
  split
  · exact hheld.cutShort.arbitrate
  · exact h
  · exact h

theorem abandon (h : Kept p q rs s) : Kept p q rs s.abandon := by
  unfold State.abandon
  split
  · exact h
  · split
    · exact h.aside rfl
    · have hidle : Kept p q rs s.lineIdle := h.aside rfl
      exact .ite hidle (hidle.changePoint _ (fun w => { w with
        field.inFlight := none, field.resendOwed := w.field.resendOwed || w.sendable }) (fun _ => rfl) fun _ => rfl)

theorem resetLine (h : Kept p q rs s) : Kept p q rs s.resetLine :=
  Kept.foldl (fun _ e hs => hs.reevaluate e.1) _ (h.abandon.aside rfl)

theorem abortSweep (h : Kept p q rs s) : Kept p q rs s.abortSweep :=
  h.aside (by rw [State.abortSweep_frame]; rfl)

theorem resetPort (h : Kept p q rs s) : Kept p q rs s.resetPort :=
  h.aside (by rw [State.resetPort_frame]; rfl)

theorem warmReset (h : Kept p q rs s) : Kept p q rs s.warmReset := h.resetPort.resetLine.abortSweep

/-! ### Meters and postings (chapter 7) -/

theorem failMeter (h : Kept p q rs s) (hv : s.point? n = some v) : Kept p q rs (s.failMeter n v) :=
  .ite h ((h.setPoint (w := { v with meter.state := .failed }) hv rfl rfl).report _ _)

theorem putOrder {i : Nat} {o o' : Order} (h : Kept p q rs s) (ho : p → cell? s.obk.orders i = some o)
    (hpart : o'.queuePart = o.queuePart) : Kept p q rs (s.putOrder i o') :=
  h.rebook (fun hq => .putOrder (ho hq) hpart) (by rw [State.putOrder_frame]) (by rw [State.putOrder_frame])
    (by rw [State.putOrder_frame])

theorem postOrder (x : Nat) (estimated : Bool) (place : Place) (h : Kept p q rs s) :
    Kept p q rs (s.postOrder x estimated place) := by
  unfold State.postOrder
  split
  · split
    · exact h
    · next ho => exact h.putOrder (fun _ => ho) rfl
  · exact h
  · exact h

theorem post (n x : Nat) (estimated : Bool) (place : Place) (short : Bool) (h : Kept p q rs s) :
    Kept p q rs (s.post n x estimated place short) := by
  unfold State.post
  split
  · exact h
  · have hposted := fun f => (h.postOrder x estimated place).reviseAccount n f
    exact .ite ((hposted _).report _ _) (hposted _)

theorem postAll (n : Nat) (estimated : Bool) (l : List (Nat × Place)) (short : Bool) (h : Kept p q rs s) :
    Kept p q rs (s.postAll n estimated l short) := by
  induction l generalizing s short with
  | nil => exact h
  | cons e l ih => exact .ite (ih short h) (ih _ (h.post n _ _ _ _))

theorem convertReading (totalizer : Nat) (h : Kept p q rs s) (hv : s.point? n = some v) :
    Kept p q rs (s.convertReading n v totalizer) := by
  unfold State.convertReading
  dsimp only
  refine .ite ?_ ?_
  · have hheld := (h.setPoint (w := { v with meter := v.meter.held }) hv rfl rfl).report .meterImplausible (.number n)
    exact .ite (hheld.report _ _) hheld
  · have hset := h.setPoint (w := { v with meter := v.meter.accepted v.active totalizer s.cal.clock }) hv rfl rfl
    split
    · exact hset
    · exact hset.postAll _ _ _ _

theorem takeReading (g : Reading) (h : Kept p q rs s) : Kept p q rs (s.takeReading g) := by
  unfold State.takeReading
  cases hv : s.point? g.point with
  | none => exact h
  | some v =>
    have hrebased := h.setPoint (w := { v with meter := v.meter.rebased g.totalizer s.cal.clock }) hv rfl rfl
    dsimp only
    split
    · exact h
    · exact .ite (h.failMeter hv) hrebased
    · exact .ite (h.failMeter hv) hrebased
    · exact .ite (h.failMeter hv) (h.convertReading _ hv)
    · exact .ite (h.failMeter hv) (h.convertReading _ hv)

theorem silentMeter (u n : Nat) (h : Kept p q rs s) : Kept p q rs (s.silentMeter u n) := by
  unfold State.silentMeter
  cases hv : s.point? n with
  | none => exact h
  | some v => exact .ite (h.failMeter hv) h

theorem estimate (u n : Nat) (h : Kept p q rs s) : Kept p q rs (s.estimate u n) := by
  unfold State.estimate
  split
  · exact h
  · next v hturnout =>
    refine .ite ?_ h
    have hset := h.setPoint (w := { v with
      meter.seasonEstimated := saturate v.meter.seasonEstimated (v.field.acknowledged * Config.slotLitres) })
      (RingSound.turnout_point hturnout) rfl rfl
    dsimp only
    split
    · exact hset
    · exact hset.postAll _ _ _ _

theorem meterBoundary (u : Nat) (h : Kept p q rs s) : Kept p q rs (s.meterBoundary u) := by
  have hsilence : Kept p q rs (s.silenceTest u) := .ite h (h.foldl (fun _ n hs => hs.silentMeter u n) _)
  exact hsilence.foldl (fun _ n hs => hs.estimate (u - 1) n) _

/-! ### Accounts and sweeps (chapters 8 and 9) -/

theorem moveLitres (a b x : Nat) (h : Kept p q rs s) : Kept p q rs (s.moveLitres a b x) :=
  (h.reviseAccount a _).reviseAccount b _

theorem accountChanged (n : Nat) (h : Kept p q rs s) : Kept p q rs (s.accountChanged n) := by
  unfold State.accountChanged
  split
  · exact h
  · exact (h.setAccount _).tally _

theorem openSeason (h : Kept p q rs s) : Kept p q rs s.openSeason := .ite (h.aside rfl) (h.aside rfl)

theorem skipPassed (h : Kept p q rs s) : Kept p q rs s.skipPassed := by
  unfold State.skipPassed
  split
  · exact h
  · exact .ite (h.aside rfl) h

end Kept

end Sys2Proof.Machine
end

section
/-! The two invariants on the same walk: the operations on orders, the placing, the boundary and the sweep steps (R45 to
R78, R160, R170 to R179). -/

namespace Sys2Proof.Machine

theorem Order.not_waiting_of_not_live {o : Order} (h : o.live = false) : o.state ≠ .pendingWait := by
  intro hw
  simp [Order.live, hw] at h

theorem Order.not_waiting_of_confirmed {o : Order} (h : o.state = .confirmed) : o.state ≠ .pendingWait := by
  rw [h]
  nofun

/-- An order placed last takes an entry whose order does not wait, or that is free. -/
theorem Requeued.putLast {s : State} {i : Nat} {o : Order} (h : s.queued) (hi : i < 2048)
    (hn : ∀ x, cell? s.obk.orders i = some x → x.state ≠ .pendingWait) (hs : o.sequence = s.obk.sequence + 1) :
    Requeued s (({ s with obk.sequence := s.obk.sequence + 1 } : State).putOrder i o) i [] := by
  refine .putOrder (s := s) o hi rfl rfl ?_ (Nat.le_succ s.obk.sequence) hs.le
  rw [List.append_nil, dropFrom_of_notMem (h.handle_notMem hi hn)]

theorem Requeued.joinWaiting {s t : State} {i : Nat} {w : List Nat} (h : Requeued s t i w) (x : Nat) :
    Requeued s (t.joinWaiting x) i (w ++ [x]) := by
  obtain ⟨hi, hrise, horders, hgeneration, hwaiting, hsequence, hplaced⟩ := h
  refine ⟨hi, hrise, horders, hgeneration, ?_, hsequence, hplaced⟩
  rw [← List.append_assoc, ← hwaiting]
  rfl

namespace Kept

variable {p q : Prop} {rs : List Nat} {s t u : State} {i n : Nat} {o o' : Order} {v : Point} {c : Calendar}

/-! ### One entry of the order table -/

/-- The order table and the waiting list change together; the points do not change. -/
theorem requeue (h : Kept p q rs s) (ho : p → s.queued → t.queued) (hp : t.points = s.points)
    (hl : t.frostLoad = s.frostLoad) (hr : t.cal.reaches = s.cal.reaches) : Kept p q rs t :=
  ⟨fun hq => ho hq (h.queue hq), fun hq => (h.frost hq).of_view hp hl hr⟩

/-- An order that does not wait takes its entry, and the entry's handle leaves the list (R73). -/
theorem putOff (h : Kept p q rs s) (ho : p → cell? s.obk.orders i = some o) (hs : o'.sequence = o.sequence)
    (hw : o'.state ≠ .pendingWait) : Kept p q rs ((s.leaveWaiting (s.obk.handle i)).putOrder i o') := by
  refine h.requeue (fun hq hs' => ?_) (by rw [State.putOrder_frame]; rfl) (by rw [State.putOrder_frame]; rfl)
    (by rw [State.putOrder_frame]; rfl)
  obtain ⟨hi, hle⟩ := hs'.entry (ho hq)
  have hput : Requeued s ((s.leaveWaiting (s.obk.handle i)).putOrder i o') i [] :=
    .putOrder o' hi rfl rfl (List.append_nil _).symm le_rfl (hs.trans_le hle)
  refine hput.left hs' fun x hx => ?_
  rw [State.putOrder_orders, cell?_setCell_self] at hx
  exact Option.some.inj hx ▸ hw

/-- An order that does not wait takes the place of another that does not. -/
theorem putDue (h : Kept p q rs s) (ho : p → cell? s.obk.orders i = some o) (hs : o'.sequence = o.sequence)
    (hn : o.state ≠ .pendingWait) (hw : o'.state ≠ .pendingWait) : Kept p q rs (s.putOrder i o') :=
  h.putOrder ho (Order.queuePart_eq hs hn hw)

/-- An order placed last that does not wait. -/
theorem putLast (h : Kept p q rs s) (hi : p → i < 2048)
    (hn : p → ∀ x, cell? s.obk.orders i = some x → x.state ≠ .pendingWait)
    (hs : o'.sequence = s.obk.sequence + 1) (hw : o'.state ≠ .pendingWait) :
    Kept p q rs (({ s with obk.sequence := s.obk.sequence + 1 } : State).putOrder i o') := by
  refine h.requeue (fun hq hs' => ?_) (by rw [State.putOrder_frame]) (by rw [State.putOrder_frame])
    (by rw [State.putOrder_frame])
  refine (Requeued.putLast hs' (hi hq) (hn hq) hs).left hs' fun x hx => ?_
  rw [State.putOrder_orders, cell?_setCell_self] at hx
  exact Option.some.inj hx ▸ hw

/-- An order placed last that waits, at the end of the list (R72). -/
theorem putWaiting (h : Kept p q rs s) (hi : p → i < 2048)
    (hn : p → ∀ x, cell? s.obk.orders i = some x → x.state ≠ .pendingWait)
    (hs : o'.sequence = s.obk.sequence + 1) (hw : o'.state = .pendingWait) (hroom : s.obk.waiting.length < 96) :
    Kept p q rs ((({ s with obk.sequence := s.obk.sequence + 1 } : State).putOrder i o').joinWaiting
      (s.obk.handle i)) := by
  refine h.requeue (fun hq hs' => ?_) ?_ ?_ ?_
  · have hput := (Requeued.putLast hs' (hi hq) (hn hq) hs).joinWaiting (s.obk.handle i)
    have hself : cell? ((({ s with obk.sequence := s.obk.sequence + 1 } : State).putOrder i o').joinWaiting
        (s.obk.handle i)).obk.orders i = some o' := by
      rw [State.joinWaiting, State.putOrder_orders]
      exact cell?_setCell_self _ _ _
    have hhandle : ((({ s with obk.sequence := s.obk.sequence + 1 } : State).putOrder i o').joinWaiting
        (s.obk.handle i)).obk.handle i = s.obk.handle i := by
      rw [State.putOrder_frame]
      rfl
    refine Requeued.joined ?_ hs' hself hw (by omega) hroom
    rw [hhandle]
    exact hput
  all_goals
    rw [State.putOrder_frame]
    rfl

/-! ### One order is cancelled, expired, cut, trimmed, bumped or retired (R55 to R60) -/

theorem releaseOrder (o : Order) (floor : Nat) (h : Kept p q rs s) : Kept p q rs (s.releaseOrder o floor) :=
  h.withRing (Calendar.release_reaches _ _ _ _ _ _)

/-- An order's record is changed after a change of the ring. -/
theorem rewindow (h : Kept p q rs s) (ho : p → cell? s.obk.orders i = some o) (hc : c.reaches = s.cal.reaches)
    (hpart : o'.queuePart = o.queuePart) : Kept p q rs ((s.withRing c).putOrder i o') := by
  refine (h.withRing hc).putOrder (fun hq => ?_) hpart
  rw [State.withRing_obk]
  exact ho hq

theorem cancelOrder (why : CloseReason) (h : Kept p q rs s) (ho : p → cell? s.obk.orders i = some o) :
    Kept p q rs (s.cancelOrder i o why) := by
  have hrest : o.state ≠ .pendingWait →
      Kept p q rs (s.putOrder i { o with state := .cancelled, closeReason := some why }) :=
    fun hn => h.putDue ho rfl hn nofun
  unfold State.cancelOrder State.freeOrder
  split
  · exact h.putOff ho rfl nofun
  · next hs =>
    exact h.rewindow ho (Calendar.release_reaches _ _ _ _ _ _)
      (Order.queuePart_eq rfl (Order.not_waiting_of_confirmed hs) nofun)
  all_goals exact hrest (by simp [*])

theorem expireOrder (h : Kept p q rs s) (ho : p → cell? s.obk.orders i = some o) : Kept p q rs (s.expireOrder i o) :=
  (h.putOff (o' := { o with state := .expired, closeReason := some .expiredWait }) ho rfl nofun).markOrder i

theorem cutOrder (why : CloseReason) (h : Kept p q rs s) (ho : p → cell? s.obk.orders i = some o)
    (hdue : o.due = true) : Kept p q rs (s.cutOrder i o why) := by
  refine Kept.aside (s := (s.releaseOrder o (s.obk.slot + 1)).putOrder i _) ?_ rfl
  exact h.rewindow ho (Calendar.release_reaches _ _ _ _ _ _)
    (Order.queuePart_eq rfl (Order.not_waiting_of_due hdue) nofun)

theorem trimOrder (k : Nat) (h : Kept p q rs s) (ho : p → cell? s.obk.orders i = some o) :
    Kept p q rs (s.trimOrder i o k) :=
  (h.rewindow (o' := { o with duration := o.duration - k, ordered := volume o.flow (o.duration - k) }) ho
    (Calendar.release_reaches _ _ _ _ _ _) rfl).markOrder i

theorem bumpOrder (h : Kept p q rs s) (ho : p → cell? s.obk.orders i = some o) (hs : o.state = .confirmed) :
    Kept p q rs (s.bumpOrder i o).1 := by
  unfold State.bumpOrder
  split
  · next hroom =>
    have hfree := h.releaseOrder o s.obk.slot
    have hobk : (s.releaseOrder o s.obk.slot).obk = s.obk := State.withRing_obk _ _
    refine Kept.markOrder i (hfree.putWaiting (fun hq => ?_) (fun hq x hx => ?_) rfl rfl ?_)
    · exact ((h.queue hq).entry (ho hq)).1
    · rw [hobk, ho hq] at hx
      exact Option.some.inj hx ▸ Order.not_waiting_of_confirmed hs
    · rw [hobk]
      exact hroom.2.1
  · exact (h.cancelOrder _ ho).markOrder i

theorem retireEntry (h : Kept p q rs s) (ho : p → cell? s.obk.orders i = some o) (hl : o.live = false) :
    Kept p q rs (s.retireEntry i) := by
  refine h.requeue (fun hq hs => ?_) rfl rfl rfl
  have hi := (hs.entry (ho hq)).1
  have hself : cell? (s.retireEntry i).obk.orders i = none := (cell?_delCell _ _ _).trans (if_pos rfl)
  have hoff : s.obk.handle i ∉ s.obk.waiting := hs.handle_notMem hi fun x hx =>
    Option.some.inj ((ho hq).symm.trans hx) ▸ Order.not_waiting_of_not_live hl
  refine Requeued.left (i := i) ⟨hi, risingKeys_delCell i, fun k hk => (cell?_delCell _ _ _).trans (if_neg hk),
    fun k hk => (valueAt_setValue _ _ _ _ _).trans (if_neg hk), ?_, le_rfl, fun x hx => ?_⟩ hs fun x hx => ?_
  · rw [dropFrom_of_notMem hoff, List.append_nil]
    rfl
  · rw [hself] at hx
    cases hx
  · rw [hself] at hx
    cases hx

/-! ### Walks over the order table -/

/-- A walk over entries of the order table: each is still what it was when the walk comes to it. -/
theorem walk {σ : Type} (g : σ → State) {f : σ → Nat × Order → σ} (l : List (Nat × Order))
    (hn : p → (l.map Prod.fst).Nodup)
    (hstep : ∀ x, ∀ e ∈ l, Kept p q rs (g x) → (p → cell? (g x).obk.orders e.1 = some e.2) →
      Kept p q rs (g (f x e)) ∧ ∀ k, k ≠ e.1 → cell? (g (f x e)).obk.orders k = cell? (g x).obk.orders k)
    (x : σ) (hl : p → ∀ e ∈ l, cell? (g x).obk.orders e.1 = some e.2) (h : Kept p q rs (g x)) :
    Kept p q rs (g (l.foldl f x)) := by
  induction l generalizing x with
  | nil => exact h
  | cons e l ih =>
    obtain ⟨hkept, hother⟩ := hstep x e List.mem_cons_self h fun hq => hl hq e List.mem_cons_self
    refine ih (fun hq => (List.nodup_cons.1 (hn hq)).2) (fun y d hd => hstep y d (List.mem_cons_of_mem e hd)) _
      (fun hq d hd => ?_) hkept
    rw [hother d.1 fun he => (List.nodup_cons.1 (hn hq)).1 (he ▸ List.mem_map_of_mem hd)]
    exact hl hq d (List.mem_cons_of_mem e hd)

/-- A walk over some of the entries that the table holds, in any order. -/
theorem walkOrders {σ : Type} (g : σ → State) {f : σ → Nat × Order → σ} {l l' : List (Nat × Order)} {x : σ}
    (hsub : l'.Sublist (g x).obk.orders) (hperm : l.Perm l')
    (hstep : ∀ x, ∀ e ∈ l, Kept p q rs (g x) → (p → cell? (g x).obk.orders e.1 = some e.2) →
      Kept p q rs (g (f x e)) ∧ ∀ k, k ≠ e.1 → cell? (g (f x e)).obk.orders k = cell? (g x).obk.orders k)
    (h : Kept p q rs (g x)) : Kept p q rs (g (l.foldl f x)) := by
  refine walk g l (fun hq => ?_) hstep x (fun hq e he => ?_) h
  · exact (hperm.map _).nodup_iff.2 ((nodup_numbers (h.queue hq).ordersRise).sublist (hsub.map _))
  · exact cell?_of_mem (h.queue hq).ordersRise (hsub.subset (hperm.subset he))

/-! ### Re-examination and expiry (R74 to R77) -/

theorem reexamineEntry (x : Nat) (h : Kept p q rs s) : Kept p q rs (s.reexamineEntry x) := by
  unfold State.reexamineEntry
  split
  · exact h
  · next i o hn =>
    have ho := OrderBook.cell?_of_named? hn
    split
    · exact h
    · refine .ite (h.expireOrder fun _ => ho) ?_
      split
      · exact h
      · next c hok =>
        have hring := h.withRing (c := c) (by rw [Calendar.reserve_pass (State.tryWindow_ok hok)])
        have hobk : (s.withRing c).obk = s.obk := State.withRing_obk s c
        have hx : (s.withRing c).obk.handle i = x := by rw [hobk, OrderBook.handle_of_named? hn]
        have hput := hring.putOff (i := i) (o := o) (o' := { o with state := .confirmed })
          (fun _ => by rwa [hobk]) rfl nofun
        rw [hx] at hput
        exact hput.markOrder i

theorem reexamine (h : Kept p q rs s) : Kept p q rs s.reexamine :=
  (h.foldl (fun _ x hs => hs.reexamineEntry x) s.obk.waiting).aside rfl

theorem startReexamination (h : Kept p q rs s) : Kept p q rs s.startReexamination := .ite (h.aside rfl) h.reexamine

theorem expiryStep (h : Kept p q rs s) : Kept p q rs s.expiryStep := by
  refine h.foldl (fun s x hs => ?_) _
  unfold State.expireEntry
  split
  · exact hs
  · next hn => exact .ite (hs.expireOrder fun _ => OrderBook.cell?_of_named? hn) hs

/-! ### Placing (R45 to R49) -/

/-- A free entry: nothing waits in it. -/
theorem free_not_waiting (h : s.obk.freeEntry = some i) (x : Order) (hx : cell? s.obk.orders i = some x) :
    x.state ≠ .pendingWait := by
  rw [(OrderBook.freeEntry_spec h).1] at hx
  cases hx

theorem admitOrder (ask : Ask) (account start slidBy : Nat) (r : Result) (h : Kept p q rs s)
    (hc : c.reaches = s.cal.reaches) : Kept p q rs (s.admitOrder ask account start slidBy c r).1 := by
  unfold State.admitOrder
  split
  · exact h
  · next i hi =>
    dsimp only
    rw [State.createOrder_eq]
    refine (h.withRing hc).putLast (fun _ => (OrderBook.freeEntry_spec hi).2) (fun _ => ?_) rfl nofun
    rw [State.withRing_obk]
    exact free_not_waiting hi

theorem queueOrder (ask : Ask) (account : Nat) (h : Kept p q rs s) : Kept p q rs (s.queueOrder ask account).1 := by
  unfold State.queueOrder
  split
  · exact h
  · next i hi =>
    split
    · next hroom =>
      dsimp only
      rw [State.createOrder_eq]
      exact h.putWaiting (fun _ => (OrderBook.freeEntry_spec hi).2) (fun _ => free_not_waiting hi) rfl rfl hroom
    · exact h

theorem slideTries (ask : Ask) (reach account : Nat) (failure : Reply) (fuel k : Nat) (h : Kept p q rs s) :
    Kept p q rs (s.slideTries ask reach account failure fuel k).1 := by
  induction fuel generalizing k with
  | zero =>
    unfold State.slideTries
    split <;> exact h
  | succ fuel ih =>
    unfold State.slideTries
    split
    · exact h
    · dsimp only
      split
      · exact h
      · split
        · exact ih _
        · split
          · next hok => exact h.admitOrder _ _ _ _ _ (by rw [Calendar.reserve_pass (State.tryWindow_ok hok)])
          · split
            · exact h
            · exact ih _

theorem placeFirst (ask : Ask) (tries : Nat) (h : Kept p q rs s) : Kept p q rs (s.placeFirst ask tries).1 := by
  unfold State.placeFirst
  split
  · exact h
  · split
    · exact h
    · dsimp only
      split
      · exact h
      · split
        · exact h
        · split
          · next hok => exact h.admitOrder _ _ _ _ _ (by rw [Calendar.reserve_pass (State.tryWindow_ok hok)])
          · split
            · split
              · exact h.slideTries _ _ _ _ _ _
              · exact h
            · exact h.slideTries _ _ _ _ _ _
            · exact h.queueOrder _ _
            · exact h

theorem placeNext (ask : Ask) (tries : Nat) (w : Search) (h : Kept p q rs s) :
    Kept p q rs (s.placeNext ask tries w).1 := by
  unfold State.placeNext
  split
  · exact h
  · split
    · exact h
    · exact h.slideTries _ _ _ _ _ _

theorem fire (x : Nat) (m : Template) (h : Kept p q rs s) : Kept p q rs (s.fire x m) := by
  have hmarked := (h.placeFirst (m.ask x) 96).markHandle (s.placeFirst (m.ask x) 96).2.outcome.2
  exact .ite (hmarked.aside rfl) (hmarked.aside rfl)

theorem firingStep (u : Nat) (h : Kept p q rs s) : Kept p q rs (s.firingStep u) :=
  h.foldl (fun _ e hs => .ite (hs.fire e.1 e.2) hs) _

/-! ### Amend (R51 to R53) -/

theorem amendDue (x e : Nat) (h : Kept p q rs s) (ho : cell? s.obk.orders i = some o) :
    Kept p q rs (s.amendDue x i o e).1 := by
  unfold State.amendDue
  dsimp only
  split
  · exact h
  · split
    · exact h
    · split
      · split
        · exact h
        · split
          · split
            · next c hpass => exact h.rewindow (fun _ => ho) (by rw [Calendar.reserve_pass hpass]) rfl
            · exact h
            · exact h
          · exact h
      · exact h.rewindow (fun _ => ho) (Calendar.release_reaches _ _ _ _ _ _) rfl

theorem amendConfirmed (x f e : Nat) (h : Kept p q rs s) (ho : cell? s.obk.orders i = some o) :
    Kept p q rs (s.amendConfirmed x i o f e).1 := by
  unfold State.amendConfirmed
  dsimp only
  split
  · exact h
  · split
    · exact h
    · split
      · exact h
      · split
        · next c hpass => exact h.rewindow (fun _ => ho) (by rw [Calendar.exchange_pass hpass]) rfl
        · exact h
        · exact h

theorem amendBook (handle : Nat) (flow endSlot : Option Nat) (h : Kept p q rs s) :
    Kept p q rs (amendBook handle flow endSlot s).1 := by
  unfold Machine.amendBook
  split
  · exact h
  · next i o hn =>
    have ho := OrderBook.cell?_of_named? hn
    have hdue := h.amendDue handle (endSlot.getD o.endSlot) ho
    have hconfirmed := h.amendConfirmed handle (flow.getD o.flow) (endSlot.getD o.endSlot) ho
    dsimp only
    split
    · exact h
    · split
      · exact h
      · split
        · exact h
        · split
          · exact h
          · split
            · exact h
            · have hr : Kept p q rs (if o.due then s.amendDue handle i o (endSlot.getD o.endSlot)
                  else s.amendConfirmed handle i o (flow.getD o.flow) (endSlot.getD o.endSlot)).1 := by
                split
                · exact hdue
                · exact hconfirmed
              rw [apply_ite Prod.fst]
              exact .ite hr.startReexamination hr

/-! ### Cancel (R54 to R57), suspend (R15), retire (R160) -/

theorem cancelOne (endRunning : Bool) (i : Nat) (acc : State × CancelCounts) (h : Kept p q rs acc.1) :
    Kept p q rs (State.cancelOne endRunning i acc).1 := by
  unfold State.cancelOne
  split
  · exact h
  · next o ho =>
    have hcut : o.due = true → Kept p q rs ((acc.1.cutOrder i o .endedEarly).markOrder i) :=
      fun hdue => (h.cutOrder _ (fun _ => ho) hdue).markOrder i
    split
    · exact (h.cancelOrder _ fun _ => ho).markOrder i
    · exact (h.cancelOrder _ fun _ => ho).markOrder i
    · next hs =>
      split
      · exact hcut (by simp [Order.due, hs])
      · exact h
    · next hs =>
      split
      · exact hcut (by simp [Order.due, hs])
      · exact h
    all_goals exact h

theorem cancelMany (chain : List (Nat × Order)) (endRunning : Bool) (h : Kept p q rs s) :
    Kept p q rs (s.cancelMany chain endRunning).1 := by
  have hchain : Kept p q rs (s.cancelChain chain endRunning).1 :=
    foldl_inv (fun acc : State × CancelCounts => Kept p q rs acc.1)
      (fun acc (e : Nat × Order) => State.cancelOne endRunning e.1 acc)
      (fun acc e => cancelOne endRunning e.1 acc) chain (s, _) h
  exact .ite hchain.startReexamination hchain

theorem cancelNamed (handle : Nat) (h : Kept p q rs s) : Kept p q rs (s.cancelNamed handle).1 := by
  unfold State.cancelNamed
  split
  · exact h
  · next i o hn =>
    have ho : p → cell? s.obk.orders i = some o := fun _ => OrderBook.cell?_of_named? hn
    split
    · exact (h.cancelOrder _ ho).startReexamination
    · exact (h.cancelOrder _ ho).startReexamination
    · next hs => exact (h.cutOrder _ ho (by simp [Order.due, hs])).startReexamination
    · next hs => exact (h.cutOrder _ ho (by simp [Order.due, hs])).startReexamination
    all_goals exact h

theorem suspendAll (n : Nat) (h : Kept p q rs s) :
    Kept p q rs ((s.obk.cancellable n).foldl (fun s e => s.suspendOne e) s) := by
  refine h.foldl (fun s e hs => ?_) _
  unfold State.suspendOne
  split
  · exact hs
  · next o ho => exact (hs.cancelOrder _ fun _ => ho).markOrder e.1

/-- The close of an account's period retires its finished orders (R160). -/
theorem closePeriod (n : Nat) (h : Kept p q rs s) : Kept p q rs (s.closePeriod n) := by
  unfold State.closePeriod
  split
  · exact h
  · next a _ =>
    have hset := h.setAccount (n := n) (a.closePeriod s.cal.clock)
    refine walkOrders id (List.filter_sublist.trans List.filter_sublist) ((sortBy_perm _ _).filter _)
      (fun s e he hs ho => ⟨hs.retireEntry ho ?_, fun k hk => (cell?_delCell _ _ _).trans (if_neg hk)⟩) hset
    simpa using (List.mem_filter.1 he).2

/-! ### The boundary (R61 to R64) -/

/-- An order that does not wait, before or after, is rewritten by a step of the boundary. -/
theorem putStepped (h : Kept p q rs s) (ho : p → cell? s.obk.orders i = some o) (hs : o'.sequence = o.sequence)
    (hn : o.state ≠ .pendingWait) (hw : o'.state ≠ .pendingWait) :
    Kept p q rs ((s.putOrder i o').markOrder i) ∧
      ∀ k, k ≠ i → cell? ((s.putOrder i o').markOrder i).obk.orders k = cell? s.obk.orders k :=
  ⟨(h.putDue ho hs hn hw).markOrder i, fun _ hk => RingSound.put_other hk⟩

theorem closeStep (u : Nat) (h : Kept p q rs s) : Kept p q rs (s.closeStep u).1 := by
  refine walkOrders (x := (s, false)) Prod.fst (.refl _) (.refl _) (fun acc e _ h ho => ?_) h
  unfold closeOne
  dsimp only
  split
  · next hc => exact h.putStepped ho rfl (by simp [hc.1]) nofun
  · exact ⟨h, fun _ _ => rfl⟩

theorem endStep (u : Nat) (h : Kept p q rs s) : Kept p q rs (s.endStep u) := by
  refine walkOrders id (.refl _) (.refl _) (fun s e _ h ho => ?_) h
  unfold endOne
  dsimp only
  split
  · next hc => exact putStepped h ho rfl (Order.not_waiting_of_due hc.1) nofun
  · exact ⟨h, fun _ _ => rfl⟩

theorem startStep (u : Nat) (h : Kept p q rs s) : Kept p q rs (s.startStep u) := by
  refine walkOrders id (.refl _) (.refl _) (fun s e _ h ho => ?_) h
  unfold startOne
  dsimp only
  split
  · next hc =>
    split
    · exact ⟨h, fun _ _ => rfl⟩
    · next v _ =>
      exact putStepped h ho (o' := e.2.under v.mode) rfl (Order.not_waiting_of_confirmed hc.1)
        (Order.not_waiting_of_due (dueUnder_due v.mode e.2))
  · exact ⟨h, fun _ _ => rfl⟩

theorem noticeStep (ns : List Nat) (h : Kept p q rs s) : Kept p q rs (s.noticeStep ns) :=
  h.foldl (f := fun t x => t.notify x (t.obk.scheduledOf x)) (fun _ _ hs => hs.aside rfl) ns

theorem bookBoundary (u : Nat) (h : Kept p q rs s) : Kept p q rs (s.bookBoundary u) := by
  have hslot : Kept p q rs { s with obk.slot := u } := h.aside rfl
  have hfired := ((((hslot.closeStep u).endStep u).startStep u).noticeStep
    (changedPoints u (({ s with obk.slot := u } : State).closeStep u).1.obk.orders)).expiryStep.firingStep u
  exact .ite hfired.startReexamination hfired

/-! ### Sweep steps (R170 to R179) -/

theorem trimOne (e : Nat) (h : Kept p q rs s) (ho : p → cell? s.obk.orders i = some o) :
    Kept p q rs (s.trimOne i o e) :=
  .ite ((h.trimOrder _ ho).tally _) (((h.cancelOrder _ ho).markOrder i).tally _)

theorem trimLoop (n fuel : Nat) (acc : State × Bool) (h : Kept p q rs acc.1) :
    Kept p q rs (State.trimLoop n fuel acc).1 := by
  induction fuel generalizing acc with
  | zero => exact h
  | succ fuel ih =>
    unfold State.trimLoop
    split
    · exact h
    · split
      · exact h
      · next i o hlast =>
        exact ih _ (h.trimOne _ fun hq => cell?_of_mem (h.queue hq).ordersRise (OrderBook.mem_of_lastOf hlast).1)

theorem drainOne (h : Kept p q rs s) (ho : p → cell? s.obk.orders i = some o) (hdue : o.due = true) :
    Kept p q rs (s.drainOne i o) :=
  ((h.cutOrder _ ho hdue).markOrder i).tally _

theorem drainLoop (n fuel : Nat) (acc : State × Bool) (h : Kept p q rs acc.1) :
    Kept p q rs (State.drainLoop n fuel acc).1 := by
  induction fuel generalizing acc with
  | zero => exact h
  | succ fuel ih =>
    unfold State.drainLoop
    split
    · exact h
    · split
      · exact h
      · next i o hlast =>
        obtain ⟨hm, hdue⟩ := OrderBook.mem_of_lastOf hlast
        exact ih _ (h.drainOne (fun hq => cell?_of_mem (h.queue hq).ordersRise hm) hdue)

theorem curtailAccount (n : Nat) (a : Account) (share : Nat) (d : Drain) (h : Kept p q rs s) :
    Kept p q rs (s.curtailAccount n a share d) := by
  have htrim := trimLoop n s.obk.orders.length
    (s.reviseAccount n (fun a => { a with curtailment := share }), false) (h.reviseAccount n _)
  have hend : ∀ (r : State × Bool) (c c' : Prop) [Decidable c] [Decidable c'], Kept p q rs r.1 →
      Kept p q rs (if c' then (if c then r.1.owe else r.1).accountChanged n else if c then r.1.owe else r.1) :=
    fun r c c' _ _ hr => .ite ((Kept.ite hr.owe hr).accountChanged n) (.ite hr.owe hr)
  cases d with
  | letRun => exact hend _ _ _ htrim
  | stopRunning => exact hend _ _ _ (drainLoop n _ _ htrim)

theorem moveCursor (k : Nat) (h : Kept p q rs s) : Kept p q rs (s.moveCursor k) := h.aside rfl

theorem curtailVisit (w : Sweep) (h : Kept p q rs s) : Kept p q rs (s.curtailVisit w) := by
  unfold State.curtailVisit
  refine Kept.moveCursor _ ?_
  split
  · exact h
  · exact .ite (h.curtailAccount _ _ _ _) h

theorem closeVisit (w : Sweep) (h : Kept p q rs s) : Kept p q rs (s.closeVisit w) := by
  unfold State.closeVisit
  refine Kept.moveCursor _ ?_
  split
  · exact h
  · exact .ite ((h.closePeriod _).accountChanged _) h

theorem bumpSlot (k : Nat) (h : Kept p q rs s) : Kept p q rs (s.bumpSlot k) := by
  have hwalk : Kept p q rs ((s.bumpList k).foldl (bumpOne k) s) := by
    refine walkOrders id List.filter_sublist (sortBy_perm _ _) (fun s e he h ho => ?_) h
    dsimp only [id] at h ho ⊢
    unfold bumpOne
    split
    · have hs : e.2.state = .confirmed := by
        have hm := (List.mem_filter.1 (mem_sortBy.1 he)).2
        simp only [Bool.and_eq_true, decide_eq_true_eq] at hm
        exact hm.1
      exact ⟨((h.bumpOrder ho hs).owe).tally _, fun x hx => State.bumpOrder_other _ e.2 hx⟩
    · exact ⟨h, fun _ _ => rfl⟩
  exact .ite (hwalk.aside rfl) (hwalk.aside rfl)

theorem bumpVisit (w : Sweep) (h : Kept p q rs s) : Kept p q rs (s.bumpVisit w) :=
  Kept.moveCursor _ (.ite (h.bumpSlot _) h)

/-- Every point takes a record of the one place and the one term. -/
theorem mapPoints {f : Point → Point} (h : Kept p q rs s) (hr : ∀ v, (f v).reach = v.reach)
    (ht : ∀ v, (f v).frostTerm = v.frostTerm) :
    Kept p q rs { s with points := s.points.map (fun e => (e.1, f e.2)) } := by
  refine h.alike rfl rfl rfl fun hrise => ⟨risingKeys_map (fun e => f e.2) hrise, ?_⟩
  simp only [State.frostTerms, List.map_map]
  exact List.map_congr_left fun e _ => congrArg₂ Prod.mk (hr e.2) (ht e.2)

theorem seasonVisit (w : Sweep) (h : Kept p q rs s) : Kept p q rs (s.seasonVisit w) := by
  unfold State.seasonVisit
  refine Kept.moveCursor _ ?_
  split
  · exact h
  · unfold State.seasonAccount
    refine Kept.accountChanged _ (Kept.mapPoints ?_ ?_ ?_)
    · have hclosed := h.closePeriod w.cursor
      split
      · exact hclosed
      · exact hclosed.setAccount _
    all_goals
      intro v
      unfold Point.newSeason
      split <;> rfl

end Kept
end Sys2Proof.Machine
end

section
/-! The two invariants on the same walk: the reaches, the points, the clock (R3 to R11, R33, R105). -/

namespace Sys2Proof.Machine

/-! ### Terms of points -/

/-- The term of R101 reads a point's kind, mode, backup and frost rate. -/
theorem Point.frostTerm_congr {v w : Point} (hk : w.kind = v.kind) (hm : w.mode = v.mode) (hb : w.backup = v.backup)
    (hf : w.frostRate = v.frostRate) : w.frostTerm = v.frostTerm := by
  unfold Point.frostTerm
  rw [hk, hm, hb, hf]

/-- A point that is not in AUTO or not in frost has no term. -/
theorem Point.frostTerm_of_idle {v : Point} (h : ¬(v.mode = .auto ∧ v.backup.isSome = true)) : v.frostTerm = 0 := by
  by_cases hm : v.mode = .auto
  · exact Point.frostTerm_of_backup (by simpa [hm] using h)
  · exact Point.frostTerm_of_mode hm

theorem Point.calibrate_reach (c : Calibration) (v : Point) : (v.calibrate c).reach = v.reach := by
  unfold Point.calibrate
  split <;> rfl

theorem Point.calibrate_frostTerm (c : Calibration) (v : Point) : (v.calibrate c).frostTerm = v.frostTerm := by
  unfold Point.calibrate
  split <;> rfl

/-- A point that moves is DISABLED (R8, check 4). -/
theorem State.pointRefused_mode {s : State} {n reach rated : Nat} {k : PointKind} {owner : Option Nat} {v : Point}
    (h : s.pointRefused n k reach owner rated = none) (hv : s.point? n = some v)
    (hm : v.moves k reach owner = true) : v.mode = .disabled := by
  obtain ⟨hr, -⟩ := RingSound.pointRefused_none h
  obtain ⟨w, hw⟩ := Option.ne_none_iff_exists'.1 hr
  unfold State.pointRefused at h
  simp only [hw, hv, hm, true_and] at h
  split_ifs at h with h1 h2 h3
  exact not_not.1 h3

namespace Frosted

variable {rs : List Nat} {s : State} {r : Nat}

/-- A reach takes a record whose parent is configured: parents and points still name configured reaches. -/
theorem setReach_rooted (h : Frosted rs s) {v : Reach} (hp : ∀ x, v.parent = some x → s.reach? x ≠ none) :
    ({ s with cal.reaches := setCell s.cal.reaches r v } : State).rooted := by
  have hkept : ∀ x, s.reach? x ≠ none → cell? (setCell s.cal.reaches r v) x ≠ none := by
    intro x hx
    rw [cell?_setCell]
    split_ifs
    · nofun
    · exact hx
  refine ⟨fun k w x hk hw => hkept x ?_, fun n y hy => hkept _ (h.placed n y hy)⟩
  rw [State.reach?_setCell] at hk
  split_ifs at hk
  · cases hk
    exact hp x hw
  · exact h.parents k w x hk hw

end Frosted

namespace Kept

variable {p q : Prop} {rs : List Nat} {s t : State} {n r : Nat} {v w : Point}

/-- The reaches change; the Order Book does not. -/
theorem retree {rt : Table Reach} (h : Kept p q rs s)
    (ht : Frosted rs s → Frosted rs { s with cal.reaches := rt }) : Kept p q rs { s with cal.reaches := rt } :=
  ⟨fun hq => (h.queue hq).same (.of_obk rfl), fun hq => ht (h.frost hq)⟩

/-! ### The reaches (R3 to R5, R105) -/

/-- Another parent: every load is recomputed. -/
theorem reparent {new : Reach} (h : Kept p q [] s) (hp : ∀ x, new.parent = some x → s.reach? x ≠ none) :
    Kept p q [] (({ s with cal.reaches := setCell s.cal.reaches r new } : State).refreshFrost
      ({ s with cal.reaches := setCell s.cal.reaches r new } : State).configured) := by
  refine Kept.refreshFrost ⟨fun hq => (h.queue hq).same (.of_obk rfl), fun hq => ?_⟩
  refine (h.frost hq).retree ((h.frost hq).setReach_rooted hp) (fun k hk => ?_) fun k hk => State.mem_configured hk
  rw [cell?_setCell] at hk
  split_ifs at hk
  exact hk

theorem reconfigure {old new : Reach} (h : Kept p q [] s) (hold : s.reach? r = some old)
    (hp : ∀ x, new.parent = some x → s.reach? x ≠ none) : Kept p q [] (s.reconfigure r old new) := by
  have hset : Kept p q [] (if new.parent = old.parent
      then ({ s with cal.reaches := setCell s.cal.reaches r new } : State)
      else ({ s with cal.reaches := setCell s.cal.reaches r new } : State).refreshFrost
        ({ s with cal.reaches := setCell s.cal.reaches r new } : State).configured) := by
    split
    · next hsame =>
      refine h.retree fun hf => hf.replant (hf.setReach_rooted hp) fun m y _ k _ => ?_
      rw [cell?_setCell]
      split_ifs with hk
      · have hold' : cell? s.cal.reaches k = some old := hk ▸ hold
        rw [hold']
        exact hsame
      · rfl
    · exact h.reparent hp
  exact .ite hset.startReexamination.arbitrate hset.arbitrate

theorem configureReach (parent : Option Nat) (cap lag : Nat) (h : Kept p q [] s) :
    Kept p q [] (s.configureReach r parent cap lag).1 := by
  unfold State.configureReach
  split
  · exact h
  · split
    · exact h
    · next hmissing =>
      have hp : ∀ x, parent = some x → s.reach? x ≠ none := fun x hx hn =>
        hmissing ((parentMissing_iff s parent).2 ⟨x, hx, hn⟩)
      split
      · exact h
      · split
        · next hnone =>
          refine h.retree fun hf => hf.replant (hf.setReach_rooted hp) fun m y hy k hk => ?_
          rw [cell?_setCell_other]
          rintro rfl
          exact hf.path_configured hy hk hnone
        · next old hold =>
          split
          · exact h
          · exact h.reconfigure hold hp

theorem unconfigureReach (h : Kept p q [] s) : Kept p q [] (s.unconfigureReach r).1 := by
  unfold State.unconfigureReach
  split
  · exact h
  · split
    · exact h
    · split
      · exact h
      · next hused =>
        rw [reach_used_iff, not_or] at hused
        obtain ⟨hchild, hpoint⟩ := hused
        have hkept : ∀ {k : Nat}, k ≠ r → cell? (delCell s.cal.reaches r) k = cell? s.cal.reaches k :=
          fun hk => (cell?_delCell _ _ _).trans (if_neg hk)
        have hchild' : ∀ k x, cell? s.cal.reaches k = some x → x.parent ≠ some r :=
          fun k x hk hx => hchild ⟨(k, x), mem_of_cell? hk, hx⟩
        have hpoint' : ∀ m y, s.point? m = some y → y.reach ≠ r :=
          fun m y hy he => hpoint ⟨(m, y), mem_of_cell? hy, he⟩
        refine h.retree fun hf => hf.replant ⟨fun k x y hk hx => ?_, fun m y hy => ?_⟩ fun m y hy k hk => ?_
        · have hk' : cell? s.cal.reaches k = some x := by
            rw [State.reach?, cell?_delCell] at hk
            split_ifs at hk
            exact hk
          rw [State.reach?, hkept fun he => hchild' k x hk' (he ▸ hx)]
          exact hf.parents k x y hk' hx
        · rw [State.reach?, hkept (hpoint' m y hy)]
          exact hf.placed m y hy
        · rw [hkept]
          rintro rfl
          rcases child_of_mem_pathUp hk with he | ⟨j, x, hj, hx⟩
          · exact hpoint' m y hy he.symm
          · exact hchild' j x hj hx

/-! ### The points (R7 to R11) -/

/-- A point without a term takes the place of one without a term, or of none. -/
theorem placePoint (h : Kept p q [] s) (hr : s.reach? w.reach ≠ none) (hw : w.frostTerm = 0)
    (hv : ∀ v, s.point? n = some v → v.frostTerm = 0) : Kept p q [] (s.setPoint n w) := by
  refine ⟨fun hq => (h.queue hq).same (.of_obk rfl), fun hq => (h.frost hq).setPoint hr (fun _ hm => hm) ?_⟩
  intro k _
  rw [Frosted.cellSum_zero hv, Point.frostAt_of_term hw]

/-- The check point fields are not read. -/
theorem followCheck (n : Nat) (old : Option Point) (w : Point) (h : Kept p q rs s) :
    Kept p q rs (s.followCheck n old (some w)) := by
  rw [State.followCheck_frame]
  refine h.retree fun hf => hf.reshape (sameShape_of_map (s.followCheck_reach? n · old w) fun k x => ?_)
  split_ifs <;> rfl

theorem createPoint (old : Option Point) (h : Kept p q [] s) (hr : s.reach? w.reach ≠ none) (hw : w.frostTerm = 0)
    (hv : ∀ v, s.point? n = some v → v.frostTerm = 0) : Kept p q [] (s.createPoint n old w) := by
  rw [State.createPoint_eq, State.followPolling_frame]
  exact ((h.placePoint hr hw hv).followCheck n old w).aside rfl

theorem removePoint (h : Kept p q [] s) (hv : s.point? n = some v) (hm : v.mode = .disabled) :
    Kept p q [] (s.removePoint n v) := by
  have hterm : ∀ y, s.point? n = some y → y.frostTerm = 0 := by
    intro y hy
    cases hv.symm.trans hy
    exact Point.frostTerm_of_mode (by simp [hm])
  have hdel : Kept p q [] { s with points := delCell s.points n } :=
    ⟨fun hq => (h.queue hq).same (.of_obk rfl), fun hq => (h.frost hq).delPoint (Frosted.cellSum_zero hterm)⟩
  have hshape : SameShape s.cal.reaches (s.removePoint n v).cal.reaches := by
    refine sameShape_of_map (s.removePoint_reach? n v) fun k x => ?_
    split_ifs <;> rfl
  refine (hdel.retree fun hf => hf.reshape hshape).aside ?_
  rw [State.removePoint_frame, State.removePoint_points]
  rfl

/-- A point that keeps its kind (R9 to R11): one in frost and in AUTO stays where it is, and the loads of its path
follow its frost rate. -/
theorem updatePoint {reach rated frost : Nat} {owner : Option Nat} (c : Calibration) (h : Kept p q [] s)
    (hv : s.point? n = some v) (hr : s.reach? reach ≠ none) (hstay : v.mode ≠ .disabled → v.reach = reach) :
    Kept p q [] (s.updatePoint n v reach owner rated frost c) := by
  have hself : ∀ y, s.point? n = some y → y = v := fun y hy => Option.some.inj (hy.symm.trans hv)
  unfold State.updatePoint
  dsimp only
  split
  · next hk =>
    have hmoved : Kept p q [] (s.setPoint n { v with
        reach := reach, account := owner, rated := rated, frostRate := frost }) :=
      h.placePoint hr (Point.frostTerm_of_check hk) fun y hy => Point.frostTerm_of_check ((hself y hy).symm ▸ hk)
    exact .ite (hmoved.followCheck n (some v) _) ((hmoved.followCheck n (some v) _).recheck n)
  · have hreach : (Point.calibrate c { v with
        reach := reach, account := owner, rated := rated, frostRate := frost }).reach = reach :=
      Point.calibrate_reach c _
    split
    · next hload =>
      obtain rfl := hstay (by simp [hload.1])
      exact Kept.refreshPath (s := s) ((h.setTerm hv hreach).retarget n) (Retold.reaches (.retarget _ _))
    · next hload =>
      by_cases hfrost : v.mode = .auto ∧ v.backup.isSome = true
      · have hrate : frost = v.frostRate := by
          by_contra hne
          exact hload ⟨hfrost.1, hfrost.2, hne⟩
        refine h.setPoint hv (hreach.trans (hstay (by simp [hfrost.1])).symm) ?_
        exact (Point.calibrate_frostTerm c _).trans (Point.frostTerm_congr rfl rfl rfl hrate)
      · refine h.placePoint (by rwa [hreach]) ?_ fun y hy => (hself y hy).symm ▸ Point.frostTerm_of_idle hfrost
        exact (Point.calibrate_frostTerm c _).trans (Point.frostTerm_of_idle hfrost)

theorem givePoint {reach rated frost : Nat} {k : PointKind} {owner : Option Nat} (c : Calibration)
    (h : Kept p q [] s) : Kept p q [] (s.givePoint n k reach owner rated frost c).1 := by
  unfold State.givePoint
  split
  · exact h
  · next hrefused =>
    obtain ⟨hr, -⟩ := RingSound.pointRefused_none hrefused
    have hnew : (Point.created k reach owner rated frost c s.cal.clock).frostTerm = 0 :=
      Point.frostTerm_of_mode nofun
    dsimp only
    split
    · next hv =>
      refine (h.createPoint none hr hnew fun y hy => ?_).arbitrate
      rw [hv] at hy
      cases hy
    · next v hv =>
      have hmode : v.moves k reach owner = true → v.mode = .disabled := State.pointRefused_mode hrefused hv
      split
      · refine (h.updatePoint c hv hr fun hm => ?_).arbitrate
        by_contra hne
        exact hm (hmode ((v.moves_iff k reach owner).2 (Or.inr (Or.inl hne))))
      · next hk =>
        refine (h.createPoint (some v) hr hnew fun y hy => ?_).arbitrate
        rw [hv] at hy
        cases hy
        exact Point.frostTerm_of_mode (by simp [hmode ((v.moves_iff k reach owner).2 (Or.inl hk))])

theorem clearPoint (h : Kept p q [] s) : Kept p q [] (s.clearPoint n).1 := by
  unfold State.clearPoint
  split
  · exact h
  · next v hv =>
    split
    · exact h
    · next hm =>
      split
      · exact h
      · exact (h.removePoint hv (not_not.1 hm)).arbitrate

/-! ### The minute and CLOCK_SET (R21, R33) -/

theorem minute (h : Kept p q rs s) : Kept p q rs s.minute := .ite h (.ite (h.aside rfl) (h.aside rfl))

theorem setClock (m : Nat) (h : Kept p q rs s) : Kept p q rs (s.setClock m) := by
  have hclock : Kept p q rs (s.reclocked m) := h.aside rfl
  exact (hclock.recheckMany _).arbitrate

end Kept

end Sys2Proof.Machine
end

section
/-! Every request keeps the two invariants. -/

namespace Sys2Proof.Machine

namespace Kept

variable {p q : Prop} {rs : List Nat} {s t : State}

/-- What a request makes of a state. -/
abbrev After (p q : Prop) (r : State × Reply) : Prop := Kept p q [] r.1

theorem iteAfter {c : Prop} [Decidable c] {a b : State × Reply} (ha : After p q a) (hb : After p q b) :
    After p q (if c then a else b) := by
  split
  · exact ha
  · exact hb

theorem settle {r : State × Reply} (h : Kept p q [] s) (hr : After p q r) : After p q (s.settle r) :=
  iteAfter h hr.arbitrate

/-- A query hands the state back. -/
theorem of_query {r : State × Reply} {a : Reply} (h : Kept p q [] s) (hr : r = (s, a)) : After p q r := hr ▸ h

/-! ### The tables and the accounts (chapters 1 and 8) -/

theorem reqReachSet (a r : Nat) (x : Option Nat) (c l : Nat) (h : Kept p q [] s) :
    After p q (reqReachSet a r x c l s) := by
  unfold Machine.reqReachSet
  split
  · exact h.configureReach x c l
  · exact h.unconfigureReach
  · exact h

theorem reqPointSet (n k r a f g m i : Nat) (h : Kept p q [] s) : After p q (reqPointSet n k r a f g m i s) := by
  unfold Machine.reqPointSet
  refine iteAfter h ?_
  dsimp only
  split
  · exact h.clearPoint
  · exact h.givePoint _
  · exact h.givePoint _

theorem reqAccountSet (n c b : Nat) (h : Kept p q [] s) : After p q (reqAccountSet n c b s) := by
  unfold Machine.reqAccountSet
  refine iteAfter h ?_
  split
  · exact h.setAccount _
  · exact iteAfter (h.setAccount _).startReexamination.arbitrate (h.setAccount _)

theorem reqAccountSuspend (n : Nat) (h : Kept p q [] s) : After p q (reqAccountSuspend n s) := by
  unfold Machine.reqAccountSuspend
  refine iteAfter h ?_
  split
  · exact h
  · next a _ =>
    have hgone := (h.setAccount (n := n) (a.revise fun a => { a with state := .suspended })).suspendAll n
    exact iteAfter (Kept.ite hgone hgone.startReexamination).arbitrate h

theorem reqAccountResume (n : Nat) (h : Kept p q [] s) : After p q (reqAccountResume n s) := by
  unfold Machine.reqAccountResume
  refine iteAfter h ?_
  split
  · exact h
  · exact iteAfter (h.setAccount _).startReexamination.arbitrate h

theorem reqAccountClose (n : Nat) (h : Kept p q [] s) : After p q (reqAccountClose n s) := by
  unfold Machine.reqAccountClose
  refine iteAfter h ?_
  split
  · exact h
  · exact iteAfter h (iteAfter h (h.setAccount _))

theorem reqTransfer (g k x : Nat) (h : Kept p q [] s) : After p q (reqTransfer g k x s) := by
  unfold Machine.reqTransfer
  refine iteAfter h ?_
  split
  · exact iteAfter h (iteAfter h (iteAfter h (h.moveLitres g k x).startReexamination.arbitrate))
  · exact h

theorem reqPeriodClose (c r : Nat) (h : Kept p q [] s) : After p q (reqPeriodClose c r s) := by
  have hscope : ∀ sc, After p q (s.closeScopePeriod sc) := fun sc => iteAfter h (h.aside rfl)
  unfold Machine.reqPeriodClose
  split
  · unfold State.closeAccountPeriod
    refine iteAfter h (iteAfter h ?_)
    split
    · exact h
    · exact h.closePeriod r
  · exact iteAfter h (hscope _)
  · exact hscope _
  · exact h

theorem reqNextAccountChanged (h : Kept p q [] s) : After p q (reqNextAccountChanged s) := by
  unfold Machine.reqNextAccountChanged
  split
  · exact h
  · exact h.setAccount _

/-! ### The calendar (chapter 2) -/

theorem writeSupplies (first count flow : Nat) (h : Kept p q [] s) : After p q (s.writeSupplies first count flow) := by
  have hset : Kept p q [] { s with cal := s.cal.supplied first count flow } :=
    h.aside (by rw [Calendar.supplied_eq]; rfl)
  have hsweep : ∀ (c : Prop) [Decidable c] w, Kept p q []
      (if c then ({ s with cal := s.cal.supplied first count flow } : State)
        else ({ s with cal := s.cal.supplied first count flow } : State).startSweep w) :=
    fun c _ w => .ite hset (hset.aside rfl)
  exact .ite (hsweep _ _).startReexamination.arbitrate (hsweep _ _)

/-! ### Orders and standing orders (chapters 3 and 4) -/

theorem placeEvent (ask : Ask) (tries : Nat) (h : Kept p q rs s) : Kept p q rs (placeEvent ask tries s).1 := by
  unfold Machine.placeEvent
  cases s.obk.search with
  | none =>
    have hplaced := h.placeFirst ask tries
    dsimp only
    split <;> exact hplaced.aside rfl
  | some w =>
    have hplaced := h.placeNext ask tries w
    dsimp only
    split <;> exact hplaced.aside rfl

theorem reqPlace (n u d f o l k : Nat) (h : Kept p q [] s) : Kept p q [] (reqPlace n u d f o l k s).1 := by
  unfold Machine.reqPlace
  split
  · exact h
  · next ask _ =>
    have hplaced := h.placeEvent ask k
    dsimp only
    split
    · exact hplaced
    · split
      · exact hplaced
      · exact hplaced.arbitrate

theorem reqCancel (c r o : Nat) (h : Kept p q [] s) : After p q (reqCancel c r o s) := by
  refine h.settle ?_
  unfold cancelBook
  split
  · exact h.cancelNamed r
  · refine iteAfter h ?_
    split
    · exact h
    · exact h.cancelMany _ _
  · refine iteAfter h ?_
    split
    · exact h
    · exact h.cancelMany _ _
  · exact h

theorem reqRetire (x : Nat) (h : Kept p q [] s) : After p q (reqRetire x s) := by
  unfold Machine.reqRetire
  split
  · exact h
  · next i o hn =>
    split
    · exact h
    · next hl => exact h.retireEntry (fun _ => OrderBook.cell?_of_named? hn) (eq_false_of_ne_true hl)

theorem reqNextChanged (h : Kept p q [] s) : After p q (reqNextChanged s) := by
  unfold Machine.reqNextChanged
  split
  · exact h
  · dsimp only
    split <;> exact h.aside rfl

theorem reqStandingSet (x n o d f c : Nat) (k : Option Nat) (h : Kept p q [] s) :
    After p q (reqStandingSet x n o d f c k s) := by
  unfold Machine.reqStandingSet
  refine iteAfter h ?_
  split
  · exact h
  · split
    · exact h
    · exact h.aside rfl

theorem reqStandingResume (x : Nat) (h : Kept p q [] s) : After p q (reqStandingResume x s) := by
  unfold Machine.reqStandingResume
  refine iteAfter h ?_
  split
  · exact h
  · exact iteAfter (h.aside rfl) h

/-! ### Release Control, the field line and the meters (chapters 5 to 7) -/

theorem reqPointEnable (n : Nat) (h : Kept p q [] s) : After p q (reqPointEnable n s) := by
  unfold Machine.reqPointEnable
  refine iteAfter h ?_
  split
  · exact h
  · next hv => exact iteAfter h (h.enablePoint hv).arbitrate

theorem reqPointDisable (n a : Nat) (h : Kept p q [] s) : After p q (reqPointDisable n a s) := by
  unfold Machine.reqPointDisable
  refine iteAfter h ?_
  split
  · exact h
  · next hv => exact (Kept.ite (h.closePoint hv) (h.leavePoint _ _)).arbitrate

theorem reqLocalAck (n : Nat) (h : Kept p q [] s) : After p q (reqLocalAck n s) := by
  unfold Machine.reqLocalAck
  refine iteAfter h ?_
  split
  · exact h
  · next v hv => exact iteAfter h (h.setPoint (w := { v with latch := false }) hv rfl rfl)

theorem reqFrostCall (c r : Nat) (h : Kept p q [] s) : After p q (reqFrostCall c r s) :=
  iteAfter h (iteAfter h (h.enterFrost _).arbitrate)

theorem reqFrostEnd (c r : Nat) (h : Kept p q [] s) : After p q (reqFrostEnd c r s) :=
  iteAfter h (iteAfter h (h.leaveFrost _).arbitrate)

theorem setMode (m : FieldMode) (h : Kept p q rs s) : Kept p q rs (s.setMode m) := h.aside rfl

theorem reqFieldStart (h : Kept p q [] s) : After p q (reqFieldStart s) := by
  unfold Machine.reqFieldStart
  split
  · exact (h.setMode _).arbitrate
  · exact h
  · exact h

theorem reqFieldStop (h : Kept p q [] s) : After p q (reqFieldStop s) := by
  unfold Machine.reqFieldStop
  dsimp only
  split
  · exact h
  · exact (h.setMode _).cutShort.abandonPoll
  · exact (h.setMode _).cutShort.abandonPoll

theorem reqResume (h : Kept p q [] s) : After p q (reqResume s) := by
  unfold Machine.reqResume
  split
  · exact iteAfter h (h.setMode _).arbitrate
  · exact h
  · exact h

theorem reqMeterRebase (n : Nat) (h : Kept p q [] s) : After p q (reqMeterRebase n s) := by
  unfold Machine.reqMeterRebase
  refine iteAfter h ?_
  split
  · exact h
  · next v hv =>
    exact iteAfter h (h.setPoint
      (w := { v with meter := { v.meter with state := .rebase, residual := 0, suspects := 0 } }) hv rfl rfl)

/-! ### Sweeps (chapter 9) -/

theorem reqSeasonOpen (h : Kept p q [] s) : After p q (reqSeasonOpen s) := by
  have hsweep : ∀ w, Kept p q [] (s.startSweep w) := fun w => h.aside rfl
  exact iteAfter h (iteAfter h (hsweep _).openSeason)

theorem reqCurtail (c k b z x d : Nat) (h : Kept p q [] s) : After p q (reqCurtail c k b z x d s) := by
  unfold Machine.reqCurtail
  split
  · exact h
  · refine iteAfter h (iteAfter h ?_)
    dsimp only
    split
    · exact h
    · exact h.aside rfl

/-! ### Every request -/

theorem runRequest (c : Instr) (h : Kept p q [] s) : Kept p q [] (runRequest c s).1 := by
  cases c
  case reachSet a r x c l => exact h.reqReachSet a r x c l
  case reachQuery n => exact h.of_query (reqReachQuery_eq n s)
  case pointSet n k r a f g m i => exact h.reqPointSet n k r a f g m i
  case pointQuery n => exact h.of_query (reqPointQuery_eq n s)
  case accountSet a c b => exact h.reqAccountSet a c b
  case accountQuery a k => exact h.of_query (reqAccountQuery_eq a k s)
  case accountSuspend a => exact h.reqAccountSuspend a
  case accountResume a => exact h.reqAccountResume a
  case accountClose a => exact h.reqAccountClose a
  case tariffSet => exact iteAfter h (h.aside rfl)
  case tariffQuery c => exact h.of_query (reqTariffQuery_eq c s)
  case districtSet => exact h.aside rfl
  case clockSet m => exact iteAfter h (iteAfter h (h.setClock m))
  case capacityQuery r f n => exact h.of_query (reqCapacityQuery_eq r f n s)
  case supplySet f n w => exact iteAfter h (iteAfter h (iteAfter h (h.writeSupplies f n w)))
  case place n u d f o l k => exact h.reqPlace n u d f o l k
  case amend x f e => exact h.settle (h.amendBook x f e)
  case cancel c r o => exact h.reqCancel c r o
  case orderQuery x => exact h.of_query (reqOrderQuery_eq x s)
  case retire x => exact h.reqRetire x
  case nextChanged => exact h.reqNextChanged
  case waitlistQuery k => exact h.of_query (reqWaitlistQuery_eq k s)
  case standingSet x n o d f c k => exact h.reqStandingSet x n o d f c k
  case standingResume x => exact h.reqStandingResume x
  case standingClear x => exact iteAfter h (h.aside rfl)
  case standingQuery x => exact h.of_query (reqStandingQuery_eq x s)
  case pointEnable n => exact h.reqPointEnable n
  case pointDisable n a => exact h.reqPointDisable n a
  case localAck n => exact h.reqLocalAck n
  case frostCall c r => exact h.reqFrostCall c r
  case frostEnd c r => exact h.reqFrostEnd c r
  case fieldStart => exact h.reqFieldStart
  case fieldStop => exact h.reqFieldStop
  case resume => exact h.reqResume
  case stationQuery a => exact h.of_query (reqStationQuery_eq a s)
  case meterRebase n => exact h.reqMeterRebase n
  case meterQuery n => exact h.of_query (reqMeterQuery_eq n s)
  case transfer g k x => exact h.reqTransfer g k x
  case periodClose c r => exact h.reqPeriodClose c r
  case seasonOpen => exact h.reqSeasonOpen
  case statementQuery n => exact h.of_query (reqStatementQuery_eq n s)
  case nextAccountChanged => exact h.reqNextAccountChanged
  case curtail c k b z x d => exact h.reqCurtail c k b z x d
  case sweepQuery => exact h.aside rfl
  case errorClear => exact iteAfter h (h.aside rfl)
  case severitySet => exact iteAfter h (h.aside rfl)
  case countSelect => exact iteAfter h (h.aside rfl)
  case attentionMask => exact h.aside rfl
  all_goals exact h

end Kept

end Sys2Proof.Machine
end

section
/-! Every command keeps the two invariants (O34). -/

namespace Sys2Proof.Machine

/-- The next state of an outcome, if it is one, has the two invariants. -/
def KeptNext (p q : Prop) (r : Host.Outcome State Fault Refusal) : Prop := ∀ t, r = .next t → Kept p q [] t

namespace KeptNext

variable {p q : Prop} {t : State}

theorem next (h : Kept p q [] t) : KeptNext p q (.next t) := by
  rintro _ ⟨⟩
  exact h

theorem ite {c : Prop} [Decidable c] {x y : Host.Outcome State Fault Refusal} (hx : KeptNext p q x)
    (hy : KeptNext p q y) : KeptNext p q (if c then x else y) := by
  split
  · exact hx
  · exact hy

end KeptNext

namespace Kept

variable {p q : Prop} {s t : State}

/-! ### Requests, transactions, resets and power (chapter 11) -/

theorem exec_request {c : Instr} (hc : (requestBytes c).isSome = true) (hp : isPlace c = false)
    (hs : c ≠ .softReset) (h : Kept p q [] s) : KeptNext p q (exec c s) := by
  obtain ⟨act, hact, hrun⟩ := exec_of_request hc hp hs
  have hdone := h.runRequest c
  rw [hrun] at hdone
  rw [hact]
  exact .ite (.next (hdone.aside rfl)) (.next h)

theorem execPlace (n u d f o l k : Nat) (h : Kept p q [] s) : KeptNext p q (execPlace n u d f o l k s) := by
  have hplaced := h.reqPlace n u d f o l k
  refine .ite ?_ (.next h)
  dsimp only
  split
  · exact .next hplaced
  · exact .next (hplaced.aside rfl)

theorem execCommand (m : Clocked) (h : Kept p q [] s) : KeptNext p q (execCommand m s) := by
  refine .next (h.aside ?_)
  split_ifs
  · unfold State.takeFrame
    split <;> rfl
  · rfl
  · rfl

theorem execFetch (bits : Nat) (h : Kept p q [] s) : KeptNext p q (execFetch bits s) := by
  unfold Machine.execFetch
  split
  · exact .next (h.aside rfl)
  · exact .next (.ite (h.aside rfl) (h.aside rfl))

theorem execResetAsserted (h : Kept p q [] s) : KeptNext p q (execResetAsserted s) := by
  have hline : Kept p q [] { s with resetAsserted := true } := h.aside rfl
  exact .ite (.next h) (.next (.ite hline.warmReset hline))

theorem execOrphanCompletion (h : Kept p q [] s) : KeptNext p q (execOrphanCompletion s) := by
  refine .ite ?_ (.next h)
  cases s.port.executing? with
  | none => exact .next h
  | some c =>
    have hrun := h.runRequest c
    dsimp only
    split
    · exact .next hrun
    · next a _ => exact .next ((hrun.markHandle a.names).aside rfl)

/-- Power-on values: no order, no point, no reach and no load. -/
theorem powerOn : Kept p q [] State.reset :=
  ⟨fun _ => State.reset_queued,
    fun _ => ⟨rfl, fun _ _ _ hr => (nomatch hr), fun _ _ hv => (nomatch hv), fun _ _ => rfl⟩⟩

/-! ### The minute and the boundaries (chapters 2 to 5, 7 and 9) -/

theorem execOrderBookBoundary (h : Kept p q [] s) : KeptNext p q (execOrderBookBoundary s) := by
  unfold Machine.execOrderBookBoundary
  split
  · exact .next h
  · next u rest _ =>
    have hrest : Kept p q [] { s with mail.orderBook := rest } := h.aside rfl
    exact .next (hrest.bookBoundary u).arbitrate

theorem execScheduledOrderNotice (n : Nat) (h : Kept p q [] s) : KeptNext p q (execScheduledOrderNotice n s) := by
  unfold Machine.execScheduledOrderNotice
  split
  · exact .next h
  · next g rest _ =>
    have hrest : Kept p q [] { s with mail.notices := rest } := h.aside rfl
    exact .next (hrest.takeNotice g).arbitrate

theorem execReleaseControlBoundary (h : Kept p q [] s) : KeptNext p q (execReleaseControlBoundary s) := by
  unfold Machine.execReleaseControlBoundary
  split
  · exact .next h
  · next u rest _ =>
    have hrest : Kept p q [] { s with mail.release := rest } := h.aside rfl
    exact .next (hrest.recheckMany _).arbitrate

theorem execMeterBoundary (h : Kept p q [] s) : KeptNext p q (execMeterBoundary s) := by
  unfold Machine.execMeterBoundary
  split
  · exact .next h
  · next u rest _ =>
    have hrest : Kept p q [] { s with mail.meter := rest } := h.aside rfl
    exact .next (hrest.meterBoundary u)

theorem execSweepBoundary (h : Kept p q [] s) : KeptNext p q (execSweepBoundary s) := by
  unfold Machine.execSweepBoundary
  split
  · exact .next h
  · next rest _ =>
    have hrest : Kept p q [] { s with mail.sweep := rest } := h.aside rfl
    exact .next hrest.skipPassed

/-! ### The field line and its deliveries (chapters 5 to 7) -/

theorem setStation (a : Nat) (x : Station) (h : Kept p q [] s) : Kept p q [] (s.setStation a x) := h.aside rfl

theorem execOutFrameSent (h : Kept p q [] s) : KeptNext p q (execOutFrameSent s) := by
  unfold Machine.execOutFrameSent
  split
  · exact .next h
  · exact .ite (.next (h.aside rfl)) (.next h)

theorem execAttemptDeadline (h : Kept p q [] s) : KeptNext p q (execAttemptDeadline s) := by
  unfold Machine.execAttemptDeadline
  split
  · exact .next h
  · exact .ite (.next h) (.ite (.next (h.endUnanswered _).arbitrate) (.next (h.aside rfl)))

theorem execReplyKindByte (a k : Byte) (h : Kept p q [] s) : KeptNext p q (execReplyKindByte a k s) := by
  unfold Machine.execReplyKindByte
  split
  · exact .next h
  · refine .ite ?_ (.next h)
    split
    · exact .next (h.aside rfl)
    · exact .next (h.badReply _ 0).arbitrate

theorem execFieldReply (f : List Byte) (h : Kept p q [] s) : KeptNext p q (execFieldReply f s) := by
  unfold Machine.execFieldReply
  split
  · exact .next h
  · next x _ =>
    refine .ite (.next h) ?_
    split
    · exact .ite (.next (h.badReply x 0).arbitrate) (.next h)
    · next n _ =>
      exact .ite (.next h) (.ite (.next (h.endAnswered x (f.take n)).arbitrate) (.next (h.badReply x n).arbitrate))

theorem execAppliedSetpointReport (n x : Nat) (h : Kept p q [] s) :
    KeptNext p q (execAppliedSetpointReport n x s) := by
  unfold Machine.execAppliedSetpointReport
  split
  · exact .next h
  · next rest _ =>
    have hrest : Kept p q [] { s with mail.applied := rest } := h.aside rfl
    exact .next (.ite (hrest.clearCloseOwed n).arbitrate hrest)

theorem execGateReport (n : Nat) (w : Switch) (g : Nat) (b : Bool) (h : Kept p q [] s) :
    KeptNext p q (execGateReport n w g b s) := by
  unfold Machine.execGateReport
  dsimp only
  split
  · exact .next h
  · next rest _ =>
    have hrest : Kept p q [] { s with mail.gates := rest } := h.aside rfl
    exact .next (hrest.takeGate _).arbitrate

theorem execMeterReading (n x : Nat) (b : Bool) (h : Kept p q [] s) : KeptNext p q (execMeterReading n x b s) := by
  unfold Machine.execMeterReading
  dsimp only
  split
  · exact .next h
  · next rest _ =>
    have hrest : Kept p q [] { s with mail.readings := rest } := h.aside rfl
    exact .next (hrest.takeReading _)

theorem execErrorReport (k : ErrorKind) (r : ErrorRef) (h : Kept p q [] s) :
    KeptNext p q (execErrorReport k r s) := by
  unfold Machine.execErrorReport
  split
  · exact .next h
  · exact .next (h.aside rfl)

theorem execHoldRequest (h : Kept p q [] s) : KeptNext p q (execHoldRequest s) := by
  unfold Machine.execHoldRequest
  split
  · exact .next h
  · next n _ =>
    have hrest : Kept p q [] { s with mail.holds := n } := h.aside rfl
    exact .next hrest.holdLine

/-! ### Sweep steps (chapter 9) -/

theorem execCurtailStep (h : Kept p q [] s) : KeptNext p q (execCurtailStep s) := by
  unfold Machine.execCurtailStep
  split
  · exact .next h
  · next w _ => exact .next (h.curtailVisit w).arbitrate

theorem execSupplyBumpStep (h : Kept p q [] s) : KeptNext p q (execSupplyBumpStep s) := by
  unfold Machine.execSupplyBumpStep
  split
  · exact .next h
  · next w _ => exact .next (h.bumpVisit w).arbitrate

theorem execPeriodCloseStep (h : Kept p q [] s) : KeptNext p q (execPeriodCloseStep s) := by
  unfold Machine.execPeriodCloseStep
  split
  · exact .next h
  · next w _ => exact .next (h.closeVisit w)

theorem execSeasonOpenStep (h : Kept p q [] s) : KeptNext p q (execSeasonOpenStep s) := by
  unfold Machine.execSeasonOpenStep
  split
  · exact .next h
  · next w _ => exact .next (h.seasonVisit w)

theorem execSweepEnd (h : Kept p q [] s) : KeptNext p q (execSweepEnd s) := by
  have hclosed : Kept p q [] (s.closeSweep .done) := h.aside rfl
  unfold Machine.execSweepEnd
  split
  · exact .next h
  · exact .ite (.next hclosed.reexamine.arbitrate) (.next h)

/-! ### Every command -/

/-- An event that is no request. -/
theorem exec_event {c : Instr} (hc : (requestBytes c).isSome = false) (h : Kept p q [] s) :
    KeptNext p q (exec c s) := by
  cases c
  case command m => exact h.execCommand m
  case fetch bits => exact h.execFetch bits
  case status piece => exact .next (h.aside rfl)
  case ignoredTransaction m => exact .next (h.aside rfl)
  case resetAsserted => exact h.execResetAsserted
  case resetReleased => exact .next (h.aside rfl)
  case orphanCompletion => exact h.execOrphanCompletion
  case powerOn => exact .next (powerOn.aside rfl)
  case powerOnInitComplete => exact .next (.ite (h.aside rfl) h)
  case powerOff => exact .next (powerOn.aside rfl)
  case minuteEdge => exact .next (.ite h.minute h)
  case orderBookBoundary => exact h.execOrderBookBoundary
  case scheduledOrderNotice n => exact h.execScheduledOrderNotice n
  case releaseControlBoundary => exact h.execReleaseControlBoundary
  case meterBoundary => exact h.execMeterBoundary
  case sweepBoundary => exact h.execSweepBoundary
  case pollIntervalElapsed a => exact .ite (.next (h.setStation _ _).arbitrate) (.next h)
  case outFrameSent => exact h.execOutFrameSent
  case attemptDeadline => exact h.execAttemptDeadline
  case replyKindByte a k => exact h.execReplyKindByte a k
  case fieldReply f => exact h.execFieldReply f
  case appliedSetpointReport n x => exact h.execAppliedSetpointReport n x
  case gateReport n w g b => exact h.execGateReport n w g b
  case meterReading n x b => exact h.execMeterReading n x b
  case errorReport k r => exact h.execErrorReport k r
  case holdRequest => exact h.execHoldRequest
  case curtailStep => exact h.execCurtailStep
  case supplyBumpStep => exact h.execSupplyBumpStep
  case periodCloseStep => exact h.execPeriodCloseStep
  case seasonOpenStep => exact h.execSeasonOpenStep
  case sweepEnd => exact h.execSweepEnd
  all_goals cases hc

theorem exec (c : Instr) (h : Kept p q [] s) : KeptNext p q (exec c s) := by
  cases hc : (requestBytes c).isSome with
  | false => exact h.exec_event hc
  | true =>
    cases hp : isPlace c with
    | true =>
      cases c
      case place n u d f o l k => exact h.execPlace n u d f o l k
      all_goals cases hp
    | false =>
      by_cases hs : c = .softReset
      · subst hs
        exact .ite (.next h.warmReset) (.next h)
      · exact h.exec_request hc hp hs

theorem step (h : Kept p q [] s) : KeptNext p q (step s) := by
  unfold Machine.step
  split
  · exact .next h
  · next c rest _ =>
    have hrest : Kept p q [] { s with pending := rest } := h.aside rfl
    exact hrest.exec c

end Kept

/-- Settles O34: the waiting list follows one entry of the order table at a time, with a handle that leaves the list or
joins it at its end; the frost extra loads follow the terms of the points and the tree, where a load that a change makes
stale is recomputed before the step ends. -/
theorem stepKeepsTheWaitingListAndTheFrostLoads : Obligations.StepKeepsTheWaitingListAndTheFrostLoads := by
  have hreset : Kept True True [] State.reset := Kept.powerOn
  refine ⟨⟨hreset.queue trivial, fun s t h hs => ?_⟩,
    (frostKept_iff _).2 (hreset.frost trivial), fun s t h hs => ?_⟩
  · have hs' : Kept True False [] s := ⟨fun _ => h, False.elim⟩
    exact (hs'.step t hs).queue trivial
  · have hs' : Kept False True [] s := ⟨False.elim, fun _ => (frostKept_iff s).1 h⟩
    exact (frostKept_iff t).2 ((hs'.step t hs).frost trivial)

end Sys2Proof.Machine
end

section
/-! One point's record as Release Control and the field line write it: a target, send pending, a resend, a withdrawal
(R91, R113). -/

namespace Sys2Proof.Machine

/-! ### A record that is written again -/

theorem setCell_setCell {α : Type} (t : Table α) (k : Nat) (v w : α) :
    setCell (setCell t k v) k w = setCell t k w := by
  induction t with
  | nil => simp [setCell]
  | cons e t ih =>
    obtain ⟨j, u⟩ := e
    by_cases hlt : k < j
    · simp [setCell, hlt]
    · by_cases heq : k = j
      · simp [setCell, heq]
      · simp [setCell, hlt, heq, ih]

@[simp] theorem State.setPoint_setPoint (s : State) (n : Nat) (p q : Point) :
    (s.setPoint n p).setPoint n q = s.setPoint n q :=
  congrArg (fun t => { s with points := t }) (setCell_setCell s.points n p q)

theorem State.changePoint_eq {s : State} {n : Nat} {p : Point} (f : Point → Point) (h : s.point? n = some p) :
    s.changePoint n f = s.setPoint n (f p) := by
  unfold State.changePoint
  rw [h]

@[simp] theorem State.changePoint_setPoint (s : State) (n : Nat) (p : Point) (f : Point → Point) :
    (s.setPoint n p).changePoint n f = s.setPoint n (f p) := by
  rw [State.changePoint_eq f (p := p) (by simp), State.setPoint_setPoint]

/-! ### Send pending (R91, R113) -/

section

variable {s : State} {n : Nat} {p : Point}

theorem Point.sendable_iff (p : Point) : p.sendable = true ↔ p.mode = .auto ∨ p.closeOwed = true := by
  simp [Point.sendable]

theorem Point.wantsSet_eq (p : Point) :
    p.wantsSet = decide ((p.mode = .auto ∨ p.closeOwed = true) ∧ (p.field.resendOwed = true ∨
      p.target ≠ p.field.acknowledged ∧ p.field.declined ≠ some p.target)) := by
  simp [Point.wantsSet, Point.sendable]

theorem State.reevaluate_setting (h : s.line.settingPoint n = true) : s.reevaluate n = s := if_pos h

theorem State.reevaluate_free (hp : s.point? n = some p) (h : s.line.settingPoint n = false) :
    s.reevaluate n = s.setPoint n (p.pendingAgain false) :=
  (if_neg (by simp [h])).trans (State.changePoint_eq _ hp)

theorem State.reevaluate_setPoint_free (p : Point) (h : s.line.settingPoint n = false) :
    (s.setPoint n p).reevaluate n = s.setPoint n (p.pendingAgain false) := by
  rw [State.reevaluate_free (s := s.setPoint n p) (p := p) (by simp) h, State.setPoint_setPoint]

theorem State.resend_setting (hp : s.point? n = some p) (h : s.line.settingPoint n = true) :
    s.resend n = s.setPoint n { p with field.resendOwed := true } := by
  unfold State.resend
  rw [State.changePoint_eq _ hp]
  exact State.reevaluate_setting h

theorem State.resend_free (hp : s.point? n = some p) (h : s.line.settingPoint n = false) :
    s.resend n = s.setPoint n (Point.pendingAgain false { p with field.resendOwed := true }) := by
  unfold State.resend
  rw [State.changePoint_eq _ hp, State.reevaluate_setPoint_free _ h]

theorem State.withdraw_eq (hp : s.point? n = some p) :
    s.withdraw n = s.setPoint n { p with field.sendPending := false, field.resendOwed := false } :=
  State.changePoint_eq _ hp

/-! ### A target (R91) -/

theorem State.setTarget_same (hp : s.point? n = some p) : s.setTarget n p.target = s := by
  unfold State.setTarget
  rw [hp]
  exact if_pos rfl

theorem State.setTarget_new {f : Nat} (hp : s.point? n = some p) (hf : f ≠ p.target) :
    s.setTarget n f =
      if p.sendable then (s.setPoint n { p with target := f }).reevaluate n
      else s.setPoint n { p with target := f } := by
  unfold State.setTarget
  rw [hp]
  exact if_neg (Ne.symm hf)

theorem State.setTarget_recorded {f : Nat} (hp : s.point? n = some p) (hf : f ≠ p.target)
    (h : ¬(p.mode = .auto ∨ p.closeOwed = true) ∨ s.line.settingPoint n = true) :
    s.setTarget n f = s.setPoint n { p with target := f } := by
  rw [State.setTarget_new hp hf]
  split
  · next hsend => exact State.reevaluate_setting (h.resolve_left fun hn => hn (p.sendable_iff.1 hsend))
  · rfl

theorem State.setTarget_handedOver {f : Nat} (hp : s.point? n = some p) (hf : f ≠ p.target)
    (hsend : p.mode = .auto ∨ p.closeOwed = true) (h : s.line.settingPoint n = false) :
    s.setTarget n f = s.setPoint n (Point.pendingAgain false { p with target := f }) := by
  rw [State.setTarget_new hp hf, if_pos (p.sendable_iff.2 hsend), State.reevaluate_setPoint_free _ h]

end

/-- A re-evaluated point, its send pending written out. -/
theorem Point.pendingAgain_free (p : Point) :
    p.pendingAgain false = { p with
      field.sendPending := decide ((p.mode = .auto ∨ p.closeOwed = true) ∧ (p.field.resendOwed = true ∨
        p.target ≠ p.field.acknowledged ∧ p.field.declined ≠ some p.target)) } := by
  unfold Point.pendingAgain
  rw [Point.wantsSet_eq]
  rfl

/-- Settles O41: a target, a re-evaluation, a resend and a withdrawal each write the one record of the point; what they
write as send pending is `Point.wantsSet`. -/
theorem sendPendingFollowsTheTarget : Obligations.SendPendingFollowsTheTarget := by
  intro s n p hp
  refine ⟨State.setTarget_same hp, fun f hf h => State.setTarget_recorded hp hf h, fun f hf hsend h => ?target,
    State.reevaluate_setting, fun h => ?pending, State.resend_setting hp, fun h => ?resend, State.withdraw_eq hp⟩
  case target =>
    exact (State.setTarget_handedOver hp hf hsend h).trans
      (congrArg (fun q => s.setPoint n q) (Point.pendingAgain_free _))
  case pending =>
    exact (State.reevaluate_free hp h).trans (congrArg (fun q => s.setPoint n q) (Point.pendingAgain_free _))
  case resend => exact (State.resend_free hp h).trans (congrArg (fun q => s.setPoint n q) (Point.pendingAgain_free _))

end Sys2Proof.Machine
end

section
/-! Events handed to Release Control and taken there: the scheduled order notice, the gate report, the applied setpoint
(R89, R91, R95, R96, R100, R104). -/

namespace Sys2Proof.Machine

/-! ### What is outstanding -/

theorem takeOne_none {α : Type} [DecidableEq α] {x : α} {l : List α} (h : x ∉ l) : takeOne x l = none := by
  induction l with
  | nil => rfl
  | cons y t ih =>
    obtain ⟨hne, ht⟩ := not_or.1 (mt List.mem_cons.2 h)
    simp [takeOne, hne, ih ht]

theorem takeOne_first {α : Type} [DecidableEq α] {x : α} {before : List α} (after : List α) (h : x ∉ before) :
    takeOne x (before ++ x :: after) = some (before ++ after) := by
  induction before with
  | nil => simp [takeOne]
  | cons y t ih =>
    obtain ⟨hne, ht⟩ := not_or.1 (mt List.mem_cons.2 h)
    simp [takeOne, hne, ih ht]

theorem takeFirst_none {α : Type} {q : α → Bool} {l : List α} (h : ∀ y ∈ l, q y = false) :
    takeFirst q l = none := by
  induction l with
  | nil => rfl
  | cons y t ih =>
    obtain ⟨hy, ht⟩ := List.forall_mem_cons.1 h
    simp [takeFirst, hy, ih ht]

theorem takeFirst_first {α : Type} {q : α → Bool} {x : α} {before : List α} (after : List α) (hx : q x = true)
    (h : ∀ y ∈ before, q y = false) : takeFirst q (before ++ x :: after) = some (x, before ++ after) := by
  induction before with
  | nil => simp [takeFirst, hx]
  | cons y t ih =>
    obtain ⟨hy, ht⟩ := List.forall_mem_cons.1 h
    simp [takeFirst, hy, ih ht]

/-- Events that make the same of a state, and then let the line choose, answer the same next state. -/
theorem next_arbitrate_congr {t u : State} (h : t = u) :
    (.next t.arbitrate : Host.Outcome State Fault Refusal) = .next u.arbitrate := by rw [h]

section

variable {s : State} {n : Nat} {p : Point}

/-! ### SCHEDULED_ORDER_NOTICE (R89, R104) -/

theorem execScheduledOrderNotice_none (h : ∀ y ∈ s.mail.notices, y.point ≠ n) :
    exec (.scheduledOrderNotice n) s = .next s := by
  change Machine.execScheduledOrderNotice n s = _
  unfold Machine.execScheduledOrderNotice
  rw [takeFirst_none fun y hy => decide_eq_false (h y hy)]

theorem execScheduledOrderNotice_taken {before after : List Notice} {x : Option Scheduled}
    (hmail : s.mail.notices = before ++ { point := n, order := x } :: after) (h : ∀ y ∈ before, y.point ≠ n) :
    exec (.scheduledOrderNotice n) s =
      .next (({ s with mail.notices := before ++ after } : State).takeNotice { point := n, order := x }).arbitrate := by
  change Machine.execScheduledOrderNotice n s = _
  unfold Machine.execScheduledOrderNotice
  rw [hmail, takeFirst_first after (decide_eq_true rfl) fun y hy => decide_eq_false (h y hy)]

/-- A point that is no turnout discards the notice (log entry 42). -/
theorem State.takeNotice_discarded (x : Option Scheduled) (h : ∀ p, s.point? n = some p → p.kind ≠ .turnout) :
    s.takeNotice { point := n, order := x } = s := by
  unfold State.takeNotice
  rw [State.turnout?_eq_none h]

/-- A turnout with the scheduled order that a notice names, saved in frost (R89, R104). -/
def Point.noticed (x : Option Scheduled) (p : Point) : Point :=
  { p with
    scheduled := x
    backup := if p.backup.isSome then
      some { order := x.map Scheduled.handle, flow := (x.map Scheduled.flow).getD 0 } else none }

/-- The target of a turnout that has taken a notice (R92). -/
theorem Point.noticed_target (x : Option Scheduled) (p : Point) :
    (p.noticed x).turnoutTarget =
      if p.backup.isSome then max ((x.map Scheduled.flow).getD 0) p.frostRate else (x.map Scheduled.flow).getD 0 := by
  unfold Point.noticed Point.turnoutTarget Point.scheduledFlow
  cases p.backup <;> rfl

theorem State.retarget_setPoint {q : Point} (hk : q.kind = .turnout) :
    (s.setPoint n q).retarget n = (s.setPoint n q).setTarget n q.turnoutTarget :=
  State.retarget_turnout (by simp) hk

theorem State.takeNotice_turnout (x : Option Scheduled) (hp : s.point? n = some p) (hk : p.kind = .turnout) :
    s.takeNotice { point := n, order := x } =
      (let s1 := s.setPoint n (p.noticed x)
       let flow := (x.map Scheduled.flow).getD 0
       let s2 := if p.mode = .auto then
         s1.setTarget n (if p.backup.isSome then max flow p.frostRate else flow) else s1
       if p.backup.isSome then s2.refreshPath p.reach else s2) := by
  have hsaved : ∀ b : Backup, p.backup.map (fun _ => b) = if p.backup.isSome then some b else none := by
    intro b
    cases p.backup <;> rfl
  unfold State.takeNotice
  rw [State.turnout?_eq_some hp hk]
  dsimp only
  rw [hsaved, ← Point.noticed_target, ← State.retarget_setPoint (q := p.noticed x) hk]
  rfl

/-! ### Close owed clears (R91) -/

theorem State.setPoint_self (s : State) (n : Nat) (p : Point) : (s.setPoint n p).point? n = some p :=
  cell?_setCell_self _ _ _

/-- A point whose close owed clears; one that is not in AUTO is withdrawn (R91). -/
def Point.closeMet (p : Point) : Point :=
  if p.mode = .auto then { p with closeOwed := false }
  else { p with closeOwed := false, field.sendPending := false, field.resendOwed := false }

/-- A point after close owed clears, whether it was owed or not. -/
def Point.closeCleared (p : Point) : Point := if p.closeOwed then p.closeMet else p

theorem Point.closeCleared_auto (hm : p.mode = .auto) : p.closeCleared = { p with closeOwed := false } := by
  unfold Point.closeCleared Point.closeMet
  cases h : p.closeOwed with
  | false => rw [if_neg (by simp), ← h]
  | true => rw [if_pos rfl, if_pos hm]

theorem State.clearCloseOwed_idle (h : ∀ p, s.point? n = some p → p.closeOwed = false) : s.clearCloseOwed n = s := by
  unfold State.clearCloseOwed
  cases hp : s.point? n with
  | none => rfl
  | some p => exact if_neg (by simp [h p hp])

theorem State.clearCloseOwed_owed (hp : s.point? n = some p) (h : p.closeOwed = true) :
    s.clearCloseOwed n = s.setPoint n p.closeMet := by
  unfold State.clearCloseOwed Point.closeMet
  simp only [hp, h, if_true]
  split
  · rfl
  · rw [State.withdraw_eq (State.setPoint_self s n _), State.setPoint_setPoint]

theorem State.clearCloseOwed_setPoint (s : State) (n : Nat) (p : Point) :
    (s.setPoint n p).clearCloseOwed n = s.setPoint n p.closeCleared := by
  have hself := State.setPoint_self s n p
  unfold Point.closeCleared
  split
  · next h => rw [State.clearCloseOwed_owed hself h, State.setPoint_setPoint]
  · next h =>
    refine State.clearCloseOwed_idle fun q hq => ?_
    cases hself.symm.trans hq
    simpa using h

/-! ### APPLIED_SETPOINT_REPORT (R91) -/

theorem execAppliedSetpointReport_none {v : Nat} (h : ({ point := n, flow := v } : Applied) ∉ s.mail.applied) :
    exec (.appliedSetpointReport n v) s = .next s := by
  change Machine.execAppliedSetpointReport n v s = _
  unfold Machine.execAppliedSetpointReport
  rw [takeOne_none h]

theorem execAppliedSetpointReport_taken {v : Nat} {before after : List Applied}
    (hmail : s.mail.applied = before ++ { point := n, flow := v } :: after)
    (h : ({ point := n, flow := v } : Applied) ∉ before) :
    exec (.appliedSetpointReport n v) s =
      .next (if v = 0 then (({ s with mail.applied := before ++ after } : State).clearCloseOwed n).arbitrate
        else { s with mail.applied := before ++ after }) := by
  change Machine.execAppliedSetpointReport n v s = _
  unfold Machine.execAppliedSetpointReport
  rw [hmail, takeOne_first after h]

/-! ### Switch reports (R95, R96) -/

/-- A point that is not in AUTO and hears of a LOCAL switch (R91, R95). -/
def Point.heldLocal (p : Point) : Point :=
  { p with
    switch := .manual, closeOwed := false
    field.sendPending := p.field.sendPending && !p.closeOwed
    field.resendOwed := p.field.resendOwed && !p.closeOwed }

theorem Point.closeCleared_held (hm : p.mode ≠ .auto) :
    Point.closeCleared { p with switch := .manual } = p.heldLocal := by
  unfold Point.closeCleared Point.closeMet Point.heldLocal
  cases p.closeOwed <;> simp [hm]

/-- What a report of its switch makes of point p (R95, R96). -/
def State.switched (sw : Switch) (n : Nat) (p : Point) (s : State) : State :=
  match sw, p.mode with
  | .manual, .auto =>
    let u := (s.setPoint n
      { p with switch := .manual, closeOwed := false,
               latch := p.latch || decide (0 < p.target ∨ p.backup.isSome = true) }).changeMode n .localHold
    if (0 < p.target ∨ p.backup.isSome = true) ∧ p.latch = false then u.report .localHoldFault (.number n) else u
  | .manual, _ => s.setPoint n p.heldLocal
  | .remote, .localHold =>
    (s.setPoint n { p with switch := .remote }).changeMode n (if p.latch then .disabled else .auto)
  | .remote, _ => s.setPoint n { p with switch := .remote }

theorem State.switchLocal_eq (hp : s.point? n = some p) : s.switchLocal n = s.switched .manual n p := by
  unfold State.switchLocal State.switched
  rw [hp]
  dsimp only
  rw [State.clearCloseOwed_setPoint]
  split
  · next hm =>
    rw [Point.closeCleared_auto (p := { p with switch := .manual }) hm, State.changePoint_setPoint]
    simp [hm]
  all_goals
    next hm =>
      rw [Point.closeCleared_held (by simp [hm])]
      simp [hm]

theorem State.switchRemote_eq (hp : s.point? n = some p) : s.switchRemote n = s.switched .remote n p := by
  unfold State.switchRemote State.switched
  rw [hp]
  dsimp only
  split <;> next hm => simp [hm]

/-! ### GATE_REPORT (R100) -/

theorem execGateReport_none {sw : Switch} {pos : Nat} {fault : Bool}
    (h : ({ point := n, switch := sw, position := pos, fault := fault } : GateNews) ∉ s.mail.gates) :
    exec (.gateReport n sw pos fault) s = .next s := by
  change Machine.execGateReport n sw pos fault s = _
  unfold Machine.execGateReport
  simp only [takeOne_none h]

theorem execGateReport_taken {g : GateNews} {before after : List GateNews}
    (hmail : s.mail.gates = before ++ g :: after) (h : g ∉ before) :
    exec (.gateReport g.point g.switch g.position g.fault) s =
      .next (({ s with mail.gates := before ++ after } : State).takeGate g).arbitrate := by
  change Machine.execGateReport g.point g.switch g.position g.fault s = _
  unfold Machine.execGateReport
  rw [hmail]
  simp only [takeOne_first after h]

theorem State.takeGate_none {g : GateNews} (h : s.point? g.point = none) : s.takeGate g = s := by
  unfold State.takeGate
  rw [h]

/-- The gate position and the gate fault of a delivery to point p, a newly set fault reported (R100). -/
def State.gateStored (g : GateNews) (p : Point) (s : State) : State :=
  let s1 := s.changePoint g.point (fun q => { q with position := min 100 g.position, gateFault := g.fault })
  if g.fault = true ∧ p.gateFault = false then s1.report .gateFault (.number g.point) else s1

theorem State.takeGate_eq {g : GateNews} (hp : s.point? g.point = some p) :
    s.takeGate g = (s.switched g.switch g.point p).gateStored g p := by
  unfold State.takeGate State.gateStored
  rw [hp]
  cases hs : g.switch with
  | manual => simp [State.switchLocal_eq hp]
  | remote => simp [State.switchRemote_eq hp]

end

/-- Settles O33: the oldest notice for the point is the first of the list, and taking it writes the turnout's record,
then its target, then the frost extra loads of its path. -/
theorem noticeSetsTheScheduledOrder : Obligations.NoticeSetsTheScheduledOrder := by
  refine fun s n => ⟨execScheduledOrderNotice_none, fun before x after hmail hbefore =>
    ⟨fun hcheck => ?discarded, fun p hp hk => ?taken⟩⟩
  case discarded =>
    exact (execScheduledOrderNotice_taken hmail hbefore).trans
      (next_arbitrate_congr (State.takeNotice_discarded x hcheck))
  case taken =>
    exact (execScheduledOrderNotice_taken hmail hbefore).trans
      (next_arbitrate_congr (State.takeNotice_turnout x hp hk))

/-- Settles O37: a delivery that is outstanding is taken out of the list, and its point's switch, mode and latch decide
which change of mode comes before the gate is stored. -/
theorem gateAndAppliedReportsReachThePoint : Obligations.GateAndAppliedReportsReachThePoint := by
  refine fun s n => ⟨fun sw pos fault => execGateReport_none, fun sw pos fault before after hmail hbefore => ?gate,
    fun v => execAppliedSetpointReport_none, fun v before after hmail hbefore => ⟨fun hv => ?flowing,
      fun hv hclear => ?clear, fun hv p hp howed => ?owed⟩⟩
  case gate =>
    have htaken := execGateReport_taken hmail hbefore
    exact ⟨fun hp => htaken.trans
        (next_arbitrate_congr (State.takeGate_none hp)),
      fun p hp => htaken.trans
        (next_arbitrate_congr (State.takeGate_eq hp))⟩
  case flowing =>
    rw [execAppliedSetpointReport_taken hmail hbefore, if_neg (by omega)]
  case clear =>
    rw [execAppliedSetpointReport_taken hmail hbefore, if_pos hv]
    exact next_arbitrate_congr (State.clearCloseOwed_idle hclear)
  case owed =>
    rw [execAppliedSetpointReport_taken hmail hbefore, if_pos hv]
    exact next_arbitrate_congr (State.clearCloseOwed_owed hp howed)

end Sys2Proof.Machine
end

section
/-! POINT_ENABLE, POINT_DISABLE and LOCAL_ACK at Release Control (R97 to R99). -/

namespace Sys2Proof.Machine

/-- A request whose owning block leaves the port alone completes with the answer that block gives. -/
theorem completes_of_fixed {s t : State} {c : Instr} {a : Reply} {act : State → State × Reply}
    (he : exec c s = s.takeRequest c act) (hh : s.handed c = true) (hf : (act s).1.fixed = s.fixed)
    (ha : act s = (t, a)) : Completes c s t a := by
  rw [ha] at hf
  obtain ⟨-, -, hport, -⟩ := State.fixed_fields hf
  exact completes_of_handed he hh ha (congrArg Port.command hport)

theorem State.targetOf_of_point? {s : State} {n : Nat} {p : Point} (h : s.point? n = some p) :
    s.targetOf n = p.target := by
  simp [State.targetOf, h]

theorem State.modeOf_of_point? {s : State} {n : Nat} {p : Point} (h : s.point? n = some p) :
    s.modeOf n = p.mode := by
  simp [State.modeOf, h]

theorem Switch.ne_remote_iff (w : Switch) : w ≠ .remote ↔ w = .manual := by
  cases w <;> simp

section

variable {s : State} {n : Nat} {p : Point}

/-! ### POINT_ENABLE (R98) -/

theorem reqPointEnable_badParam (h : 1023 < n) : reqPointEnable n s = (s, refusal .badParam) := if_pos h

theorem reqPointEnable_noPoint (h : n ≤ 1023) (hp : s.point? n = none) :
    reqPointEnable n s = (s, refusal .noSuchPoint) := by
  unfold reqPointEnable
  rw [if_neg (show ¬1024 ≤ n by omega), hp]

theorem reqPointEnable_wrongState (h : n ≤ 1023) (hp : s.point? n = some p)
    (hw : p.mode ≠ .disabled ∨ p.switch = .manual ∨ p.latch = true) :
    reqPointEnable n s = (s, refusal .wrongState) := by
  unfold reqPointEnable
  rw [if_neg (show ¬1024 ≤ n by omega), hp]
  exact if_pos (by rwa [Switch.ne_remote_iff])

/-- A point as POINT_ENABLE finds it when it enters AUTO: its staged calibration active, close owed clear (R98). -/
def Point.enabling (p : Point) : Point :=
  match p.staged with
  | none => { p with closeOwed := false }
  | some k =>
    { p with
      closeOwed := false, active := k, staged := none
      meter := { p.meter with
        residual := 0, suspects := 0, state := if k.mantissa = 0 then .meterless else .rebase } }

theorem State.enablePoint_eq (s : State) (n : Nat) (p : Point) :
    s.enablePoint n p = (s.setPoint n p.enabling).changeMode n .auto := by
  have hpoint : { p.applyStaged with closeOwed := false } = p.enabling := by
    unfold Point.enabling Point.applyStaged Point.activate
    split
    · next hs => simp [hs]
    · next hs => simp [hs]
  rw [← hpoint]
  rfl

theorem reqPointEnable_done (h : n ≤ 1023) (hp : s.point? n = some p) (hm : p.mode = .disabled)
    (hw : p.switch = .remote) (hl : p.latch = false) {u : Point}
    (hu : ((s.setPoint n p.enabling).changeMode n .auto).point? n = some u) :
    reqPointEnable n s =
      (((s.setPoint n p.enabling).changeMode n .auto).arbitrate, answer .done (be16 u.target)) := by
  unfold reqPointEnable
  rw [if_neg (show ¬1024 ≤ n by omega), hp]
  dsimp only
  rw [if_neg (by simp [hm, hw, hl]), State.enablePoint_eq, State.targetOf_of_point? hu]

/-! ### POINT_DISABLE (R99) -/

theorem reqPointDisable_badParam {act : Nat} (h : 1023 < n ∨ 1 < act) :
    reqPointDisable n act s = (s, refusal .badParam) := if_pos h

theorem reqPointDisable_noPoint {act : Nat} (h : n ≤ 1023) (ha : act ≤ 1) (hp : s.point? n = none) :
    reqPointDisable n act s = (s, refusal .noSuchPoint) := by
  unfold reqPointDisable
  rw [if_neg (show ¬(1024 ≤ n ∨ 1 < act) by omega), hp]

/-- Either action, by the point that it leaves. -/
theorem reqPointDisable_done {act : Nat} (h : n ≤ 1023) (ha : act ≤ 1) (hp : s.point? n = some p) {t : State}
    (ht : (if act = 0 then s.closePoint n p else s.leavePoint n p) = t) {u : Point} (hu : t.point? n = some u)
    (hm : u.mode = .disabled) :
    reqPointDisable n act s = (t.arbitrate, answer .done (be8 0 ++ be16 u.target)) := by
  unfold reqPointDisable
  rw [if_neg (show ¬(1024 ≤ n ∨ 1 < act) by omega), hp]
  dsimp only
  rw [ht, State.targetOf_of_point? hu, State.modeOf_of_point? hu, hm]
  rfl

/-- A point as CLOSE records it, before its mode changes (R99). -/
def Point.closing (p : Point) : Point :=
  { p with
    target := 0
    closeOwed := p.closeOwed || decide (p.mode = .auto ∨ p.mode = .disabled ∧ p.switch = .remote) }

/-- The mode becomes DISABLED, when it is not so already. -/
def State.disabling (n : Nat) (p : Point) (s : State) : State :=
  if p.mode = .disabled then s else s.changeMode n .disabled

theorem State.leavePoint_eq (s : State) (n : Nat) (p : Point) : s.leavePoint n p = s.disabling n p := rfl

theorem State.closePoint_eq (s : State) (n : Nat) (p : Point) :
    s.closePoint n p =
      if p.mode = .auto ∨ p.mode = .disabled ∧ p.switch = .remote then
        ((s.setPoint n p.closing).disabling n p).resend n
      else (s.setPoint n p.closing).disabling n p := by
  unfold State.closePoint State.disabling Point.closing
  simp

/-- The point is DISABLED then and keeps its target. -/
theorem State.disabling_self {q : Point} (hq : s.point? n = some q) (hm : q.mode = p.mode) :
    ∃ u, (s.disabling n p).point? n = some u ∧ u.mode = .disabled ∧ u.target = q.target := by
  unfold State.disabling
  split
  · next hd => exact ⟨q, hq, hm.trans hd, rfl⟩
  · exact ⟨_, State.changeMode_leaves hq nofun, rfl, rfl⟩

theorem State.closePoint_self (s : State) (n : Nat) (p : Point) :
    ∃ u, (s.closePoint n p).point? n = some u ∧ u.mode = .disabled ∧ u.target = 0 := by
  obtain ⟨u, hu, hmode, htarget⟩ :=
    State.disabling_self (p := p) (State.setPoint_self s n p.closing) rfl
  rw [State.closePoint_eq]
  split
  · exact ⟨_, State.resend_self hu, hmode, htarget⟩
  · exact ⟨u, hu, hmode, htarget⟩

/-! ### LOCAL_ACK (R97) -/

theorem reqLocalAck_badParam (h : 1023 < n) : reqLocalAck n s = (s, refusal .badParam) := if_pos h

theorem reqLocalAck_noPoint (h : n ≤ 1023) (hp : s.point? n = none) :
    reqLocalAck n s = (s, refusal .noSuchPoint) := by
  unfold reqLocalAck
  rw [if_neg (show ¬1024 ≤ n by omega), hp]

theorem reqLocalAck_wrongState (h : n ≤ 1023) (hp : s.point? n = some p) (hw : p.switch = .manual) :
    reqLocalAck n s = (s, refusal .wrongState) := by
  unfold reqLocalAck
  rw [if_neg (show ¬1024 ≤ n by omega), hp]
  exact if_pos hw

theorem reqLocalAck_done (h : n ≤ 1023) (hp : s.point? n = some p) (hw : p.switch = .remote) :
    reqLocalAck n s = (s.setPoint n { p with latch := false }, answer .done (be8 p.mode.code)) := by
  unfold reqLocalAck
  rw [if_neg (show ¬1024 ≤ n by omega), hp]
  exact if_neg (by simp [hw])

/-! ### The requests -/

theorem completes_pointEnable {t : State} {a : Reply} (hh : s.handed (.pointEnable n) = true)
    (ha : reqPointEnable n s = (t, a)) : Completes (.pointEnable n) s t a :=
  completes_of_fixed rfl hh (reqPointEnable_fixed s n) ha

theorem completes_pointDisable {act : Nat} {t : State} {a : Reply} (hh : s.handed (.pointDisable n act) = true)
    (ha : reqPointDisable n act s = (t, a)) : Completes (.pointDisable n act) s t a :=
  completes_of_fixed rfl hh (reqPointDisable_fixed s n act) ha

theorem completes_localAck {t : State} {a : Reply} (hh : s.handed (.localAck n) = true)
    (ha : reqLocalAck n s = (t, a)) : Completes (.localAck n) s t a :=
  completes_of_fixed rfl hh (reqLocalAck_fixed s n) ha

end

/-- Settles O36: each request's checks in their order, then the change of mode on the point as the request records it;
the answer reads the point that the change of mode leaves. -/
theorem enableDisableAndAckActOnThePoint : Obligations.EnableDisableAndAckActOnThePoint := by
  refine ⟨fun s n => ⟨fun hh => ⟨fun h => ?enableParam, fun h hp => ?enableNone, fun h p hp =>
      ⟨fun hw => ?enableWrong, fun hm hw hl => ?enable⟩⟩,
    fun act hh => ⟨fun h => ?disableParam, fun h ha hp => ?disableNone, fun h p hp =>
      ⟨fun ha hm => ?left, fun ha hm => ?leave, fun ha => ?close⟩⟩⟩,
    fun s n hh => ⟨fun h => ?ackParam, fun h hp => ?ackNone, fun h p hp =>
      ⟨fun hw => ?ackWrong, fun hw => ?ack⟩⟩⟩
  case enableParam => exact completes_pointEnable hh (reqPointEnable_badParam h)
  case enableNone => exact completes_pointEnable hh (reqPointEnable_noPoint h hp)
  case enableWrong => exact completes_pointEnable hh (reqPointEnable_wrongState h hp hw)
  case enable =>
    obtain ⟨v, c, g, hu, -⟩ := State.changeMode_enters (State.setPoint_self s n p.enabling)
    exact ⟨_, hu, completes_pointEnable hh (reqPointEnable_done h hp hm hw hl hu)⟩
  case disableParam => exact completes_pointDisable hh (reqPointDisable_badParam h)
  case disableNone => exact completes_pointDisable hh (reqPointDisable_noPoint h ha hp)
  case left =>
    subst ha
    exact completes_pointDisable hh (reqPointDisable_done h le_rfl hp (if_pos hm) hp hm)
  case leave =>
    subst ha
    obtain ⟨u, hu, hmode, htarget⟩ := State.disabling_self (p := p) hp rfl
    have hdone := completes_pointDisable hh (reqPointDisable_done h le_rfl hp (s.leavePoint_eq n p) hu hmode)
    rw [htarget, State.disabling, if_neg hm] at hdone
    exact hdone
  case close =>
    subst ha
    obtain ⟨u, hu, hmode, htarget⟩ := s.closePoint_self n p
    have hdone := completes_pointDisable hh (reqPointDisable_done h (Nat.zero_le 1) hp (if_pos rfl) hu hmode)
    rw [htarget, State.closePoint_eq] at hdone
    exact hdone
  case ackParam => exact completes_localAck hh (reqLocalAck_badParam h)
  case ackNone => exact completes_localAck hh (reqLocalAck_noPoint h hp)
  case ackWrong => exact completes_localAck hh (reqLocalAck_wrongState h hp hw)
  case ack =>
    exact ⟨_, completes_localAck hh (reqLocalAck_done h hp hw), rfl, fun m => State.setPoint_point? s n m _⟩

end Sys2Proof.Machine
end

section
/-! FROST_CALL and FROST_END at Release Control: the turnouts in scope enter frost or leave it, then every frost extra
load is recomputed, then the line makes its choice (R101 to R103). -/

namespace Sys2Proof.Machine

/-! ### The line's choice leaves what R101 sums -/

theorem FrostAlike.beginSet {s : State} {n : Nat} {p : Point} (hr : risingKeys s.points = true)
    (hp : s.point? n = some p) : FrostAlike s (s.beginSet n p) := by
  have hset : FrostAlike s (s.setPoint n
      { p with field.inFlight := some p.target, field.sendPending := false, field.resendOwed := false }) :=
    .setPoint hr hp rfl rfl
  exact ⟨hset.rise, hset.terms⟩

theorem FrostAlike.arbitrate {s : State} (hr : risingKeys s.points = true) : FrostAlike s s.arbitrate := by
  have hpoll : FrostAlike s s.offerPoll := by
    rw [State.offerPoll_frame]
    exact ⟨hr, rfl⟩
  unfold State.arbitrate
  split
  · exact .refl hr
  · split
    · exact .refl hr
    · exact hpoll
    · split
      · next he => exact .beginSet hr (cell?_of_mem hr (List.mem_of_find?_eq_some he))
      · exact hpoll

theorem State.arbitrate_extraLoad (s : State) (r : Nat) : s.arbitrate.extraLoad r = s.extraLoad r := by
  rw [State.arbitrate_frame]
  rfl

/-! ### A walk over points, each changed in its turn -/

/-- A step of a walk over points: it writes points and what follows from them, and of the turnouts the one that it is
given. -/
structure OwnPoint (f : State → Nat × Point → State) : Prop where
  retold : ∀ s e, Retold s (f s e)
  rise : ∀ s e, risingKeys s.points = true → risingKeys (f s e).points = true
  other : ∀ s e m, m ≠ e.1 → (f s e).point? m = s.point? m

namespace OwnPoint

variable {f : State → Nat × Point → State}

theorem foldl_retold (hf : OwnPoint f) (l : List (Nat × Point)) (s : State) : Retold s (l.foldl f s) :=
  foldl_inv (Retold s) f (fun t e ht => ht.trans (hf.retold t e)) l s (.refl s)

theorem foldl_rise (hf : OwnPoint f) (l : List (Nat × Point)) {s : State} (hr : risingKeys s.points = true) :
    risingKeys (l.foldl f s).points = true :=
  foldl_inv (fun t : State => risingKeys t.points = true) f hf.rise l s hr

theorem foldl_other (hf : OwnPoint f) {l : List (Nat × Point)} {n : Nat} (hn : n ∉ l.map Prod.fst) (s : State) :
    (l.foldl f s).point? n = s.point? n := by
  induction l generalizing s with
  | nil => rfl
  | cons e l ih =>
    obtain ⟨hne, hl⟩ := not_or.1 (mt List.mem_cons.2 hn)
    rw [List.foldl_cons, ih hl, hf.other s e n hne]

/-- A point of the list is, after the walk, what its own step makes of it. -/
theorem foldl_self (hf : OwnPoint f) {l : List (Nat × Point)} (hl : (l.map Prod.fst).Nodup) {n : Nat} {p : Point}
    (hm : (n, p) ∈ l) {s : State} (hp : s.point? n = some p) {P : Option Point → Prop}
    (hstep : ∀ t : State, t.point? n = some p → P ((f t (n, p)).point? n)) : P ((l.foldl f s).point? n) := by
  induction l generalizing s with
  | nil => cases hm
  | cons e l ih =>
    obtain ⟨he, hl⟩ := List.nodup_cons.1 hl
    rw [List.foldl_cons]
    by_cases hne : n = e.1
    · have hnot : n ∉ l.map Prod.fst := by rwa [hne]
      have hhead : (n, p) = e :=
        (List.mem_cons.1 hm).resolve_right fun hin => hnot (List.mem_map_of_mem hin)
      rw [hf.foldl_other hnot, ← hhead]
      exact hstep s hp
    · have hin : (n, p) ∈ l := (List.mem_cons.1 hm).resolve_left fun heq => hne (congrArg Prod.fst heq)
      exact ih hl hin ((hf.other s e n hne).trans hp)

end OwnPoint

/-! ### A turnout enters frost, or leaves it -/

/-- The backup that a turnout takes into frost (R102). -/
def Point.frostBackup (p : Point) : Backup :=
  { order := p.scheduled.map Scheduled.handle, flow := p.scheduledFlow }

section

variable {s : State} {n : Nat} {p : Point}

theorem State.retarget_other (s : State) {n m : Nat} (h : m ≠ n) : (s.retarget n).point? m = s.point? m := by
  unfold State.retarget
  split
  · rfl
  · split
    · exact s.setTarget_other _ h
    · exact s.recheck_other h

theorem State.retarget_rising (n : Nat) (h : risingKeys s.points = true) :
    risingKeys (s.retarget n).points = true :=
  (FrostAlike.retargeted n .auto h).rise

theorem State.retarget_setPoint_self (s : State) (n : Nat) (hk : p.kind = .turnout) :
    ∃ g, ((s.setPoint n p).retarget n).point? n = some { p with target := p.turnoutTarget, field := g } := by
  rw [State.retarget_setPoint hk]
  exact State.setTarget_self _ (State.setPoint_self s n p)

theorem State.enterFrost_eq (hp : s.point? n = some p) :
    s.enterFrost (n, p) = (s.setPoint n { p with backup := some p.frostBackup }).retarget n :=
  congrArg (fun t : State => t.retarget n) (State.changePoint_eq _ hp)

/-- A turnout enters frost: its backup, and a target of at least its frost rate (R102). -/
theorem State.enterFrost_self (hp : s.point? n = some p) (hk : p.kind = .turnout) :
    ∃ g, (s.enterFrost (n, p)).point? n = some { p with
      backup := some p.frostBackup, target := max p.scheduledFlow p.frostRate, field := g } := by
  rw [State.enterFrost_eq hp]
  exact State.retarget_setPoint_self (p := { p with backup := some p.frostBackup }) s n hk

/-- A turnout leaves frost: without a backup, and in AUTO with the flow of its scheduled order (R103). -/
theorem State.leaveFrost_self (hp : s.point? n = some p) (hk : p.kind = .turnout) :
    ∃ g, (s.leaveFrost (n, p)).point? n = some { p with
      backup := none, target := if p.mode = .auto then p.scheduledFlow else p.target, field := g } := by
  unfold State.leaveFrost
  rw [State.changePoint_eq _ hp]
  dsimp only
  split
  · exact State.retarget_setPoint_self (p := { p with backup := none }) s n hk
  · exact ⟨p.field, State.setPoint_self s n _⟩

end

theorem OwnPoint.enterFrost : OwnPoint State.enterFrost where
  retold s e := (Retold.changePoint s e.1 _).trans (.retarget _ e.1)
  rise s e hr := State.retarget_rising e.1 (State.changePoint_rising e.1 _ hr)
  other s e m hm := by
    refine (State.retarget_other _ hm).trans ?_
    rw [State.changePoint_point?, if_neg hm]

theorem OwnPoint.leaveFrost : OwnPoint State.leaveFrost where
  retold s e := .ite (.trans (.changePoint s e.1 _) (.retarget _ e.1)) (.changePoint s e.1 _)
  rise s e hr := by
    have hset := State.changePoint_rising e.1 (fun p => { p with backup := none }) hr
    unfold State.leaveFrost
    dsimp only
    split
    · exact State.retarget_rising e.1 hset
    · exact hset
  other s e m hm := by
    have hset : (s.changePoint e.1 fun p => { p with backup := none }).point? m = s.point? m := by
      rw [State.changePoint_point?, if_neg hm]
    unfold State.leaveFrost
    dsimp only
    split
    · exact (State.retarget_other _ hm).trans hset
    · exact hset

/-! ### The walk, the loads, the line -/

/-- What FROST_CALL and FROST_END make of a state: the walk over some turnouts, every configured reach's frost extra
load, the line's choice. -/
def State.frostMoved (f : State → Nat × Point → State) (l : List (Nat × Point)) (s : State) : State :=
  ((l.foldl f s).refreshFrost s.configured).arbitrate

section

variable {f : State → Nat × Point → State} {s : State}

theorem State.frostMoved_frame (hf : OwnPoint f) (l : List (Nat × Point)) (s : State) :
    s.frostMoved f l = { s with
      points := (s.frostMoved f l).points, frostLoad := (s.frostMoved f l).frostLoad
      line := (s.frostMoved f l).line, mail.reports := (s.frostMoved f l).mail.reports } := by
  have hwalk : Retold s ((l.foldl f s).refreshFrost s.configured) :=
    (hf.foldl_retold l s).trans (.refreshFrost _ _)
  unfold State.frostMoved
  rw [State.arbitrate_frame, hwalk]

theorem State.frostMoved_extraLoad (hf : OwnPoint f) (l : List (Nat × Point)) (hr : risingKeys s.points = true)
    {j : Nat} (hj : s.reach? j ≠ none) : (s.frostMoved f l).extraLoad j = (s.frostMoved f l).frostSum j := by
  have hwalk := hf.foldl_rise l hr
  have hloads := FrostAlike.refreshFrost s.configured hwalk
  unfold State.frostMoved
  rw [State.arbitrate_extraLoad, (FrostAlike.arbitrate hloads.rise).frostSum (by rw [State.arbitrate_frame])]
  exact State.refreshFrost_extraLoad hwalk (State.mem_configured hj)

/-- A turnout is as the walk leaves it, but for its field side. -/
theorem State.frostMoved_turnout (hf : OwnPoint f) {l : List (Nat × Point)} (hr : risingKeys s.points = true)
    {n : Nat} {q : Point} (hq : (l.foldl f s).point? n = some q) (hk : q.kind = .turnout) :
    ∃ g, (s.frostMoved f l).point? n = some { q with field := g } := by
  have hloads := FrostAlike.refreshFrost s.configured (hf.foldl_rise l hr)
  exact State.arbitrate_point? hloads.rise (State.refreshFrost_turnout hq hk)

end

end Sys2Proof.Machine
end

section
/-! FROST_CALL and FROST_END as requests: their checks, the turnouts they count, and what they leave (R102, R103). -/

namespace Sys2Proof.Machine

/-! ### The turnouts in scope -/

/-- A point is a turnout of the scope: the whole district, or the subtree of reach r (R102). -/
def State.inFrostScope (scope r : Nat) (s : State) (p : Point) : Prop :=
  p.kind = .turnout ∧ (scope = 0 ∨ r ∈ pathOf s.cal.reaches p.reach)

/-- A turnout of the scope that FROST_CALL enters into frost. -/
def State.entersFrost (scope r : Nat) (s : State) (p : Point) : Prop :=
  s.inFrostScope scope r p ∧ 0 < p.frostRate ∧ p.mode = .auto ∧ p.backup = none

/-- A turnout of the scope with a frost rate that FROST_CALL leaves as it is. -/
def State.skipsFrost (scope r : Nat) (s : State) (p : Point) : Prop :=
  s.inFrostScope scope r p ∧ 0 < p.frostRate ∧ ¬(p.mode = .auto ∧ p.backup = none)

/-- A turnout of the scope that FROST_END takes out of frost. -/
def State.leavesFrost (scope r : Nat) (s : State) (p : Point) : Prop :=
  s.inFrostScope scope r p ∧ p.backup.isSome = true

/-- The turnouts of the scope with a frost rate (R102). -/
def State.frostRegistered (scope r : Nat) (s : State) : List (Nat × Point) :=
  (s.frostScope scope r).filter (fun e => decide (0 < e.2.frostRate))
/-- Those that enter frost. -/
def State.frostEntering (scope r : Nat) (s : State) : List (Nat × Point) :=
  (s.frostRegistered scope r).filter (fun e => e.2.eligible)
/-- Those that do not. -/
def State.frostSkipped (scope r : Nat) (s : State) : List (Nat × Point) :=
  (s.frostRegistered scope r).filter (fun e => !e.2.eligible)
/-- The turnouts of the scope in frost (R103). -/
def State.frostLeaving (scope r : Nat) (s : State) : List (Nat × Point) :=
  (s.frostScope scope r).filter (fun e => e.2.backup.isSome)

theorem Point.eligible_iff (p : Point) : p.eligible = true ↔ p.mode = .auto ∧ p.backup = none := by
  simp [Point.eligible]

section

variable {s : State} {scope r n : Nat} {p : Point}

theorem State.mem_points_iff (hr : risingKeys s.points = true) : (n, p) ∈ s.points ↔ s.point? n = some p :=
  ⟨cell?_of_mem hr, mem_of_cell?⟩

theorem State.mem_frostScope (hr : risingKeys s.points = true) :
    (n, p) ∈ s.frostScope scope r ↔ s.point? n = some p ∧ s.inFrostScope scope r p := by
  simp [State.frostScope, State.inFrostScope, inSubtree, State.mem_points_iff hr]

theorem State.mem_frostEntering (hr : risingKeys s.points = true) :
    (n, p) ∈ s.frostEntering scope r ↔ s.point? n = some p ∧ s.entersFrost scope r p := by
  simp only [State.frostEntering, State.frostRegistered, State.entersFrost, List.mem_filter, State.mem_frostScope hr,
    decide_eq_true_eq, Point.eligible_iff, and_assoc]

theorem State.mem_frostSkipped (hr : risingKeys s.points = true) :
    (n, p) ∈ s.frostSkipped scope r ↔ s.point? n = some p ∧ s.skipsFrost scope r p := by
  simp only [State.frostSkipped, State.frostRegistered, State.skipsFrost, List.mem_filter, State.mem_frostScope hr,
    decide_eq_true_eq, ← Point.eligible_iff, Bool.not_eq_true', Bool.not_eq_true, and_assoc]

theorem State.mem_frostLeaving (hr : risingKeys s.points = true) :
    (n, p) ∈ s.frostLeaving scope r ↔ s.point? n = some p ∧ s.leavesFrost scope r p := by
  simp [State.frostLeaving, State.leavesFrost, State.mem_frostScope hr, and_assoc]

theorem State.frostEntering_sublist (scope r : Nat) (s : State) : (s.frostEntering scope r).Sublist s.points :=
  (List.filter_sublist.trans List.filter_sublist).trans List.filter_sublist

theorem State.frostSkipped_sublist (scope r : Nat) (s : State) : (s.frostSkipped scope r).Sublist s.points :=
  (List.filter_sublist.trans List.filter_sublist).trans List.filter_sublist

theorem State.frostLeaving_sublist (scope r : Nat) (s : State) : (s.frostLeaving scope r).Sublist s.points :=
  List.filter_sublist.trans List.filter_sublist

/-- Every turnout with a frost rate enters or is skipped. -/
theorem State.frostRegistered_length (scope r : Nat) (s : State) :
    (s.frostRegistered scope r).length - (s.frostEntering scope r).length = (s.frostSkipped scope r).length := by
  have hsplit := List.length_eq_length_filter_add (l := s.frostRegistered scope r) (fun e => e.2.eligible)
  change _ = (s.frostEntering scope r).length + (s.frostSkipped scope r).length at hsplit
  omega

/-- The numbers of some of the points stand once. -/
theorem State.numbers_nodup {l : List (Nat × Point)} (hr : risingKeys s.points = true) (hl : l.Sublist s.points) :
    (l.map Prod.fst).Nodup :=
  (nodup_numbers hr).sublist (hl.map _)

/-- A list of just the points that pass a test counts them. -/
theorem State.count_of_mem {l : List (Nat × Point)} {test : Point → Prop} (hr : risingKeys s.points = true)
    (hl : l.Sublist s.points) (hm : ∀ n p, (n, p) ∈ l ↔ s.point? n = some p ∧ test p) :
    ∃ ns : List Nat, ns.Nodup ∧ ns.length = l.length ∧ ∀ n, n ∈ ns ↔ ∃ p, s.point? n = some p ∧ test p := by
  refine ⟨l.map Prod.fst, State.numbers_nodup hr hl, List.length_map _, fun n => ?_⟩
  simp [← hm]

/-! ### What the walks leave -/

/-- The number of a point that fails the test is not among those of the list. -/
theorem State.not_mem_numbers {l : List (Nat × Point)} {test : Point → Prop}
    (hm : ∀ n p, (n, p) ∈ l ↔ s.point? n = some p ∧ test p) (hp : s.point? n = some p) (ht : ¬test p) :
    n ∉ l.map Prod.fst := by
  intro hn
  obtain ⟨⟨_, q⟩, hq, rfl⟩ := List.mem_map.1 hn
  obtain ⟨hpoint, htest⟩ := (hm _ q).1 hq
  cases hp.symm.trans hpoint
  exact ht htest

theorem State.frostCalled_entered (hr : risingKeys s.points = true) (hp : s.point? n = some p)
    (he : s.entersFrost scope r p) :
    ∃ g, (s.frostMoved State.enterFrost (s.frostEntering scope r)).point? n = some { p with
      backup := some p.frostBackup, target := max p.scheduledFlow p.frostRate, field := g } := by
  obtain ⟨⟨hk, -⟩, -⟩ := id he
  obtain ⟨g, hg⟩ := OwnPoint.enterFrost.foldl_self
    (P := fun o => ∃ g, o = some { p with
      backup := some p.frostBackup, target := max p.scheduledFlow p.frostRate, field := g })
    (State.numbers_nodup hr (s.frostEntering_sublist scope r)) ((State.mem_frostEntering hr).2 ⟨hp, he⟩) hp
    fun t ht => State.enterFrost_self ht hk
  exact State.frostMoved_turnout .enterFrost hr hg hk

theorem State.frostCalled_left (hr : risingKeys s.points = true) (hp : s.point? n = some p)
    (hk : p.kind = .turnout) (he : ¬s.entersFrost scope r p) :
    ∃ g, (s.frostMoved State.enterFrost (s.frostEntering scope r)).point? n = some { p with field := g } := by
  have hnot := State.not_mem_numbers (fun _ _ => State.mem_frostEntering hr) hp he
  exact State.frostMoved_turnout .enterFrost hr ((OwnPoint.enterFrost.foldl_other hnot s).trans hp) hk

theorem State.frostEnded_freed (hr : risingKeys s.points = true) (hp : s.point? n = some p)
    (he : s.leavesFrost scope r p) :
    ∃ g, (s.frostMoved State.leaveFrost (s.frostLeaving scope r)).point? n = some { p with
      backup := none, target := if p.mode = .auto then p.scheduledFlow else p.target, field := g } := by
  obtain ⟨⟨hk, -⟩, -⟩ := id he
  obtain ⟨g, hg⟩ := OwnPoint.leaveFrost.foldl_self
    (P := fun o => ∃ g, o = some { p with
      backup := none, target := if p.mode = .auto then p.scheduledFlow else p.target, field := g })
    (State.numbers_nodup hr (s.frostLeaving_sublist scope r)) ((State.mem_frostLeaving hr).2 ⟨hp, he⟩) hp
    fun t ht => State.leaveFrost_self ht hk
  exact State.frostMoved_turnout .leaveFrost hr hg hk

theorem State.frostEnded_kept (hr : risingKeys s.points = true) (hp : s.point? n = some p)
    (hk : p.kind = .turnout) (he : ¬s.leavesFrost scope r p) :
    ∃ g, (s.frostMoved State.leaveFrost (s.frostLeaving scope r)).point? n = some { p with field := g } := by
  have hnot := State.not_mem_numbers (fun _ _ => State.mem_frostLeaving hr) hp he
  exact State.frostMoved_turnout .leaveFrost hr ((OwnPoint.leaveFrost.foldl_other hnot s).trans hp) hk

/-! ### The requests -/

theorem badFrostScope_iff (scope r : Nat) : badFrostScope scope r = true ↔ 1 < scope ∨ scope = 1 ∧ 31 < r := by
  simp [badFrostScope, Config.reaches, Nat.lt_iff_add_one_le]

theorem State.frostReach_known (hs : scope = 1 → s.reach? r ≠ none) : ¬(scope = 1 ∧ (s.reach? r).isNone = true) := by
  rintro ⟨hone, hnone⟩
  exact hs hone (Option.isNone_iff_eq_none.1 hnone)

theorem reqFrostCall_badParam (h : 1 < scope ∨ scope = 1 ∧ 31 < r) :
    reqFrostCall scope r s = (s, refusal .badParam) :=
  if_pos ((badFrostScope_iff scope r).2 h)

theorem reqFrostCall_noReach (h : ¬(1 < scope ∨ scope = 1 ∧ 31 < r)) (hs : scope = 1) (hn : s.reach? r = none) :
    reqFrostCall scope r s = (s, refusal .noSuchReach) :=
  (if_neg (mt (badFrostScope_iff scope r).1 h)).trans (if_pos ⟨hs, by rw [hn]; rfl⟩)

theorem reqFrostCall_done (h : ¬(1 < scope ∨ scope = 1 ∧ 31 < r)) (hs : scope = 1 → s.reach? r ≠ none) :
    reqFrostCall scope r s =
      (s.frostMoved State.enterFrost (s.frostEntering scope r),
        answer .done (be16 (s.frostEntering scope r).length ++ be16 (s.frostSkipped scope r).length)) := by
  rw [← State.frostRegistered_length]
  exact (if_neg (mt (badFrostScope_iff scope r).1 h)).trans (if_neg (State.frostReach_known hs))

theorem reqFrostEnd_badParam (h : 1 < scope ∨ scope = 1 ∧ 31 < r) :
    reqFrostEnd scope r s = (s, refusal .badParam) :=
  if_pos ((badFrostScope_iff scope r).2 h)

theorem reqFrostEnd_noReach (h : ¬(1 < scope ∨ scope = 1 ∧ 31 < r)) (hs : scope = 1) (hn : s.reach? r = none) :
    reqFrostEnd scope r s = (s, refusal .noSuchReach) :=
  (if_neg (mt (badFrostScope_iff scope r).1 h)).trans (if_pos ⟨hs, by rw [hn]; rfl⟩)

theorem reqFrostEnd_done (h : ¬(1 < scope ∨ scope = 1 ∧ 31 < r)) (hs : scope = 1 → s.reach? r ≠ none) :
    reqFrostEnd scope r s =
      (s.frostMoved State.leaveFrost (s.frostLeaving scope r),
        answer .done (be16 (s.frostLeaving scope r).length)) := by
  exact (if_neg (mt (badFrostScope_iff scope r).1 h)).trans (if_neg (State.frostReach_known hs))

theorem completes_frostCall {t : State} {a : Reply} (hh : s.handed (.frostCall scope r) = true)
    (ha : reqFrostCall scope r s = (t, a)) : Completes (.frostCall scope r) s t a :=
  completes_of_fixed rfl hh (reqFrostCall_fixed s scope r) ha

theorem completes_frostEnd {t : State} {a : Reply} (hh : s.handed (.frostEnd scope r) = true)
    (ha : reqFrostEnd scope r s = (t, a)) : Completes (.frostEnd scope r) s t a :=
  completes_of_fixed rfl hh (reqFrostEnd_fixed s scope r) ha

end

/-- Settles O38: the points rise, so a list of turnouts counts them and the walk meets each once, as it stood before;
the loads and the line that follow leave a turnout all but its field side. -/
theorem frostCallAndEndMoveTheTurnouts : Obligations.FrostCallAndEndMoveTheTurnouts := by
  refine fun s scope r hr =>
    ⟨fun hh => ⟨fun h => ?callParam, fun h hs hn => ?callNone, fun h hs => ?call⟩,
      fun hh => ⟨fun h => ?endParam, fun h hs hn => ?endNone, fun h hs => ?ends⟩⟩
  case callParam => exact completes_frostCall hh (reqFrostCall_badParam h)
  case callNone => exact completes_frostCall hh (reqFrostCall_noReach h hs hn)
  case call =>
    refine ⟨_, _, _, completes_frostCall hh (reqFrostCall_done h hs),
      ⟨fun j => State.frostMoved_extraLoad .enterFrost _ hr, State.frostMoved_frame .enterFrost _ s⟩,
      State.count_of_mem hr (s.frostEntering_sublist scope r) fun n p => State.mem_frostEntering hr,
      State.count_of_mem hr (s.frostSkipped_sublist scope r) fun n p => State.mem_frostSkipped hr,
      fun n p hp hk => ?_⟩
    by_cases he : s.entersFrost scope r p
    · obtain ⟨g, hg⟩ := State.frostCalled_entered hr hp he
      exact ⟨_, hg, fun _ => ⟨rfl, rfl⟩, fun hn => absurd he hn⟩
    · obtain ⟨g, hg⟩ := State.frostCalled_left hr hp hk he
      exact ⟨_, hg, fun hn => absurd hn he, fun _ => ⟨rfl, rfl⟩⟩
  case endParam => exact completes_frostEnd hh (reqFrostEnd_badParam h)
  case endNone => exact completes_frostEnd hh (reqFrostEnd_noReach h hs hn)
  case ends =>
    refine ⟨_, _, completes_frostEnd hh (reqFrostEnd_done h hs),
      ⟨fun j => State.frostMoved_extraLoad .leaveFrost _ hr, State.frostMoved_frame .leaveFrost _ s⟩,
      State.count_of_mem hr (s.frostLeaving_sublist scope r) fun n p => State.mem_frostLeaving hr,
      fun n p hp hk => ?_⟩
    by_cases he : s.leavesFrost scope r p
    · obtain ⟨g, hg⟩ := State.frostEnded_freed hr hp he
      exact ⟨_, hg, fun _ => ⟨rfl, fun hm => if_pos hm, fun hm => if_neg hm⟩, fun hn => absurd he hn⟩
    · obtain ⟨g, hg⟩ := State.frostEnded_kept hr hp hk he
      exact ⟨_, hg, fun hn => absurd hn he, fun _ => ⟨rfl, rfl⟩⟩

end Sys2Proof.Machine
end

section
/-! The field mode: FIELD_START, FIELD_STOP, RESUME and hold requests, and what they do to the transaction in flight
(R110, R111, R118). -/

namespace Sys2Proof.Machine

variable {s : State} {t : Transaction}

/-! ### The transaction in flight (R118) -/

theorem State.cutShort_idle (h : s.line.transaction = none) : s.cutShort = s := by
  unfold State.cutShort
  rw [h]

theorem State.cutShort_set {n v : Nat} {x : Bool} (h : s.line.transaction = some t) (hj : t.job = .set n v x) :
    s.cutShort = { s with line.transaction := some { t with lastAttempt := true } } := by
  unfold State.cutShort
  simp only [h, hj]

theorem State.cutShort_poll {a : Nat} (h : s.line.transaction = some t) (hj : t.job = .poll a) : s.cutShort = s := by
  unfold State.cutShort
  simp only [h, hj]

theorem State.abandonPoll_idle (h : s.line.transaction = none) : s.abandonPoll = s := by
  unfold State.abandonPoll
  rw [h]

theorem State.abandonPoll_set {n v : Nat} {x : Bool} (h : s.line.transaction = some t) (hj : t.job = .set n v x) :
    s.abandonPoll = s := by
  unfold State.abandonPoll
  simp only [h, hj]

theorem State.abandonPoll_poll {a : Nat} (h : s.line.transaction = some t) (hj : t.job = .poll a) :
    s.abandonPoll = s.lineIdle.setStation a { s.station a with due := true } := by
  unfold State.abandonPoll
  simp only [h, hj]

/-- A SET that is cut short is not abandoned. -/
theorem State.abandonPoll_cutShort_set {n v : Nat} {x : Bool} (h : s.line.transaction = some t)
    (hj : t.job = .set n v x) : s.cutShort.abandonPoll = s.cutShort := by
  rw [State.cutShort_set h hj]
  exact State.abandonPoll_set (t := { t with lastAttempt := true }) rfl hj

/-! ### The requests (R110, R111) -/

theorem reqFieldStart_started (h : s.line.mode ≠ .stopped) : reqFieldStart s = (s, refusal .wrongState) := by
  unfold reqFieldStart
  cases hm : s.line.mode with
  | stopped => exact absurd hm h
  | run | hold => rfl

theorem reqFieldStart_stopped (h : s.line.mode = .stopped) :
    reqFieldStart s =
      (let m : FieldMode := if s.faults.stop.first.isSome then .hold else .run
       ((s.setMode m).arbitrate, answer .done (be8 m.code))) := by
  unfold reqFieldStart
  rw [h]

theorem reqFieldStop_stopped (h : s.line.mode = .stopped) :
    reqFieldStop s = (s, answer .done (be8 0 ++ yesNo s.line.transaction.isSome)) := by
  unfold reqFieldStop
  rw [h]
  rfl

theorem reqFieldStop_started (h : s.line.mode ≠ .stopped) :
    reqFieldStop s =
      ((s.setMode .stopped).cutShort.abandonPoll, answer .done (be8 0 ++ yesNo s.line.transaction.isSome)) := by
  unfold reqFieldStop
  cases hm : s.line.mode with
  | stopped => exact absurd hm h
  | run | hold => rfl

theorem reqResume_refused (h : s.line.mode ≠ .hold ∨ s.faults.stop.first.isSome = true) :
    reqResume s = (s, refusal .wrongState) := by
  unfold reqResume
  cases hm : s.line.mode with
  | hold => exact if_pos (h.resolve_left fun hn => hn hm)
  | run | stopped => rfl

theorem reqResume_held (h : s.line.mode = .hold) (hf : ¬s.faults.stop.first.isSome = true) :
    reqResume s = ((s.setMode .run).arbitrate, doneReply) := by
  unfold reqResume
  rw [h]
  exact if_neg hf

/-! ### Hold requests (R111) -/

theorem State.holdLine_idle (h : s.line.mode ≠ .run) : s.holdLine = s := by
  unfold State.holdLine
  cases hm : s.line.mode with
  | run => exact absurd hm h
  | hold | stopped => rfl

theorem State.holdLine_running (h : s.line.mode = .run) : s.holdLine = (s.setMode .hold).cutShort.arbitrate := by
  unfold State.holdLine
  rw [h]

theorem execHoldRequest_none (h : s.mail.holds = 0) : exec .holdRequest s = .next s := by
  change Machine.execHoldRequest s = _
  unfold Machine.execHoldRequest
  rw [h]

theorem execHoldRequest_taken {k : Nat} (h : s.mail.holds = k + 1) :
    exec .holdRequest s = .next ({ s with mail.holds := k } : State).holdLine := by
  change Machine.execHoldRequest s = _
  unfold Machine.execHoldRequest
  rw [h]

/-- Settles O39: each command in each mode, and what R118 makes of the transaction in flight: a SET is cut short, a POLL
abandoned. -/
theorem fieldModeFollowsItsCommands : Obligations.FieldModeFollowsItsCommands := by
  refine fun s => ⟨fun hh => ⟨fun hm => ?started, fun hm hf => ?startHeld, fun hm hf => ?start⟩,
    fun hh => ⟨fun hm => ?stopStopped, fun hm ht => ?stopIdle,
      fun hm t ht => ⟨fun n v x hj => ?stopSet, fun a hj => ?stopPoll⟩⟩,
    fun hh => ⟨fun h => ?resumeRefused, fun hm hf => ?resume⟩, execHoldRequest_none,
    fun k hk => ⟨fun hm => ?holdIgnored, fun hm => ?hold⟩⟩
  case started => exact refuses_of_handed rfl hh (reqFieldStart_started hm)
  case startHeld =>
    exact completes_of_fixed rfl hh (reqFieldStart_fixed s) (by rw [reqFieldStart_stopped hm, if_pos hf]; rfl)
  case start =>
    exact completes_of_fixed rfl hh (reqFieldStart_fixed s) (by rw [reqFieldStart_stopped hm, if_neg hf]; rfl)
  case stopStopped => exact completes_unchanged rfl hh (reqFieldStop_stopped hm)
  case stopIdle =>
    refine completes_of_fixed rfl hh (reqFieldStop_fixed s) ((reqFieldStop_started hm).trans ?_)
    rw [State.cutShort_idle (s := s.setMode .stopped) ht, State.abandonPoll_idle (s := s.setMode .stopped) ht]
    rfl
  case stopSet =>
    refine completes_of_fixed rfl hh (reqFieldStop_fixed s) ((reqFieldStop_started hm).trans ?_)
    rw [State.abandonPoll_cutShort_set (s := s.setMode .stopped) ht hj]
    rfl
  case stopPoll =>
    refine completes_of_fixed rfl hh (reqFieldStop_fixed s) ((reqFieldStop_started hm).trans ?_)
    rw [State.cutShort_poll (s := s.setMode .stopped) ht hj, State.abandonPoll_poll (s := s.setMode .stopped) ht hj]
    rfl
  case resumeRefused => exact refuses_of_handed rfl hh (reqResume_refused h)
  case resume => exact completes_of_fixed rfl hh (reqResume_fixed s) (reqResume_held hm hf)
  case holdIgnored =>
    exact (execHoldRequest_taken hk).trans
      (congrArg Host.Outcome.next (State.holdLine_idle (s := { s with mail.holds := k }) hm))
  case hold =>
    exact (execHoldRequest_taken hk).trans
      (congrArg Host.Outcome.next (State.holdLine_running (s := { s with mail.holds := k }) hm))

end Sys2Proof.Machine
end

section
/-! The choice of the line: the lowest-numbered point that is ready, the first due station after the rotation position,
and the bits of the frame that is sent (R114, R116, R117, R119). -/

namespace Sys2Proof.Machine

/-! ### The lowest-numbered entry of a table that passes a test -/

section

variable {α : Type} {t : Table α} {q : Nat × α → Bool}

theorem find?_lowest (hr : risingKeys t = true) {k : Nat} {v : α} (hk : cell? t k = some v) (hq : q (k, v) = true)
    (hlow : ∀ j w, cell? t j = some w → j < k → ¬q (j, w) = true) : t.find? q = some (k, v) := by
  obtain ⟨⟨j, w⟩, hfound⟩ := Option.isSome_iff_exists.1 (List.find?_isSome.2 ⟨(k, v), mem_of_cell? hk, hq⟩)
  have hj : cell? t j = some w := cell?_of_mem hr (List.mem_of_find?_eq_some hfound)
  have hsorted : t.Pairwise fun a b => a.1 ≤ b.1 := ((risingKeys_iff t).1 hr).imp le_of_lt
  have hle : j ≤ k := find?_least (x := (j, w)) (le_refl j) hsorted hfound (mem_of_cell? hk) hq
  rcases hle.lt_or_eq with hlt | rfl
  · exact absurd (List.find?_some hfound) (hlow j w hj hlt)
  · cases hj.symm.trans hk
    exact hfound

theorem find?_none_of_cell? (hr : risingKeys t = true) (h : ∀ k v, cell? t k = some v → ¬q (k, v) = true) :
    t.find? q = none :=
  List.find?_eq_none.2 fun e he => h e.1 e.2 (cell?_of_mem hr he)

end

variable {s : State}

/-! ### Which SET (R114, R116) -/

/-- The point has send pending set and its station is polled and RESPONDING. -/
def State.setReady (s : State) (n : Nat) : Prop :=
  ∃ p, s.point? n = some p ∧ p.field.sendPending = true ∧
    (s.station (n / 8)).polled = true ∧ (s.station (n / 8)).state = .responding

/-- The test that nextSet makes of a point. -/
def State.offersSet (s : State) (e : Nat × Point) : Bool :=
  e.2.field.sendPending && (s.station (stationOf e.1)).polled &&
    decide ((s.station (stationOf e.1)).state = .responding)

theorem State.nextSet_eq (s : State) : s.nextSet = s.points.find? s.offersSet := rfl

theorem State.offersSet_iff {n : Nat} {p : Point} (h : s.point? n = some p) :
    s.offersSet (n, p) = true ↔ s.setReady n := by
  unfold State.offersSet State.setReady stationOf
  simp [h, and_assoc]

theorem State.nextSet_ready (hr : risingKeys s.points = true) {n : Nat} {p : Point} (hp : s.point? n = some p)
    (hn : s.setReady n) (hlow : ∀ m, m < n → ¬s.setReady m) : s.nextSet = some (n, p) := by
  rw [State.nextSet_eq]
  exact find?_lowest hr hp ((State.offersSet_iff hp).2 hn) fun m q hq hm => mt (State.offersSet_iff hq).1 (hlow m hm)

theorem State.nextSet_none (hr : risingKeys s.points = true) (h : ∀ n, ¬s.setReady n) : s.nextSet = none := by
  rw [State.nextSet_eq]
  exact find?_none_of_cell? hr fun n p hp => mt (State.offersSet_iff hp).1 (h n)

/-! ### Which POLL (R108, R116) -/

/-- The station is due, and polled. -/
def State.pollDue (s : State) (a : Nat) : Prop := (s.station a).due = true ∧ (s.station a).polled = true

/-- The test that nextPoll makes of a station. -/
def Station.offersPoll (e : Nat × Station) : Bool := e.2.due && e.2.polled

theorem State.nextPoll_eq (s : State) :
    s.nextPoll =
      ((s.line.stations.find? fun e => Station.offersPoll e && decide (s.line.rotation < e.1)).or
        (s.line.stations.find? Station.offersPoll)).map Prod.fst := by
  have hafter : s.line.stations.find? (fun e => Station.offersPoll e && decide (s.line.rotation < e.1)) =
      (s.line.stations.filter Station.offersPoll).find? fun e => decide (s.line.rotation < e.1) := by
    simp [List.find?_filter]
  rw [hafter, ← List.head?_filter (p := Station.offersPoll)]
  change (match (s.line.stations.filter Station.offersPoll).find? fun e => decide (s.line.rotation < e.1) with
    | some e => some e.1
    | none => (s.line.stations.filter Station.offersPoll).head?.map Prod.fst) = _
  cases (s.line.stations.filter Station.offersPoll).find? fun e => decide (s.line.rotation < e.1) <;> rfl

theorem State.offersPoll_iff {a : Nat} {v : Station} (h : cell? s.line.stations a = some v) :
    Station.offersPoll (a, v) = true ↔ s.pollDue a := by
  unfold Station.offersPoll State.pollDue State.station valueAt
  simp [h]

/-- A station that is due has left its power-on value, so the table lists it. -/
theorem State.listed_of_pollDue {a : Nat} (h : s.pollDue a) : ∃ v, cell? s.line.stations a = some v := by
  obtain ⟨-, hpolled⟩ := h
  refine Option.ne_none_iff_exists'.1 fun hn => ?_
  simp [State.station, valueAt, hn, Station.powerOn] at hpolled

theorem State.nextPoll_after (hr : risingKeys s.line.stations = true) {a : Nat} (ha : s.pollDue a)
    (hrot : s.line.rotation < a) (hlow : ∀ b, s.line.rotation < b → b < a → ¬s.pollDue b) : s.nextPoll = some a := by
  obtain ⟨v, hv⟩ := State.listed_of_pollDue ha
  have hfirst := find?_lowest (q := fun e => Station.offersPoll e && decide (s.line.rotation < e.1)) hr hv
    (by simp [(State.offersPoll_iff hv).2 ha, hrot]) fun b w hw hb => by
      simp only [Bool.and_eq_true, decide_eq_true_eq, State.offersPoll_iff hw]
      exact fun h => hlow b h.2 hb h.1
  rw [State.nextPoll_eq, hfirst]
  rfl

theorem State.nextPoll_wrapped (hr : risingKeys s.line.stations = true) {a : Nat} (ha : s.pollDue a)
    (hrot : ∀ b, s.line.rotation < b → ¬s.pollDue b) (hlow : ∀ b, b < a → ¬s.pollDue b) : s.nextPoll = some a := by
  obtain ⟨v, hv⟩ := State.listed_of_pollDue ha
  have hnone := find?_none_of_cell? (q := fun e => Station.offersPoll e && decide (s.line.rotation < e.1)) hr
    fun b w hw => by
      simp only [Bool.and_eq_true, decide_eq_true_eq, State.offersPoll_iff hw]
      exact fun h => hrot b h.2 h.1
  have hfirst := find?_lowest hr hv ((State.offersPoll_iff hv).2 ha) fun b w hw hb =>
    mt (State.offersPoll_iff hw).1 (hlow b hb)
  rw [State.nextPoll_eq, hnone, hfirst]
  rfl

theorem State.nextPoll_none (hr : risingKeys s.line.stations = true) (h : ∀ a, ¬s.pollDue a) : s.nextPoll = none := by
  have hnone := find?_none_of_cell? hr fun a v hv => mt (State.offersPoll_iff hv).1 (h a)
  have hafter := find?_none_of_cell? (q := fun e => Station.offersPoll e && decide (s.line.rotation < e.1)) hr
    fun a v hv => by simp [mt (State.offersPoll_iff hv).1 (h a)]
  rw [State.nextPoll_eq, hafter, hnone]
  rfl

/-! ### The choice (R116) -/

theorem State.arbitrate_busy (h : s.line.transaction.isSome = true) : s.arbitrate = s := by
  obtain ⟨t, ht⟩ := Option.isSome_iff_exists.1 h
  unfold State.arbitrate
  rw [ht]

theorem State.arbitrate_stopped (h : s.line.mode = .stopped) : s.arbitrate = s := by
  unfold State.arbitrate
  rw [h]
  cases s.line.transaction <;> rfl

theorem State.arbitrate_set (ht : s.line.transaction = none) (hm : s.line.mode = .run) {n : Nat} {p : Point}
    (h : s.nextSet = some (n, p)) : s.arbitrate = s.beginSet n p := by
  unfold State.arbitrate
  rw [ht, hm, h]

theorem State.arbitrate_poll (ht : s.line.transaction = none)
    (h : s.line.mode = .hold ∨ s.line.mode = .run ∧ s.nextSet = none) : s.arbitrate = s.offerPoll := by
  unfold State.arbitrate
  rcases h with hm | ⟨hm, hset⟩
  · rw [ht, hm]
  · rw [ht, hm, hset]

theorem State.offerPoll_some {a : Nat} (h : s.nextPoll = some a) : s.offerPoll = s.beginPoll a := by
  unfold State.offerPoll
  rw [h]

theorem State.offerPoll_none (h : s.nextPoll = none) : s.offerPoll = s := by
  unfold State.offerPoll
  rw [h]

/-! ### The bits on FTX (R117, R119) -/

theorem State.transmitted_idle (h : s.line.transaction = none) : s.transmitted = [] := by
  unfold State.transmitted State.outFrame
  rw [h]
  rfl

theorem State.transmitted_sent {t : Transaction} (h : s.line.transaction = some t) (hp : t.phase ≠ .sending) :
    s.transmitted = [] := by
  unfold State.transmitted State.outFrame
  simp [h, hp]

theorem State.transmitted_sending {t : Transaction} (h : s.line.transaction = some t) (hp : t.phase = .sending) :
    s.transmitted = lineBits t.job.frame := by
  unfold State.transmitted State.outFrame
  simp [h, hp]

/-- Settles O40: a walk over a table whose record numbers rise meets the lowest-numbered entry first; past the rotation
position, or from 0 when none is due there, that is the next station. -/
theorem arbitrationChoosesSetThenPoll : Obligations.ArbitrationChoosesSetThenPoll := by
  intro s hpoints hstations due ready start polls
  have hpolls : s.line.transaction = none → polls → s.arbitrate = s.offerPoll := fun ht h =>
    State.arbitrate_poll ht (h.imp_right fun h => ⟨h.1, State.nextSet_none hpoints h.2⟩)
  refine ⟨fun h => h.elim State.arbitrate_busy State.arbitrate_stopped, fun ht hm n p hp hn hlow => ?set,
    fun ht h a ha hfirst => ?poll, fun ht h hnone => ?nothing, State.transmitted_idle,
    fun t ht => ⟨State.transmitted_sent ht, fun hp => ⟨fun a hj => ?pollFrame, fun n v x hj => ?setFrame⟩⟩, rfl,
    fun b bs => rfl⟩
  case set => exact State.arbitrate_set ht hm (State.nextSet_ready hpoints hp hn hlow)
  case poll =>
    have hnext : s.nextPoll = some a := hfirst.elim (fun h => State.nextPoll_after hstations ha h.1 h.2)
      fun h => State.nextPoll_wrapped hstations ha h.1 h.2
    exact (hpolls ht h).trans (State.offerPoll_some hnext)
  case nothing => exact (hpolls ht h).trans (State.offerPoll_none (State.nextPoll_none hstations hnone))
  case pollFrame =>
    rw [State.transmitted_sending ht hp, hj]
    rfl
  case setFrame =>
    rw [State.transmitted_sending ht hp, hj]
    rfl

end Sys2Proof.Machine
end

section
/-! Poll timers, and the ends of attempts and of transactions that no valid reply ends (R107, R108, R115, R117, R118). -/

namespace Sys2Proof.Machine

variable {s : State} {t : Transaction}

/-! ### Poll timers (R108) -/

theorem Station.elapsed_eq (v : Station) :
    v.elapsed =
      if v.state = .responding then { v with due := true }
      else if v.interval + 1 < 16 then { v with interval := v.interval + 1 }
      else { v with interval := 0, due := true } := by
  unfold Station.elapsed
  cases v.state <;> rfl

theorem execPollIntervalElapsed_unpolled {a : Nat} (h : (s.station a).polled = false) :
    exec (.pollIntervalElapsed a) s = .next s :=
  if_neg (by simp [h])

theorem execPollIntervalElapsed_polled {a : Nat} (h : (s.station a).polled = true) :
    exec (.pollIntervalElapsed a) s = .next (s.setStation a (s.station a).elapsed).arbitrate :=
  if_pos h

/-! ### A transaction counts at its station (R107) -/

theorem State.stationFailed_eq (a : Nat) (s : State) :
    s.stationFailed a =
      (let v := s.station a
       if v.state = .silent then s
       else if v.failures + 1 < 3 then s.setStation a { v with failures := v.failures + 1 }
       else (s.setStation a { v with failures := 3, state := .silent, silentSince := some s.cal.slot }).report
         .stationSilent (.number a)) := by
  unfold State.stationFailed Station.failedOnce
  dsimp only
  by_cases hs : (s.station a).state = .silent
  · rw [if_pos hs, if_pos hs]
  · rw [if_neg hs, if_neg hs]
    split <;> rfl

theorem State.stationFailed_frame (a : Nat) (s : State) :
    s.stationFailed a = { s with
      line.stations := (s.stationFailed a).line.stations, mail.reports := (s.stationFailed a).mail.reports } := by
  rw [State.stationFailed_eq]
  dsimp only
  split_ifs <;> rfl

/-! ### A SET that no reply ends (R115, R118) -/

/-- A point whose SET was lost, its resend owed and its send pending written out. -/
theorem Point.unset_pendingAgain (p : Point) :
    p.unset.pendingAgain false =
      (let sendable := p.mode = .auto ∨ p.closeOwed = true
       let owed := p.field.resendOwed || decide sendable
       { p with
         field.inFlight := none
         field.resendOwed := owed
         field.sendPending := decide (sendable ∧
           (owed = true ∨ p.target ≠ p.field.acknowledged ∧ p.field.declined ≠ some p.target)) }) := by
  have hs : p.sendable = decide (p.mode = .auto ∨ p.closeOwed = true) := by simp [Point.sendable]
  rw [Point.pendingAgain_free]
  unfold Point.unset
  rw [hs]

theorem Line.settingPoint_idle {l : Line} (h : l.transaction = none) (n : Nat) : l.settingPoint n = false := by
  unfold Line.settingPoint
  rw [h]

theorem State.setLost_eq {n : Nat} {p : Point} (ht : s.line.transaction = none) (hp : s.point? n = some p) :
    s.setLost n = s.setPoint n (p.unset.pendingAgain false) := by
  change (s.changePoint n Point.unset).reevaluate n = _
  rw [State.changePoint_eq _ hp, State.reevaluate_setPoint_free _ (Line.settingPoint_idle ht n)]

theorem State.setFailed_eq {n : Nat} {p : Point} (ht : s.line.transaction = none) (hp : s.point? n = some p) :
    s.setFailed n = (s.report .setpointUnconfirmed (.number n)).setPoint n
      (Point.pendingAgain false (Point.unset { p with field.unconfirmed := true })) := by
  unfold State.setFailed
  rw [State.changePoint_eq _ hp]
  change ((s.report .setpointUnconfirmed (.number n)).setPoint n _).setLost n = _
  rw [State.setLost_eq (by exact ht) (State.setPoint_self _ n _), State.setPoint_setPoint]

/-! ### The end of a transaction whose last attempt failed (R115, R117, R118) -/

theorem Transaction.final_iff (t : Transaction) : t.final = true ↔ t.lastAttempt = true ∨ t.attempt = 3 := by
  simp [Transaction.final]

theorem State.endUnanswered_poll {a : Nat} (hj : t.job = .poll a) : s.endUnanswered t = s.lineIdle.stationFailed a := by
  unfold State.endUnanswered
  rw [hj]

theorem State.endUnanswered_removed_cut {n v : Nat} (hj : t.job = .set n v true) (hl : t.lastAttempt = true) :
    s.endUnanswered t = s.lineIdle := by
  unfold State.endUnanswered
  rw [hj, hl]
  rfl

theorem State.endUnanswered_removed_failed {n v : Nat} (hj : t.job = .set n v true) (hl : t.lastAttempt = false) :
    s.endUnanswered t = s.lineIdle.stationFailed (n / 8) := by
  unfold State.endUnanswered
  rw [hj, hl]
  rfl

theorem State.endUnanswered_set_cut {n v : Nat} {p : Point} (hj : t.job = .set n v false) (hl : t.lastAttempt = true)
    (hp : s.point? n = some p) :
    s.endUnanswered t = s.lineIdle.setPoint n (p.unset.pendingAgain false) := by
  unfold State.endUnanswered
  rw [hj, hl]
  exact State.setLost_eq (s := s.lineIdle) rfl hp

theorem State.endUnanswered_set_failed {n v : Nat} {p : Point} (hj : t.job = .set n v false)
    (hl : t.lastAttempt = false) (hp : s.point? n = some p) :
    s.endUnanswered t =
      ((s.lineIdle.stationFailed (n / 8)).report .setpointUnconfirmed (.number n)).setPoint n
        (Point.pendingAgain false (Point.unset { p with field.unconfirmed := true })) := by
  unfold State.endUnanswered
  rw [hj, hl]
  refine State.setFailed_eq (s := s.lineIdle.stationFailed (n / 8)) ?idle ?point
  case idle =>
    rw [State.stationFailed_frame]
    rfl
  case point =>
    rw [State.stationFailed_frame]
    exact hp

/-! ### Attempts (R117) -/

theorem execOutFrameSent_idle (h : s.line.transaction = none) : exec .outFrameSent s = .next s := by
  change Machine.execOutFrameSent s = _
  unfold Machine.execOutFrameSent
  rw [h]

theorem execOutFrameSent_sending (h : s.line.transaction = some t) (hp : t.phase = .sending) :
    exec .outFrameSent s = .next { s with line.transaction := some { t with phase := .waiting } } := by
  change Machine.execOutFrameSent s = _
  unfold Machine.execOutFrameSent
  rw [h]
  exact if_pos hp

theorem execOutFrameSent_sent (h : s.line.transaction = some t) (hp : t.phase ≠ .sending) :
    exec .outFrameSent s = .next s := by
  change Machine.execOutFrameSent s = _
  unfold Machine.execOutFrameSent
  rw [h]
  exact if_neg hp

theorem execReplyKindByte_idle (h : s.line.transaction = none) (b k : Byte) :
    exec (.replyKindByte b k) s = .next s := by
  change Machine.execReplyKindByte b k s = _
  unfold Machine.execReplyKindByte
  rw [h]

theorem execReplyKindByte_unawaited (h : s.line.transaction = some t) (hp : t.phase ≠ .waiting) (b k : Byte) :
    exec (.replyKindByte b k) s = .next s := by
  change Machine.execReplyKindByte b k s = _
  unfold Machine.execReplyKindByte
  rw [h]
  exact if_neg hp

theorem execReplyKindByte_known (h : s.line.transaction = some t) (hp : t.phase = .waiting) (b : Byte) {k : Byte}
    {n : Nat} (hk : replyLength k = some n) :
    exec (.replyKindByte b k) s = .next { s with line.transaction := some { t with phase := .receiving n } } := by
  change Machine.execReplyKindByte b k s = _
  unfold Machine.execReplyKindByte
  simp only [h, hp, hk, if_true]

theorem execReplyKindByte_unknown (h : s.line.transaction = some t) (hp : t.phase = .waiting) (b : Byte) {k : Byte}
    (hk : replyLength k = none) : exec (.replyKindByte b k) s = .next (s.badReply t 0).arbitrate := by
  change Machine.execReplyKindByte b k s = _
  unfold Machine.execReplyKindByte
  simp only [h, hp, hk, if_true]

theorem replyLength_unknown {k : Byte} (hpoll : k ≠ 0x90#8) (hack : k ≠ 0xA1#8) (hlocal : k ≠ 0xA2#8) :
    replyLength k = none := by
  simp [replyLength, hpoll, hack, hlocal]

theorem execAttemptDeadline_idle (h : s.line.transaction = none) : exec .attemptDeadline s = .next s := by
  change Machine.execAttemptDeadline s = _
  unfold Machine.execAttemptDeadline
  rw [h]

theorem execAttemptDeadline_sending (h : s.line.transaction = some t) (hp : t.phase = .sending) :
    exec .attemptDeadline s = .next s := by
  change Machine.execAttemptDeadline s = _
  unfold Machine.execAttemptDeadline
  rw [h]
  exact if_pos hp

theorem execAttemptDeadline_again (h : s.line.transaction = some t) (hp : t.phase ≠ .sending)
    (hf : ¬(t.lastAttempt = true ∨ t.attempt = 3)) : exec .attemptDeadline s = .next (s.nextAttempt t) := by
  change Machine.execAttemptDeadline s = _
  unfold Machine.execAttemptDeadline
  rw [h]
  exact (if_neg hp).trans (if_neg (mt t.final_iff.1 hf))

theorem execAttemptDeadline_final (h : s.line.transaction = some t) (hp : t.phase ≠ .sending)
    (hf : t.lastAttempt = true ∨ t.attempt = 3) : exec .attemptDeadline s = .next (s.endUnanswered t).arbitrate := by
  change Machine.execAttemptDeadline s = _
  unfold Machine.execAttemptDeadline
  rw [h]
  exact (if_neg hp).trans (if_pos (t.final_iff.2 hf))

/-! ### Bad replies (R117) -/

/-- The attempt has failed by a reply of that length, FRAME_ERROR is reported, and the deadline is yet to come. -/
def State.replyFailed (t : Transaction) (length : Nat) (s : State) : State :=
  { s.report .frameError (.number t.job.station) with line.transaction := some { t with phase := .failed length } }

theorem State.badReply_again (hl : t.lastAttempt = false) (ha : t.attempt ≠ 3) (length : Nat) :
    s.badReply t length = s.replyFailed t length := by
  have hf : t.final = false := by simp [Transaction.final, hl, ha]
  unfold State.badReply
  rw [hf]
  rfl

/-- The manual does not say when a failed final attempt ends: the transaction waits for its deadline or ends as it does
at the deadline (log entry 9). -/
theorem State.badReply_final (hf : t.lastAttempt = true ∨ t.attempt = 3) (length : Nat) :
    (.next (s.badReply t length).arbitrate : Host.Outcome State Fault Refusal) = .next (s.replyFailed t length) ∨
      .next (s.badReply t length).arbitrate = exec .attemptDeadline (s.replyFailed t length) := by
  have hdeadline := execAttemptDeadline_final (s := s.replyFailed t length) rfl nofun hf
  unfold State.badReply
  rw [t.final_iff.2 hf]
  cases Config.finalFailureEndsAtOnce with
  | false => exact Or.inl rfl
  | true => exact Or.inr (hdeadline.trans rfl).symm

/-- Settles O42: each event by the phase of the attempt; the end of a transaction by its job, its last attempt mark and
whether its point was removed. -/
theorem attemptsRunToTheirDeadlines : Obligations.AttemptsRunToTheirDeadlines := by
  refine ⟨fun s => ⟨fun a => execPollIntervalElapsed_unpolled, fun a ha => ?elapsed,
      fun ht => ⟨execOutFrameSent_idle ht, execReplyKindByte_idle ht⟩, fun t ht =>
      ⟨execOutFrameSent_sending ht, execOutFrameSent_sent ht, fun b k hp => execReplyKindByte_unawaited ht hp b k,
        fun b hp => ⟨execReplyKindByte_known ht hp b rfl, execReplyKindByte_known ht hp b rfl,
          execReplyKindByte_known ht hp b rfl⟩,
        fun b k hp hpoll hack hlocal hl ha => ?failedAgain, fun b k hp hpoll hack hlocal hf => ?failedFinal⟩⟩,
    fun s => ⟨execAttemptDeadline_idle, fun t ht => ?deadline⟩⟩
  case elapsed =>
    rw [execPollIntervalElapsed_polled ha, Station.elapsed_eq]
  case failedAgain =>
    rw [execReplyKindByte_unknown ht hp b (replyLength_unknown hpoll hack hlocal), State.badReply_again hl ha]
    rfl
  case failedFinal =>
    rw [execReplyKindByte_unknown ht hp b (replyLength_unknown hpoll hack hlocal)]
    exact State.badReply_final hf 0
  case deadline =>
    intro final idle fail lost
    have hfail : ∀ a, s.lineIdle.stationFailed a = fail a := fun a => State.stationFailed_eq a s.lineIdle
    have hlost : ∀ n p u, State.setPoint n (p.unset.pendingAgain false) u = lost n p u := fun n p u =>
      congrArg (fun q => u.setPoint n q) (Point.unset_pendingAgain p)
    refine ⟨execAttemptDeadline_sending ht, fun hp hf => execAttemptDeadline_again ht hp hf, fun hp hf => ?_⟩
    have hends := execAttemptDeadline_final ht hp hf
    refine ⟨fun a hj => ?poll, fun n v hj hl => ?removedCut, fun n v hj hl => ?removedFailed,
      fun n v p hj hpoint hl => ?setCut, fun n v p hj hpoint hl => ?setFailed⟩
    case poll => rw [hends, State.endUnanswered_poll hj, hfail]
    case removedCut =>
      rw [hends, State.endUnanswered_removed_cut hj hl]
      rfl
    case removedFailed => rw [hends, State.endUnanswered_removed_failed hj hl, hfail]
    case setCut =>
      rw [hends, State.endUnanswered_set_cut hj hl hpoint, hlost]
      rfl
    case setFailed => rw [hends, State.endUnanswered_set_failed hj hl hpoint, hlost, hfail]

end Sys2Proof.Machine
end

section
/-! Replies: the test of R117, how a valid reply ends the transaction and is delivered, and what a bad one does (R107,
R114, R115, R117 to R120). -/

namespace Sys2Proof.Machine

variable {s : State} {t : Transaction} {frame : List Byte}

/-! ### The test of R117 -/

/-- The frame carries its own CRC and the address of the station (R119). -/
def honestReply (a : Nat) (frame : List Byte) : Prop :=
  frame = framed (frame.take (frame.length - 2)) ∧ (byteAt frame 0).toNat = a

theorem crcCorrect_iff (frame : List Byte) :
    crcCorrect frame = true ↔ frame = framed (frame.take (frame.length - 2)) := by
  unfold crcCorrect
  rw [decide_eq_true_iff, eq_comm]

/-- The kind is one that answers the job, and a SET's channel is right (R117). -/
def Job.answeredBy (frame : List Byte) : Job → Prop
  | .poll _ => byteAt frame 1 = 0x90#8
  | .set n _ _ => (byteAt frame 1 = 0xA1#8 ∨ byteAt frame 1 = 0xA2#8) ∧ (byteAt frame 2).toNat = n % 8

theorem Job.accepts_iff (j : Job) (frame : List Byte) :
    j.accepts frame = true ↔ honestReply j.station frame ∧ j.answeredBy frame := by
  unfold Job.accepts honestReply
  rw [Bool.and_eq_true, Bool.and_eq_true, crcCorrect_iff, decide_eq_true_iff]
  refine and_congr_right' ?_
  cases j with
  | poll a => exact decide_eq_true_iff
  | set n v x =>
    simp only [Bool.and_eq_true, Bool.or_eq_true, decide_eq_true_iff]
    rfl

/-! ### The kind byte (R119) -/

/-- The length that each of the three kinds fixes. -/
theorem replyLength_known {k : Byte} (h : k = 0x90#8 ∨ k = 0xA1#8 ∨ k = 0xA2#8) :
    replyLength k = some (if k = 0x90#8 then 44 else if k = 0xA1#8 then 7 else 5) := by
  rcases h with rfl | rfl | rfl <;> rfl

theorem two_le_of_replyLength {k : Byte} {n : Nat} (h : replyLength k = some n) : 2 ≤ n := by
  unfold replyLength at h
  split_ifs at h <;> cases h <;> decide

/-! ### The event -/

theorem execFieldReply_idle (h : s.line.transaction = none) : exec (.fieldReply frame) s = .next s := by
  change Machine.execFieldReply frame s = _
  unfold Machine.execFieldReply
  rw [h]

theorem Phase.deaf_iff (p : Phase) : p.deaf = true ↔ p = .sending ∨ ∃ m, p = .failed m := by
  cases p <;> simp [Phase.deaf]

theorem Phase.not_deaf {p : Phase} {n : Nat} (h : p = .waiting ∨ p = .receiving n) : ¬p.deaf = true := by
  rcases h with rfl | rfl <;> exact Bool.false_ne_true

theorem execFieldReply_deaf (h : s.line.transaction = some t) (hp : t.phase = .sending ∨ ∃ m, t.phase = .failed m) :
    exec (.fieldReply frame) s = .next s := by
  change Machine.execFieldReply frame s = _
  unfold Machine.execFieldReply
  rw [h]
  exact if_pos (Or.inl ((Phase.deaf_iff _).2 hp))

/-- A frame whose kind byte fixes no length fails the attempt as that byte does (log entry 19). -/
theorem execFieldReply_unknown (h : s.line.transaction = some t) (hp : t.phase = .waiting)
    (hk : replyLength (byteAt frame 1) = none) (hlen : 2 ≤ frame.length) :
    exec (.fieldReply frame) s = exec (.replyKindByte (byteAt frame 0) (byteAt frame 1)) s := by
  have hlistens : ¬(t.phase.deaf = true ∨ frame.length < 2) :=
    not_or.2 ⟨Phase.not_deaf (n := 0) (Or.inl hp), hlen.not_gt⟩
  rw [execReplyKindByte_unknown h hp _ hk]
  change Machine.execFieldReply frame s = _
  unfold Machine.execFieldReply
  simp only [h, if_neg hlistens, hk, if_pos hp]

/-- A complete reply to the attempt that awaits it. -/
theorem execFieldReply_complete {n : Nat} (h : s.line.transaction = some t)
    (hk : replyLength (byteAt frame 1) = some n) (hlen : frame.length = n)
    (hp : t.phase = .waiting ∨ t.phase = .receiving n) :
    exec (.fieldReply frame) s =
      .next (if t.job.accepts frame then s.endAnswered t frame else s.badReply t n).arbitrate := by
  have hlistens : ¬(t.phase.deaf = true ∨ frame.length < 2) :=
    not_or.2 ⟨Phase.not_deaf hp, (hlen ▸ two_le_of_replyLength hk).not_gt⟩
  have hawaited : ¬(frame.length < n ∨ t.phase ≠ .waiting ∧ t.phase ≠ .receiving n) := by
    rintro (hshort | ⟨hw, hr⟩)
    · omega
    · exact hp.elim hw hr
  change Machine.execFieldReply frame s = _
  unfold Machine.execFieldReply
  simp only [h, if_neg hlistens, hk, if_neg hawaited, List.take_of_length_le hlen.le]
  split <;> rfl

/-! ### A POLL_REPLY is delivered (R120) -/

/-- What a POLL_REPLY tells Release Control of a channel (R119, R120). -/
def gateNewsOf (a : Nat) (frame : List Byte) (c : Nat) : GateNews :=
  { point := a * 8 + c
    switch := if (channelFlags frame c).getLsbD 0 then .manual else .remote
    position := (byteAt frame (5 + 5 * c)).toNat
    fault := (channelFlags frame c).getLsbD 2 }

/-- What a POLL_REPLY tells the Meter Accounting Unit of a channel (R119, R120). -/
def readingOf (a : Nat) (frame : List Byte) (c : Nat) : Reading :=
  { point := a * 8 + c, totalizer := channelTotalizer frame c, fault := (channelFlags frame c).getLsbD 1 }

/-- The deliveries of some channels of a POLL_REPLY. -/
def State.deliver (a : Nat) (frame : List Byte) (cs : List Nat) (s : State) : State :=
  { s with
    mail.gates := s.mail.gates ++ cs.map (gateNewsOf a frame)
    mail.readings := s.mail.readings ++ cs.map (readingOf a frame) }

theorem State.deliver_deliver (a : Nat) (frame : List Byte) (cs ds : List Nat) (s : State) :
    (s.deliver a frame cs).deliver a frame ds = s.deliver a frame (cs ++ ds) := by
  simp [State.deliver]

theorem State.deliver_nil (a : Nat) (frame : List Byte) (s : State) : s.deliver a frame [] = s := by
  simp [State.deliver]

theorem deliverChannel_eq (a : Nat) (frame : List Byte) (s : State) (c : Nat) :
    deliverChannel a frame s c =
      s.deliver a frame ([c].filter fun c => (s.point? (a * 8 + c)).isSome) := by
  unfold deliverChannel
  cases hp : s.point? (a * 8 + c) with
  | none => simp [hp, State.deliver_nil]
  | some p => simp [hp, State.deliver, gateNewsOf, readingOf]

/-- A delivery leaves the points, so the walk delivers the channels whose points are not UNUSED. -/
theorem foldl_deliverChannel (a : Nat) (frame : List Byte) (cs : List Nat) (s : State) :
    cs.foldl (deliverChannel a frame) s = s.deliver a frame (cs.filter fun c => (s.point? (a * 8 + c)).isSome) := by
  induction cs generalizing s with
  | nil => exact (s.deliver_nil a frame).symm
  | cons c cs ih =>
    rw [List.foldl_cons, ih, deliverChannel_eq]
    exact (State.deliver_deliver a frame _ _ s).trans
      (congrArg (s.deliver a frame ·) (List.filter_append (l₁ := [c]) cs).symm)

/-! ### The end of a transaction with a valid reply (R107, R114, R115) -/

/-- The line is idle, and the station of the transaction has answered. -/
def State.answered (t : Transaction) (s : State) : State := s.lineIdle.stationAnswered t.job.station

theorem State.endAnswered_poll {a : Nat} (hj : t.job = .poll a) :
    s.endAnswered t frame =
      (s.answered t).deliver a frame ((List.range 8).filter fun c => (s.point? (a * 8 + c)).isSome) := by
  unfold State.endAnswered State.answered
  rw [hj]
  exact foldl_deliverChannel a frame _ _

theorem State.endAnswered_removed {n v : Nat} (hj : t.job = .set n v true) :
    s.endAnswered t frame = s.answered t := by
  unfold State.endAnswered State.answered
  rw [hj]
  rfl

theorem State.endAnswered_ack {n v : Nat} (hj : t.job = .set n v false) (hk : byteAt frame 1 = 0xA1#8) :
    s.endAnswered t frame = (s.answered t).setAcknowledged n v (number ((frame.drop 3).take 2)) := by
  unfold State.endAnswered State.answered
  rw [hj]
  exact if_pos hk

theorem State.endAnswered_local {n v : Nat} (hj : t.job = .set n v false) (hk : byteAt frame 1 ≠ 0xA1#8) :
    s.endAnswered t frame = (s.answered t).setRefused n := by
  unfold State.endAnswered State.answered
  rw [hj]
  exact if_neg hk

/-- A point whose SET of value v was acknowledged, before its send pending is re-evaluated (R114). -/
def Point.acknowledge (v applied : Nat) (p : Point) : Point :=
  { p with
    field.acknowledged := applied
    field.unconfirmed := decide (applied ≠ v)
    field.declined := if applied = v then none else some v
    field.inFlight := none }

/-- The report of an applied setpoint that differs from the one sent, and the applied one handed over (R114). -/
def State.handApplied (n v applied : Nat) (s : State) : State :=
  let s1 := if applied = v then s else s.report .setpointUnconfirmed (.number n)
  { s1 with mail.applied := s.mail.applied ++ [{ point := n, flow := applied }] }

theorem State.handApplied_setPoint (n v applied : Nat) (p : Point) (s : State) :
    (s.setPoint n p).handApplied n v applied = (s.handApplied n v applied).setPoint n p := by
  unfold State.handApplied
  split <;> rfl

theorem State.handApplied_line (n v applied : Nat) (s : State) : (s.handApplied n v applied).line = s.line := by
  unfold State.handApplied
  split <;> rfl

theorem State.setAcknowledged_eq {n v applied : Nat} {p : Point} (ht : s.line.transaction = none)
    (hp : s.point? n = some p) :
    s.setAcknowledged n v applied =
      (s.setPoint n ((p.acknowledge v applied).pendingAgain false)).handApplied n v applied := by
  have hfree : (s.handApplied n v applied).line.settingPoint n = false := by
    rw [State.handApplied_line, Line.settingPoint_idle ht]
  have hack : s.setAcknowledged n v applied =
      ((s.setPoint n (p.acknowledge v applied)).handApplied n v applied).reevaluate n := by
    unfold State.setAcknowledged State.handApplied Point.acknowledge
    dsimp only
    rw [State.changePoint_eq _ hp]
    by_cases h : applied = v
    · simp [h]
    · simp only [h, decide_false, Bool.false_eq_true, if_false, ne_eq, not_false_eq_true, decide_true, Bool.not_false]
      rfl
  rw [hack, State.handApplied_setPoint, State.reevaluate_setPoint_free _ hfree, State.handApplied_setPoint]

theorem Point.acknowledge_pendingAgain (v applied : Nat) (p : Point) :
    (p.acknowledge v applied).pendingAgain false =
      (let declined := if applied = v then none else some v
       { p with
         field.acknowledged := applied
         field.unconfirmed := decide (applied ≠ v)
         field.declined := declined
         field.inFlight := none
         field.sendPending := decide ((p.mode = .auto ∨ p.closeOwed = true) ∧
           (p.field.resendOwed = true ∨ p.target ≠ applied ∧ declined ≠ some p.target)) }) :=
  Point.pendingAgain_free _

theorem State.setRefused_eq {n : Nat} {p : Point} (hp : s.point? n = some p) :
    s.setRefused n = (s.setPoint n { p with field.inFlight := none, field.resendOwed := true }).switchLocal n := by
  unfold State.setRefused
  rw [State.changePoint_eq _ hp]

/-- Settles O43: a complete reply is taken by the test of R117; a valid one ends the transaction by its job and its kind,
any other fails the attempt. -/
theorem fieldReplyEndsTheTransaction : Obligations.FieldReplyEndsTheTransaction := by
  refine fun s frame => ⟨execFieldReply_idle, fun t ht => ?_⟩
  intro k length known a v honest s1 awaited bad
  have hhonest : known → (honest ↔ honestReply a frame) := fun hk => by
    unfold honestReply
    rw [hk.2]
  have hcomplete : known → awaited → exec (.fieldReply frame) s =
      .next (if t.job.accepts frame then s.endAnswered t frame else s.badReply t length).arbitrate := fun hk hw =>
    execFieldReply_complete ht (replyLength_known hk.1) hk.2 hw
  have hvalid : known → awaited → honest → t.job.answeredBy frame →
      exec (.fieldReply frame) s = .next (s.endAnswered t frame).arbitrate := fun hk hw hh ha => by
    rw [hcomplete hk hw, if_pos ((t.job.accepts_iff frame).2 ⟨(hhonest hk).1 hh, ha⟩)]
  have hrefused : known → bad → ¬t.job.accepts frame = true := fun hk hb haccepts => by
    obtain ⟨hh, ha⟩ := (t.job.accepts_iff frame).1 haccepts
    rcases hb with ⟨b, hj, hkind⟩ | ⟨n, x, y, hj, hwrong⟩ | hdishonest
    · rw [hj] at ha
      exact hkind ha
    · rw [hj] at ha
      obtain ⟨hkind, hchannel⟩ := ha
      rcases hwrong with hpoll | hwrong
      · rcases hkind with hkind | hkind <;> exact absurd (hpoll.symm.trans hkind) (by decide)
      · exact hwrong hchannel
    · exact hdishonest ((hhonest hk).2 hh)
  have hbad : known → awaited → bad →
      exec (.fieldReply frame) s = .next (s.badReply t length).arbitrate := fun hk hw hb => by
    rw [hcomplete hk hw, if_neg (hrefused hk hb)]
  refine ⟨execFieldReply_deaf ht, fun hk hw hh b hj hkind => ?poll, fun hk hw hh n x hj hkind hchannel => ?removed,
    fun hk hw hh n x p hj hp hchannel => ⟨fun hkind => ?ack, fun hkind => ?refused⟩,
    fun hk hw hb hl ha => ?badAgain, fun hk hw hb hf => ?badFinal,
    fun hpoll hack hlocal hlen hp => ?unknown⟩
  case poll =>
    rw [hvalid hk hw hh (by rw [hj]; exact hkind), State.endAnswered_poll hj]
    rfl
  case removed =>
    rw [hvalid hk hw hh (by rw [hj]; exact ⟨hk.1.resolve_left hkind, hchannel⟩), State.endAnswered_removed hj]
    rfl
  case ack =>
    rw [hvalid hk hw hh (by rw [hj]; exact ⟨Or.inl hkind, hchannel⟩), State.endAnswered_ack hj hkind,
      State.setAcknowledged_eq (s := s.answered t) rfl hp, Point.acknowledge_pendingAgain]
    rfl
  case refused =>
    have hack : byteAt frame 1 ≠ 0xA1#8 := fun he => absurd (hkind.symm.trans he) (by decide)
    rw [hvalid hk hw hh (by rw [hj]; exact ⟨Or.inr hkind, hchannel⟩), State.endAnswered_local hj hack,
      State.setRefused_eq (s := s.answered t) hp]
    rfl
  case badAgain =>
    rw [hbad hk hw hb, State.badReply_again hl ha]
    rfl
  case badFinal =>
    rw [hbad hk hw hb]
    exact State.badReply_final hf length
  case unknown => exact execFieldReply_unknown ht hp (replyLength_unknown hpoll hack hlocal) hlen

end Sys2Proof.Machine
end

section
/-! One posting: what it makes of its order, of its account and of the error reports, and the four tiers that
ordered water is priced in (R139 to R142, R152 to R156). -/

namespace Sys2Proof.Machine

/-! ### Tiers (R153) -/

theorem tierBoundary_mono (effective : Nat) {x y : Nat} (h : x ≤ y) :
    tierBoundary effective x ≤ tierBoundary effective y :=
  min_le_min_left _ (Nat.div_le_div_right (Nat.mul_le_mul_left _ h))

/-- Boundaries that do not fall divide a posting into parts that leave none of it out. -/
theorem tierPart_sum (c v : Nat) {x y z : Nat} (hxy : x ≤ y) (hyz : y ≤ z) :
    tierPart c v 0 x + tierPart c v x y + tierPart c v y z + tierPart c v z (c + v) = v := by
  unfold tierPart
  omega

/-! ### An order's share (R68) -/

theorem Order.share_eq (o : Order) : o.share =
    if o.state = .confirmed ∨ o.due = true ∨ o.state = .closing then o.ordered - o.delivered else 0 := by
  unfold Order.share Order.due
  cases h : o.state <;> simp

theorem Order.share_le (o : Order) : o.share ≤ o.ordered - o.delivered := by
  rw [Order.share_eq]
  split
  · exact le_rfl
  · exact Nat.zero_le _

/-! ### What a posting reads and writes -/

/-- The report of a counter of account n that could not take its addition in full (R142). -/
def saturationReport (n : Nat) (full : Bool) : List Report :=
  if full then [{ kind := .counterSaturated, ref := .number n }] else []

section

variable {s : State} {n v : Nat} {estimated short : Bool} {place : Place} {a : Account}

theorem State.reviseAccount_frame (s : State) (n : Nat) (f : Account → Account) :
    s.reviseAccount n f = { s with accounts := (s.reviseAccount n f).accounts } := by
  unfold State.reviseAccount
  split <;> rfl

theorem State.reviseAccount_account? (s : State) (n : Nat) (f : Account → Account) (m : Nat) :
    (s.reviseAccount n f).account? m =
      if m = n then (s.account? n).map (Account.revise f) else s.account? m := by
  unfold State.reviseAccount
  cases ha : s.account? n with
  | none =>
    by_cases hm : m = n
    · rw [if_pos hm, hm]
      exact ha
    · exact (if_neg hm).symm
  | some a => exact cell?_setCell _ _ _ _

theorem State.postOrder_frame (v : Nat) (estimated : Bool) (place : Place) (s : State) :
    s.postOrder v estimated place =
      { s with
        obk.orders := (s.postOrder v estimated place).obk.orders
        accounts := (s.postOrder v estimated place).accounts } := by
  unfold State.postOrder
  split
  · split
    · rfl
    · rw [State.putOrder_frame]
  · rfl
  · rfl

/-- A counter of the point, of the order or of the account cannot take the posting in full (R142). -/
def State.postFull (s : State) (v : Nat) (estimated short : Bool) (place : Place) (a : Account) : Bool :=
  short || s.orderSaturates v estimated place || a.saturates (s.tariff a.cls) place.bucket v estimated

theorem State.post_eq (ha : s.account? n = some a) :
    s.post n v estimated place short =
      (let s1 := (s.postOrder v estimated place).reviseAccount n
        (Account.post (s.tariff a.cls) place.bucket v estimated)
       { s1 with
        mail.reports := s1.mail.reports ++ saturationReport n (s.postFull v estimated short place a) }) := by
  unfold State.post saturationReport State.postFull
  rw [ha]
  dsimp only
  split
  · rfl
  · simp

/-- Order table, account records and error reports are all that a posting writes. -/
theorem State.post_frame (ha : s.account? n = some a) :
    s.post n v estimated place short =
      { s with
        obk.orders := (s.post n v estimated place short).obk.orders
        accounts := (s.post n v estimated place short).accounts
        mail.reports := s.mail.reports ++ saturationReport n (s.postFull v estimated short place a) } := by
  rw [State.post_eq ha]
  dsimp only
  rw [State.reviseAccount_frame, State.postOrder_frame]

theorem State.post_orders (ha : s.account? n = some a) :
    (s.post n v estimated place short).obk.orders = (s.postOrder v estimated place).obk.orders := by
  rw [State.post_eq ha, State.reviseAccount_frame]

theorem State.post_account? (ha : s.account? n = some a) (m : Nat) :
    (s.post n v estimated place short).account? m =
      if m = n then ((s.postOrder v estimated place).account? n).map
        (Account.revise (Account.post (s.tariff a.cls) place.bucket v estimated))
      else (s.postOrder v estimated place).account? m := by
  rw [State.post_eq ha]
  exact State.reviseAccount_account? _ n _ m

/-! ### A posting to a bucket of the account -/

/-- The account after a posting, its mark set when the reported standing changes (R139, R162). -/
def Account.posted (t : Tariff) (place : Place) (v : Nat) (estimated : Bool) (a : Account) : Account :=
  a.revise (Account.post t place.bucket v estimated)

theorem State.post_toBucket (ha : s.account? n = some a) (hp : place = .unordered ∨ place = .frost) :
    (s.post n v estimated place short).account? n = some (a.posted (s.tariff a.cls) place v estimated) ∧
      (∀ m, m ≠ n → (s.post n v estimated place short).account? m = s.account? m) ∧
      s.post n v estimated place short =
        { s with
          accounts := (s.post n v estimated place short).accounts
          mail.reports := s.mail.reports ++
            saturationReport n (short || a.saturates (s.tariff a.cls) place.bucket v estimated) } := by
  have hbook : s.postOrder v estimated place = s := by rcases hp with rfl | rfl <;> rfl
  have horder : s.orderSaturates v estimated place = false := by rcases hp with rfl | rfl <;> rfl
  refine ⟨?_, fun m hm => ?_, ?_⟩
  · rw [State.post_account? ha, if_pos rfl, hbook, ha]
    rfl
  · rw [State.post_account? ha, if_neg hm, hbook]
  · have hframe := State.post_frame (v := v) (estimated := estimated) (short := short) (place := place) ha
    rw [State.post_orders ha, hbook, State.postFull, horder, Bool.or_false] at hframe
    exact hframe

/-! ### A posting to an order -/

/-- The part an account takes in a posting neither reads nor writes what it has reserved. -/
theorem Account.posted_reserved (t : Tariff) (place : Place) (v : Nat) (estimated : Bool) (a : Account) (r : Nat) :
    ({ a with reserved := r } : Account).posted t place v estimated =
      { a.posted t place v estimated with reserved := r } := by
  cases place <;> rfl

variable {i : Nat} {tail : Bool} {o : Order}

theorem State.postOrder_order (ho : cell? s.obk.orders i = some o) :
    s.postOrder v estimated (.order i tail) = s.putOrder i (o.post v estimated tail) := by
  unfold State.postOrder
  simp only [ho]

/-- A posting to an order moves its account's reserved outstanding by the change in its share (R68). -/
theorem State.postOrder_account? (ho : cell? s.obk.orders i = some o) (hown : o.account = n)
    (ha : s.account? n = some a) (hr : o.share ≤ a.reserved) (m : Nat) :
    (s.postOrder v estimated (.order i tail)).account? m =
      if m = n then some { a with reserved := a.reserved - o.share + (o.post v estimated tail).share }
      else s.account? m := by
  have hentered : s.entered i (o.post v estimated tail) a =
      { a with reserved := a.reserved - o.share + (o.post v estimated tail).share } := by
    have hlive : (o.post v estimated tail).liveCount = o.liveCount := rfl
    unfold State.entered
    rw [cellSum_of_cell? ho, cellSum_of_cell? ho, hlive, Nat.add_sub_cancel, Nat.sub_add_comm hr]
  have howner : (o.post v estimated tail).account = n := hown
  rw [State.postOrder_order ho, State.putOrder_account?_eq, howner]
  split
  · next hm => rw [hm, ha, Option.map_some, hentered]
  · rfl

theorem State.post_toOrder (ha : s.account? n = some a) (ho : cell? s.obk.orders i = some o)
    (hown : o.account = n) (hr : o.share ≤ a.reserved) :
    (∀ j, cell? (s.post n v estimated (.order i tail) short).obk.orders j =
        if j = i then some (o.post v estimated tail) else cell? s.obk.orders j) ∧
      (s.post n v estimated (.order i tail) short).account? n =
        some { a.posted (s.tariff a.cls) (.order i tail) v estimated with
          reserved := a.reserved - o.share + (o.post v estimated tail).share } ∧
      (∀ m, m ≠ n → (s.post n v estimated (.order i tail) short).account? m = s.account? m) ∧
      s.post n v estimated (.order i tail) short =
        { s with
          obk.orders := (s.post n v estimated (.order i tail) short).obk.orders
          accounts := (s.post n v estimated (.order i tail) short).accounts
          mail.reports := s.mail.reports ++
            saturationReport n (short || o.saturates v estimated tail ||
              a.saturates (s.tariff a.cls) .ordered v estimated) } := by
  refine ⟨fun j => ?_, ?_, fun m hm => ?_, ?_⟩
  · rw [State.post_orders ha, State.postOrder_order ho, State.putOrder_orders]
    exact cell?_setCell _ _ _ _
  · rw [State.post_account? ha, if_pos rfl, State.postOrder_account? ho hown ha hr, if_pos rfl, Option.map_some,
      ← Account.posted_reserved]
    rfl
  · rw [State.post_account? ha, if_neg hm, State.postOrder_account? ho hown ha hr, if_neg hm]
  · have hframe := State.post_frame (v := v) (estimated := estimated) (short := short) (place := .order i tail) ha
    have horder : s.orderSaturates v estimated (.order i tail) = o.saturates v estimated tail := by
      simp only [State.orderSaturates, ho, Option.any_some]
    rw [State.postFull, horder] at hframe
    exact hframe

end

/-- Settles O46: a posting writes its order and revises its account, each by its own lemma; a bucket of the account
has no order, and an order's share is within what its account has reserved. -/
theorem postingChargesTheAccount : Obligations.PostingChargesTheAccount := by
  refine ⟨fun s n v estimated short place a ha =>
      ⟨fun hp => ?bucket, fun i tail o hplace ho hown _ _ hr => ?order⟩,
    fun effective b1 b2 b3 c v h12 h23 => ?tiers⟩
  case bucket =>
    rcases hp with rfl | rfl
    · exact State.post_toBucket ha (.inl rfl)
    · exact State.post_toBucket ha (.inr rfl)
  case order =>
    subst hplace
    have hposted := State.post_toOrder (v := v) (estimated := estimated) (short := short) (tail := tail) ha ho hown
      (o.share_le.trans hr)
    rw [Order.share_eq, Order.share_eq] at hposted
    exact hposted
  case tiers => exact tierPart_sum c v (tierBoundary_mono _ h12) (tierBoundary_mono _ h23)

end Sys2Proof.Machine
end

section
/-! A meter reading is discarded, taken as a baseline, held, failed or accepted by the state of its meter, and an
accepted increment is posted (R124 to R130). -/

namespace Sys2Proof.Machine

section

variable {s : State} {n N : Nat} {p : Point}

/-! ### Postings of an increment (R135, R139) -/

/-- An increment of no litres makes no posting. -/
theorem State.postAll_zero (a : Nat) (estimated : Bool) {l : List (Nat × Place)} (h : ∀ e ∈ l, e.1 = 0)
    (short : Bool) (s : State) : s.postAll a estimated l short = s := by
  induction l generalizing short with
  | nil => rfl
  | cons e l ih =>
    obtain ⟨he, hl⟩ := List.forall_mem_cons.1 h
    exact (if_pos he).trans (ih hl short)

theorem frostSplit_zero (scheduled rate : Nat) (share : ShareOf) :
    ∀ e ∈ frostSplit 0 scheduled rate share, e.1 = 0 := by
  unfold frostSplit
  dsimp only
  split <;> simp

theorem State.measuredPlaces_zero (s : State) (n : Nat) (p : Point) : ∀ e ∈ s.measuredPlaces n p 0, e.1 = 0 := by
  unfold State.measuredPlaces
  cases p.backup with
  | some k => exact frostSplit_zero _ _ _
  | none =>
    cases s.obk.dueOrder n with
    | some e => simp
    | none => cases s.obk.closingOrder n <;> simp

/-! ### A meter enters FAILED (R124) -/

theorem State.failMeter_failed (h : p.meter.state = .failed) : s.failMeter n p = s := if_pos h

theorem State.failMeter_entered (h : p.meter.state ≠ .failed) :
    s.failMeter n p = (s.setPoint n { p with meter.state := .failed }).report .meterFailed (.number n) := if_neg h

/-! ### A reading that is converted (R126 to R129) -/

theorem State.convertReading_held
    (hv : plausibleLimit p.rated s.cal.clock p.meter.lastMinute < p.meter.volume p.active N)
    (hs : p.meter.suspects + 1 ≠ 3) :
    s.convertReading n p N =
      (s.setPoint n { p with meter := { p.meter with suspects := p.meter.suspects + 1, state := .suspect } }).report
        .meterImplausible (.number n) := by
  have hheld : p.meter.held = { p.meter with suspects := p.meter.suspects + 1, state := .suspect } := by
    unfold Meter.held
    rw [if_neg hs]
  unfold State.convertReading
  dsimp only
  rw [if_pos hv, hheld]
  exact if_neg nofun

theorem State.convertReading_third
    (hv : plausibleLimit p.rated s.cal.clock p.meter.lastMinute < p.meter.volume p.active N)
    (hs : p.meter.suspects + 1 = 3) :
    s.convertReading n p N =
      ((s.setPoint n { p with meter := { p.meter with suspects := 3, state := .failed } }).report
        .meterImplausible (.number n)).report .meterFailed (.number n) := by
  have hheld : p.meter.held = { p.meter with suspects := 3, state := .failed } := by
    unfold Meter.held
    rw [if_pos hs, hs]
  unfold State.convertReading
  dsimp only
  rw [if_pos hv, hheld]
  exact if_pos rfl

/-- The state in which the reading of a point's meter is accepted (R129). -/
def State.acceptReading (n : Nat) (p : Point) (N : Nat) (s : State) : State :=
  s.setPoint n { p with meter := p.meter.accepted p.active N s.cal.clock }

theorem State.convertReading_unposted
    (hv : p.meter.volume p.active N ≤ plausibleLimit p.rated s.cal.clock p.meter.lastMinute)
    (h : p.account = none ∨ p.meter.volume p.active N = 0) : s.convertReading n p N = s.acceptReading n p N := by
  unfold State.convertReading
  dsimp only
  rw [if_neg (Nat.not_lt.2 hv)]
  split
  · rfl
  · next a ha =>
    have hzero : p.meter.volume p.active N = 0 := h.resolve_left (by simp [ha])
    rw [hzero]
    exact State.postAll_zero a false (State.measuredPlaces_zero _ n p) _ _

theorem State.convertReading_posted {a : Nat}
    (hv : p.meter.volume p.active N ≤ plausibleLimit p.rated s.cal.clock p.meter.lastMinute)
    (h : p.account = some a) :
    s.convertReading n p N =
      (s.acceptReading n p N).postAll a false
        ((s.acceptReading n p N).measuredPlaces n p (p.meter.volume p.active N))
        (overflows p.meter.seasonMetered (p.meter.volume p.active N)) := by
  unfold State.convertReading
  dsimp only
  rw [if_neg (Nat.not_lt.2 hv)]
  split
  · next hnone => cases hnone.symm.trans h
  · next b hb =>
    cases hb.symm.trans h
    rfl

/-! ### A reading by the state of its meter (R125) -/

theorem State.takeReading_missing {fault : Bool} (hp : s.point? n = none) :
    s.takeReading { point := n, totalizer := N, fault := fault } = s := by
  unfold State.takeReading
  rw [hp]

theorem State.takeReading_meterless {fault : Bool} (hp : s.point? n = some p) (hs : p.meter.state = .meterless) :
    s.takeReading { point := n, totalizer := N, fault := fault } = s := by
  unfold State.takeReading
  simp only [hp, hs]

theorem State.takeReading_fault (hp : s.point? n = some p) (hs : p.meter.state ≠ .meterless) :
    s.takeReading { point := n, totalizer := N, fault := true } = s.failMeter n p := by
  unfold State.takeReading
  rw [hp]
  dsimp only
  split
  · next h => exact absurd h hs
  all_goals exact if_pos rfl

theorem State.takeReading_baseline (hp : s.point? n = some p)
    (hs : p.meter.state = .rebase ∨ p.meter.state = .failed) :
    s.takeReading { point := n, totalizer := N, fault := false } =
      s.setPoint n { p with meter := p.meter.rebased N s.cal.clock } := by
  unfold State.takeReading
  rcases hs with hs | hs <;> simp [hp, hs]

theorem State.takeReading_converted (hp : s.point? n = some p)
    (hs : p.meter.state = .normal ∨ p.meter.state = .suspect) :
    s.takeReading { point := n, totalizer := N, fault := false } = s.convertReading n p N := by
  unfold State.takeReading
  rcases hs with hs | hs <;> simp [hp, hs]

/-! ### METER_READING -/

theorem execMeterReading_none {fault : Bool}
    (h : ({ point := n, totalizer := N, fault := fault } : Reading) ∉ s.mail.readings) :
    exec (.meterReading n N fault) s = .next s := by
  change Machine.execMeterReading n N fault s = _
  unfold Machine.execMeterReading
  dsimp only
  rw [takeOne_none h]

theorem execMeterReading_taken {fault : Bool} {before after : List Reading}
    (hmail : s.mail.readings = before ++ { point := n, totalizer := N, fault := fault } :: after)
    (h : ({ point := n, totalizer := N, fault := fault } : Reading) ∉ before) :
    exec (.meterReading n N fault) s =
      .next (({ s with mail.readings := before ++ after } : State).takeReading
        { point := n, totalizer := N, fault := fault }) := by
  change Machine.execMeterReading n N fault s = _
  unfold Machine.execMeterReading
  dsimp only
  rw [hmail, takeOne_first after h]

end

/-- Settles O44: a delivery that is outstanding is taken, and the state of its meter and the fault flag say by which
lemma. -/
theorem meterReadingFollowsTheMeterState : Obligations.MeterReadingFollowsTheMeterState := by
  intro s n N fault
  refine ⟨execMeterReading_none, fun before after hmail hfirst => ?_⟩
  rw [execMeterReading_taken hmail hfirst]
  refine ⟨fun hp => congrArg _ (State.takeReading_missing hp), fun p hp => ?_⟩
  replace hp : ({ s with mail.readings := before ++ after } : State).point? n = some p := hp
  refine ⟨fun h => congrArg _ ?discarded, fun hmeter hnot hf => congrArg _ ?fails,
    fun hs hf => congrArg _ ?baseline, fun hs hf hv ht => congrArg _ ?held, fun hs hf hv ht => congrArg _ ?third,
    fun hs hf hv h => congrArg _ ?unposted, fun hs hf hv _ a ha => congrArg _ ?posted⟩
  case discarded =>
    rcases h with hs | ⟨hs, rfl⟩
    · exact State.takeReading_meterless hp hs
    · exact (State.takeReading_fault hp (by simp [hs])).trans (State.failMeter_failed hs)
  case fails =>
    subst hf
    exact (State.takeReading_fault hp hmeter).trans (State.failMeter_entered hnot)
  case baseline =>
    subst hf
    exact State.takeReading_baseline hp hs
  case held =>
    subst hf
    exact (State.takeReading_converted hp hs).trans (State.convertReading_held hv ht)
  case third =>
    subst hf
    exact (State.takeReading_converted hp hs).trans (State.convertReading_third hv ht)
  case unposted =>
    subst hf
    exact (State.takeReading_converted hp hs).trans (State.convertReading_unposted hv h)
  case posted =>
    subst hf
    exact (State.takeReading_converted hp hs).trans (State.convertReading_posted hv ha)

end Sys2Proof.Machine
end

section
/-! Where an increment goes: the orders of a point that may take it, and the places of a measured and of an estimated
increment (R135 to R138). -/

namespace Sys2Proof.Machine

/-! ### The orders of a point (R44, R137) -/

theorem Order.live_of_delivering {o : Order}
    (h : (o.state = .running ∨ o.state = .suspended) ∨ o.state = .closing) : o.live = true :=
  Order.holding.live (.inr (or_assoc.1 h))

/-- A slot is a delivery slot at most up to the cut slot (R38). -/
theorem Order.within_iff (o : Order) (u : Nat) :
    u < o.endSlot ∧ u < o.deliveryEnd ↔ u < o.start + o.duration ∧ ∀ c, o.cut = some c → u ≤ c := by
  unfold Order.deliveryEnd Order.endSlot
  cases o.cut with
  | none => simp
  | some c => simp

/-- The order's window contains slot u, at or before its cut slot if it has one. -/
def Order.covers (o : Order) (u : Nat) : Prop :=
  o.start ≤ u ∧ u < o.start + o.duration ∧ ∀ c, o.cut = some c → u ≤ c

theorem Order.estimateTail_eq (o : Order) :
    o.estimateTail = decide (o.state = .closing ∧ o.cut.isSome = true) := by
  simp [Order.estimateTail]

section

variable {b : OrderBook} {n u : Nat} {e : Nat × Order}

/-- A walk over the point chain misses no live order of the point that passes the test. -/
theorem OrderBook.find?_pointChain_none {q : Nat × Order → Bool} (h : (b.pointChain n).find? q = none) :
    ∀ x ∈ b.orders, x.2.point = n → x.2.live = true → ¬q x = true := fun x hx hp hl =>
  List.find?_eq_none.1 h x (OrderBook.mem_pointChain.2 ⟨hx, hp, hl⟩)

theorem OrderBook.dueOrder_some (h : b.dueOrder n = some e) :
    e ∈ b.orders ∧ e.2.point = n ∧ (e.2.state = .running ∨ e.2.state = .suspended) := by
  obtain ⟨hm, hdue, hp⟩ := OrderBook.mem_of_dueOrder (i := e.1) (o := e.2) h
  exact ⟨hm, hp, e.2.due_iff.1 hdue⟩

theorem OrderBook.dueOrder_none (h : b.dueOrder n = none) :
    ∀ x ∈ b.orders, ¬(x.2.point = n ∧ (x.2.state = .running ∨ x.2.state = .suspended)) :=
  fun x hx ⟨hp, hs⟩ => OrderBook.find?_pointChain_none h x hx hp (Order.live_of_delivering (.inl hs))
    (x.2.due_iff.2 hs)

/-- A list read from its end, in chain order. -/
theorem OrderBook.pointChain_reverse_sorted (b : OrderBook) (n : Nat) :
    (b.pointChain n).reverse.Pairwise fun x y => chainLe y x :=
  List.pairwise_reverse.2 (sorted_sortBy_chainBefore _)

theorem OrderBook.closingOrder_some (h : b.closingOrder n = some e) :
    e ∈ b.orders ∧ (e.2.point = n ∧ e.2.state = .closing) ∧
      ∀ x ∈ b.orders, x.2.point = n ∧ x.2.state = .closing → chainLe x e := by
  obtain ⟨hm, hp, -⟩ := OrderBook.mem_pointChain.1 (List.mem_reverse.1 (List.mem_of_find?_eq_some h))
  have hs : e.2.state = .closing := by simpa using List.find?_some h
  refine ⟨hm, ⟨hp, hs⟩, fun x hx ⟨hxp, hxs⟩ => ?_⟩
  have hchain := OrderBook.mem_pointChain.2 ⟨hx, hxp, Order.live_of_delivering (.inr hxs)⟩
  exact find?_least (r := fun x y => chainLe y x) (Or.inr ⟨rfl, le_rfl⟩) (b.pointChain_reverse_sorted n) h
    (List.mem_reverse.2 hchain) (decide_eq_true hxs)

theorem OrderBook.closingOrder_none (h : b.closingOrder n = none) :
    ∀ x ∈ b.orders, ¬(x.2.point = n ∧ x.2.state = .closing) := fun x hx ⟨hp, hs⟩ =>
  List.find?_eq_none.1 h x
    (List.mem_reverse.2 (OrderBook.mem_pointChain.2 ⟨hx, hp, Order.live_of_delivering (.inr hs)⟩))
    (decide_eq_true hs)

/-- The test of the walk for the slot order. -/
theorem slotOrder_test_iff (o : Order) (u : Nat) :
    ((o.due || decide (o.state = .closing)) && decide (o.start ≤ u) && decide (u < o.endSlot) &&
        decide (u < o.deliveryEnd)) = true ↔
      ((o.state = .running ∨ o.state = .suspended) ∨ o.state = .closing) ∧ o.covers u := by
  simp only [Bool.and_eq_true, Bool.or_eq_true, decide_eq_true_iff, o.due_iff, and_assoc, o.within_iff, Order.covers]

theorem OrderBook.slotOrder_some (h : b.slotOrder n u = some e) :
    e ∈ b.orders ∧ e.2.point = n ∧
      ((e.2.state = .running ∨ e.2.state = .suspended) ∨ e.2.state = .closing) ∧ e.2.covers u := by
  obtain ⟨hm, hp, -⟩ := OrderBook.mem_pointChain.1 (List.mem_of_find?_eq_some h)
  have htest := List.find?_some h
  exact ⟨hm, hp, (slotOrder_test_iff e.2 u).1 htest⟩

theorem OrderBook.slotOrder_none (h : b.slotOrder n u = none) :
    ∀ x ∈ b.orders, x.2.point = n →
      ¬(((x.2.state = .running ∨ x.2.state = .suspended) ∨ x.2.state = .closing) ∧ x.2.covers u) :=
  fun x hx hp hs =>
    OrderBook.find?_pointChain_none h x hx hp (Order.live_of_delivering hs.1) ((slotOrder_test_iff x.2 u).2 hs)

end

/-! ### The frost split (R136) -/

theorem OrderBook.backupShare_live {b : OrderBook} {k : Backup} {h i : Nat} {o : Order} (hk : k.order = some h)
    (hn : b.named? h = some (i, o)) (hl : o.live = true) :
    b.backupShare k = .live i (decide (o.state = .closing)) := by
  unfold OrderBook.backupShare
  rw [hk]
  dsimp only
  rw [hn]
  exact if_pos hl

/-- Without an order, or with one that is not live any more, the order share is unordered water. -/
theorem OrderBook.backupShare_place {b : OrderBook} {k : Backup}
    (hk : ∀ h i o, k.order = some h → b.named? h = some (i, o) → o.live = false) :
    (b.backupShare k).place = .unordered := by
  unfold OrderBook.backupShare
  cases hh : k.order with
  | none => rfl
  | some h =>
    dsimp only
    cases hn : b.named? h with
    | none => rfl
    | some e => simp [hk h e.1 e.2 hh hn, ShareOf.place]

/-! ### The places of an increment -/

section

variable {s : State} {n v u : Nat} {p : Point} {k : Backup} {e : Nat × Order}

theorem State.measuredPlaces_frost (hb : p.backup = some k) :
    s.measuredPlaces n p v = frostSplit v k.flow p.frostRate (s.obk.backupShare k) := by
  unfold State.measuredPlaces
  rw [hb]

theorem State.measuredPlaces_due (hb : p.backup = none) (hd : s.obk.dueOrder n = some e) :
    s.measuredPlaces n p v = [(v, .order e.1 false)] := by
  unfold State.measuredPlaces
  simp only [hb, hd]

theorem State.measuredPlaces_closing (hb : p.backup = none) (hd : s.obk.dueOrder n = none)
    (hc : s.obk.closingOrder n = some e) : s.measuredPlaces n p v = [(v, .order e.1 true)] := by
  unfold State.measuredPlaces
  simp only [hb, hd, hc]

theorem State.measuredPlaces_unordered (hb : p.backup = none) (hd : s.obk.dueOrder n = none)
    (hc : s.obk.closingOrder n = none) : s.measuredPlaces n p v = [(v, .unordered)] := by
  unfold State.measuredPlaces
  simp only [hb, hd, hc]

theorem State.estimatedPlaces_frost_slot (hb : p.backup = some k) (ho : s.obk.slotOrder n u = some e) :
    s.estimatedPlaces n p u v = frostSplit v e.2.flow p.frostRate (.live e.1 e.2.estimateTail) := by
  unfold State.estimatedPlaces
  rw [hb, ho]

theorem State.estimatedPlaces_frost_none (hb : p.backup = some k) (ho : s.obk.slotOrder n u = none) :
    s.estimatedPlaces n p u v = frostSplit v 0 p.frostRate .absent := by
  unfold State.estimatedPlaces
  rw [hb, ho]

theorem State.estimatedPlaces_slot (hb : p.backup = none) (ho : s.obk.slotOrder n u = some e) :
    s.estimatedPlaces n p u v = [(v, .order e.1 false)] := by
  unfold State.estimatedPlaces
  rw [hb, ho]

theorem State.estimatedPlaces_unordered (hb : p.backup = none) (ho : s.obk.slotOrder n u = none) :
    s.estimatedPlaces n p u v = [(v, .unordered)] := by
  unfold State.estimatedPlaces
  rw [hb, ho]

end

/-- Settles O45: the three walks over the point chain, and the places of an increment in frost and out of it. -/
theorem incrementsAreAttributed : Obligations.IncrementsAreAttributed := by
  refine ⟨fun b n u => ⟨fun e => OrderBook.dueOrder_some, OrderBook.dueOrder_none,
    fun e => OrderBook.closingOrder_some, OrderBook.closingOrder_none, fun e h => ?slot, fun h x hx hs => ?noSlot⟩,
    fun s n p v u => ⟨fun hb => ?orders, fun k hb => ?frost⟩⟩
  case slot =>
    obtain ⟨hm, hp, hs, hu⟩ := OrderBook.slotOrder_some h
    exact ⟨hm, hs.imp (⟨hp, ·⟩) (⟨hp, ·⟩), hu⟩
  case noSlot =>
    obtain ⟨hs, hu⟩ := hs
    have hp : x.2.point = n := hs.elim And.left And.left
    exact OrderBook.slotOrder_none h x hx hp ⟨hs.imp And.right And.right, hu⟩
  case orders =>
    exact ⟨fun i o => State.measuredPlaces_due hb, fun i o => State.measuredPlaces_closing hb,
      State.measuredPlaces_unordered hb, fun i o => State.estimatedPlaces_slot hb, State.estimatedPlaces_unordered hb⟩
  case frost =>
    refine ⟨fun h i o hk hn hl => ?_, fun hk => ?_, fun i o ho => ?_, State.estimatedPlaces_frost_none hb⟩
    · rw [State.measuredPlaces_frost hb, OrderBook.backupShare_live hk hn hl]
      rfl
    · rw [State.measuredPlaces_frost hb, frostSplit, OrderBook.backupShare_place hk]
    · rw [State.estimatedPlaces_frost_slot hb ho, o.estimateTail_eq]
      rfl

end Sys2Proof.Machine
end

section
/-! METER_REBASE, and the boundary at the meters: the silence test and the estimates (R131, R132, R134). -/

namespace Sys2Proof.Machine

section

variable {s : State} {n t k : Nat} {p : Point}

/-! ### METER_REBASE (R132) -/

theorem reqMeterRebase_range (hn : 1023 < n) : reqMeterRebase n s = (s, refusal .badParam) := if_pos hn

theorem reqMeterRebase_missing (hn : n ≤ 1023) (hp : s.point? n = none) :
    reqMeterRebase n s = (s, refusal .noSuchPoint) := by
  unfold reqMeterRebase
  rw [if_neg (Nat.not_le.2 (Nat.lt_succ_of_le hn)), hp]

theorem reqMeterRebase_point (hn : n ≤ 1023) (hp : s.point? n = some p) :
    reqMeterRebase n s =
      if p.meter.state = .meterless then (s, refusal .wrongState)
      else
        (s.setPoint n { p with meter := { p.meter with state := .rebase, residual := 0, suspects := 0 } },
          answer .done (be8 p.meter.state.code)) := by
  unfold reqMeterRebase
  rw [if_neg (Nat.not_le.2 (Nat.lt_succ_of_le hn)), hp]

/-! ### The silence test (R131) -/

/-- A NORMAL or SUSPECT meter whose station has been SILENT since slot t − 2 or earlier. -/
def State.fallsSilent (s : State) (t n : Nat) (p : Point) : Prop :=
  (p.meter.state = .normal ∨ p.meter.state = .suspect) ∧ (s.station (n / 8)).state = .silent ∧
    ∃ u, (s.station (n / 8)).silentSince = some u ∧ u + 2 ≤ t

theorem State.fallsSilent_iff : s.fallsSilent t n p ↔
    (p.meter.state = .normal ∨ p.meter.state = .suspect) ∧ (s.station (n / 8)).state = .silent ∧
      (s.station (n / 8)).silentSince.any (fun u => decide (u + 2 ≤ t)) = true := by
  simp only [State.fallsSilent, Option.any_eq_true, decide_eq_true_iff]

theorem State.silentMeter_fails (hp : s.point? n = some p) (h : s.fallsSilent t n p) :
    s.silentMeter t n = (s.setPoint n { p with meter.state := .failed }).report .meterFailed (.number n) := by
  have hne : p.meter.state ≠ .failed := by rcases h.1 with hs | hs <;> simp [hs]
  unfold State.silentMeter
  rw [hp]
  exact (if_pos (State.fallsSilent_iff.1 h)).trans (State.failMeter_entered hne)

theorem State.silentMeter_stays (hp : s.point? n = some p) (h : ¬s.fallsSilent t n p) : s.silentMeter t n = s := by
  unfold State.silentMeter
  rw [hp]
  exact if_neg (mt State.fallsSilent_iff.2 h)

/-! ### The estimate of a point (R134) -/

/-- A turnout that is meterless or FAILED. -/
def Point.estimated (p : Point) : Prop :=
  p.kind = .turnout ∧ (p.meter.state = .meterless ∨ p.meter.state = .failed)

theorem State.estimate_metered (hp : s.point? n = some p) (h : ¬p.estimated) : s.estimate k n = s := by
  unfold State.estimate
  by_cases hk : p.kind = .turnout
  · rw [State.turnout?_eq_some hp hk]
    exact if_neg fun hm => h ⟨hk, hm⟩
  · rw [State.turnout?_eq_none fun q hq => Option.some.inj (hp.symm.trans hq) ▸ hk]

/-- The state in which the season counter of a point has taken its estimate. -/
def State.countEstimate (n : Nat) (p : Point) (s : State) : State :=
  s.setPoint n
    { p with meter.seasonEstimated := saturate p.meter.seasonEstimated (p.field.acknowledged * Config.slotLitres) }

theorem State.estimate_unposted (hp : s.point? n = some p) (h : p.estimated) (ha : p.account = none) :
    s.estimate k n = s.countEstimate n p := by
  obtain ⟨hk, hm⟩ := h
  unfold State.estimate
  rw [State.turnout?_eq_some hp hk]
  dsimp only
  rw [if_pos hm]
  split
  · rfl
  · next a hsome => cases ha.symm.trans hsome

theorem State.estimate_posted {a : Nat} (hp : s.point? n = some p) (h : p.estimated) (ha : p.account = some a) :
    s.estimate k n =
      (s.countEstimate n p).postAll a true
        ((s.countEstimate n p).estimatedPlaces n p k (p.field.acknowledged * Config.slotLitres))
        (overflows p.meter.seasonEstimated (p.field.acknowledged * Config.slotLitres)) := by
  obtain ⟨hk, hm⟩ := h
  unfold State.estimate
  rw [State.turnout?_eq_some hp hk]
  dsimp only
  rw [if_pos hm]
  split
  · next hnone => cases hnone.symm.trans ha
  · next b hb =>
    cases hb.symm.trans ha
    rfl

/-! ### METER_BOUNDARY -/

theorem execMeterBoundary_none (h : s.mail.meter = []) : exec .meterBoundary s = .next s := by
  change Machine.execMeterBoundary s = _
  unfold Machine.execMeterBoundary
  rw [h]

theorem execMeterBoundary_taken {rest : List Nat} (h : s.mail.meter = t :: rest) :
    exec .meterBoundary s = .next (({ s with mail.meter := rest } : State).meterBoundary t) := by
  change Machine.execMeterBoundary s = _
  unfold Machine.execMeterBoundary
  rw [h]

end

/-- Settles O47: METER_REBASE by its checks, and METER_BOUNDARY by the silence test and the estimate of one point. -/
theorem rebaseAndBoundaryActOnTheMeters : Obligations.RebaseAndBoundaryActOnTheMeters := by
  intro s
  refine ⟨fun n hh => ⟨fun hn => refuses_of_handed rfl hh (reqMeterRebase_range hn),
    fun hn hp => refuses_of_handed rfl hh (reqMeterRebase_missing hn hp),
    fun hn p hp => ⟨fun hs => ?meterless, fun hs => ?rebased⟩⟩,
    execMeterBoundary_none, fun t rest h => execMeterBoundary_taken h,
    fun t n p hp => ⟨State.silentMeter_fails hp, State.silentMeter_stays hp⟩,
    fun k n p hp => ⟨State.estimate_metered hp, State.estimate_unposted hp, fun h a => State.estimate_posted hp h⟩,
    fun n est short v place rest => ⟨rfl, rfl⟩⟩
  case meterless => exact refuses_of_handed rfl hh ((reqMeterRebase_point hn hp).trans (if_pos hs))
  case rebased => exact completes_of_handed rfl hh ((reqMeterRebase_point hn hp).trans (if_neg hs)) rfl

end Sys2Proof.Machine
end

section
/-! The transfer nets (R151): what the operations leave of them. A step moves them in TRANSFER, in the opening of an
account or of a season, and in a loss of power alone. -/

namespace Sys2Proof.Machine

/-! ### Writes in a table -/

/-- A write leaves the entries of other numbers where they are. -/
theorem mem_setCell_of_mem {α : Type} {t : Table α} {c : Nat × α} (n : Nat) (b : α) (h : c ∈ t) (hc : c.1 ≠ n) :
    c ∈ setCell t n b := by
  induction t with
  | nil => cases h
  | cons e t ih =>
    obtain ⟨j, w⟩ := e
    unfold setCell
    split_ifs with hlt he
    · exact List.mem_cons_of_mem _ h
    · rcases List.mem_cons.1 h with rfl | h
      · exact absurd he.symm hc
      · exact List.mem_cons_of_mem _ h
    · rcases List.mem_cons.1 h with rfl | h
      · exact List.mem_cons_self
      · exact List.mem_cons_of_mem _ (ih h)

/-- A write neither breaks nor mends the rise of the numbers. -/
theorem risingKeys_setCell_eq {α : Type} (t : Table α) (n : Nat) (b : α) :
    risingKeys (setCell t n b) = risingKeys t := by
  refine Bool.eq_iff_iff.2 ⟨fun hset => ?_, risingKeys_setCell n b⟩
  induction t with
  | nil => rfl
  | cons e t ih =>
    obtain ⟨j, w⟩ := e
    unfold setCell at hset
    split_ifs at hset with hlt he
    · exact risingKeys_tail hset
    · subst he
      exact (risingKeys_iff _).2 (List.pairwise_cons.2 (List.pairwise_cons.1 ((risingKeys_iff _).1 hset)))
    · obtain ⟨hhead, htail⟩ := List.pairwise_cons.1 ((risingKeys_iff _).1 hset)
      have hrise := (risingKeys_iff t).1 (ih ((risingKeys_iff _).2 htail))
      refine (risingKeys_iff _).2 (List.pairwise_cons.2 ⟨fun c hc => ?_, hrise⟩)
      by_cases hcn : c.1 = n
      · simp only
        omega
      · exact hhead c (mem_setCell_of_mem n b hc hcn)

/-! ### What R151 reads -/

/-- What R151 reads of the books: whether account numbers stand once, rising, and each account's transfer net. -/
def nets (b : Table Order × Table Account) : Bool × (Nat → Option Int) :=
  (risingKeys b.2, fun n => (cell? b.2 n).map Account.transferNet)

@[simp] theorem nets_ite {c : Prop} [Decidable c] (s t : State) :
    nets (if c then s else t).books = if c then nets s.books else nets t.books := by
  split <;> rfl

@[simp] theorem nets_ite_fst {β : Type} {c : Prop} [Decidable c] (x y : State × β) :
    nets (if c then x else y).1.books = if c then nets x.1.books else nets y.1.books := by
  split <;> rfl

theorem nets_iteAfter {β : Type} {c : Prop} [Decidable c] {x y : State × β} {b : Table Order × Table Account}
    (hx : nets x.1.books = nets b) (hy : nets y.1.books = nets b) :
    nets (if c then x else y).1.books = nets b := by
  rw [nets_ite_fst, hx, hy, ite_self]

theorem foldl_nets {β : Type} {f : State → β → State} (h : ∀ s x, nets (f s x).books = nets s.books) (l : List β)
    (s : State) : nets (l.foldl f s).books = nets s.books :=
  foldl_keeps (fun s : State => nets s.books) f h l s

section

variable {s : State} {n : Nat} {a b : Account}

/-- An account is written with the transfer net it had. -/
theorem State.setAccount_nets (ha : s.account? n = some a) (hb : b.transferNet = a.transferNet) :
    nets (s.setAccount n b).books = nets s.books := by
  refine Prod.ext (risingKeys_setCell_eq _ _ _) (funext fun m => ?_)
  change (cell? (setCell s.accounts n b) m).map _ = (s.account? m).map _
  rw [cell?_setCell]
  split
  · next hm => rw [hm, ha, Option.map_some, Option.map_some, hb]
  · rfl

theorem State.reviseAccount_nets (s : State) (n : Nat) {f : Account → Account}
    (hf : ∀ a, (f a).transferNet = a.transferNet) : nets (s.reviseAccount n f).books = nets s.books := by
  unfold State.reviseAccount
  split
  · rfl
  · next a ha => exact State.setAccount_nets ha (hf a)

end

section

variable (s : State) (i n : Nat) (o : Order)

/-- An order that is written moves its account's figures, not its transfer net. -/
@[simp] theorem State.putOrder_nets : nets (s.putOrder i o).books = nets s.books := by
  cases ha : s.account? o.account with
  | none => rw [State.putOrder_vacant ha]; rfl
  | some a =>
    rw [State.putOrder_eq ha]
    exact State.setAccount_nets (s := { s with obk.orders := setCell s.obk.orders i o }) ha rfl

@[simp] theorem State.retireEntry_nets : nets (s.retireEntry i).books = nets s.books := rfl

/-! ### One order (R47, R49, R55 to R58) -/

@[simp] theorem State.createOrder_nets (q : Ask) (account start slidBy : Nat) (x : OrderState) :
    nets (s.createOrder i q account start slidBy x).books = nets s.books := State.putOrder_nets _ _ _

@[simp] theorem State.cancelOrder_nets (why : CloseReason) :
    nets (s.cancelOrder i o why).books = nets s.books := by
  simp [State.cancelOrder]

@[simp] theorem State.expireOrder_nets : nets (s.expireOrder i o).books = nets s.books := by
  simp [State.expireOrder]

@[simp] theorem State.cutOrder_nets (why : CloseReason) : nets (s.cutOrder i o why).books = nets s.books := by
  simp [State.cutOrder]

@[simp] theorem State.trimOrder_nets (k : Nat) : nets (s.trimOrder i o k).books = nets s.books := by
  simp [State.trimOrder]

@[simp] theorem State.bumpOrder_nets : nets (s.bumpOrder i o).1.books = nets s.books := by
  unfold State.bumpOrder
  split <;> simp

/-! ### Re-examination and expiry (R74 to R77) -/

@[simp] theorem State.reexamineEntry_nets : nets (s.reexamineEntry n).books = nets s.books := by
  unfold State.reexamineEntry
  split
  · rfl
  · split
    · rfl
    · split
      · simp
      · split <;> simp

@[simp] theorem State.reexamine_nets : nets s.reexamine.books = nets s.books :=
  foldl_nets (fun s x => s.reexamineEntry_nets x) _ s

@[simp] theorem State.startReexamination_nets : nets s.startReexamination.books = nets s.books := by
  simp [State.startReexamination]

@[simp] theorem State.expiryStep_nets : nets s.expiryStep.books = nets s.books := by
  refine foldl_nets (fun s x => ?_) _ s
  unfold State.expireEntry
  split <;> simp

/-! ### Placing and firing (R45 to R49, R83) -/

@[simp] theorem State.admitOrder_nets (q : Ask) (account start slidBy : Nat) (c : Calendar) (r : Result) :
    nets (s.admitOrder q account start slidBy c r).1.books = nets s.books := by
  unfold State.admitOrder
  split <;> simp

@[simp] theorem State.queueOrder_nets (q : Ask) (account : Nat) :
    nets (s.queueOrder q account).1.books = nets s.books := by
  unfold State.queueOrder
  split
  · rfl
  · split <;> simp

@[simp] theorem State.slideTries_nets (q : Ask) (reach account : Nat) (failure : Reply) (fuel k : Nat) :
    nets (s.slideTries q reach account failure fuel k).1.books = nets s.books := by
  induction fuel generalizing k with
  | zero =>
    unfold State.slideTries
    split <;> rfl
  | succ fuel ih =>
    unfold State.slideTries
    dsimp only
    split_ifs
    · rfl
    · rfl
    · exact ih _
    · split
      · simp
      · split
        · rfl
        · exact ih _

@[simp] theorem State.placeFirst_nets (q : Ask) (tries : Nat) :
    nets (s.placeFirst q tries).1.books = nets s.books := by
  unfold State.placeFirst
  split
  · rfl
  · split
    · rfl
    · dsimp only
      split
      · rfl
      · split
        · rfl
        · split
          · simp
          · split <;> simp

@[simp] theorem State.placeNext_nets (q : Ask) (tries : Nat) (w : Search) :
    nets (s.placeNext q tries w).1.books = nets s.books := by
  unfold State.placeNext
  split
  · rfl
  · split <;> simp

@[simp] theorem placeEvent_nets (q : Ask) (tries : Nat) : nets (placeEvent q tries s).1.books = nets s.books := by
  unfold placeEvent
  dsimp only
  cases s.obk.search with
  | none => split <;> simp
  | some w => split <;> simp

@[simp] theorem State.fire_nets (x : Nat) (m : Template) : nets (s.fire x m).books = nets s.books := by
  simp [State.fire]

@[simp] theorem State.firingStep_nets (u : Nat) : nets (s.firingStep u).books = nets s.books :=
  foldl_nets (fun s e => by simp) _ s

/-! ### Amend and cancel (R51 to R57), suspend (R15), retire (R160) -/

@[simp] theorem State.amendDue_nets (x e : Nat) : nets (s.amendDue x i o e).1.books = nets s.books := by
  unfold State.amendDue
  dsimp only
  split
  · rfl
  · split
    · rfl
    · split
      · split
        · rfl
        · split
          · split <;> simp
          · rfl
      · simp

@[simp] theorem State.amendConfirmed_nets (x f e : Nat) :
    nets (s.amendConfirmed x i o f e).1.books = nets s.books := by
  unfold State.amendConfirmed
  dsimp only
  split
  · rfl
  · split
    · rfl
    · split
      · rfl
      · split <;> simp

@[simp] theorem amendBook_nets (handle : Nat) (flow endSlot : Option Nat) :
    nets (amendBook handle flow endSlot s).1.books = nets s.books := by
  unfold amendBook
  split
  · rfl
  · simp

@[simp] theorem State.cancelOne_nets (endRunning : Bool) (acc : State × CancelCounts) :
    nets (State.cancelOne endRunning i acc).1.books = nets acc.1.books := by
  unfold State.cancelOne
  split
  · rfl
  · split <;> simp

@[simp] theorem State.cancelMany_nets (chain : List (Nat × Order)) (endRunning : Bool) :
    nets (s.cancelMany chain endRunning).1.books = nets s.books := by
  have hchain : nets (s.cancelChain chain endRunning).1.books = nets s.books :=
    foldl_keeps (fun acc : State × CancelCounts => nets acc.1.books) _ (fun acc e => by simp) chain (s, _)
  simp [State.cancelMany, hchain]

@[simp] theorem State.cancelNamed_nets (handle : Nat) : nets (s.cancelNamed handle).1.books = nets s.books := by
  unfold State.cancelNamed
  split
  · rfl
  · split <;> simp

@[simp] theorem State.suspendAll_nets (l : List (Nat × Order)) :
    nets (l.foldl (fun s e => s.suspendOne e) s).books = nets s.books := by
  refine foldl_nets (fun s e => ?_) l s
  unfold State.suspendOne
  split <;> simp

@[simp] theorem State.retireFinished_nets : nets (s.retireFinished n).books = nets s.books := by
  unfold State.retireFinished
  exact foldl_nets (fun s (e : Nat × Order) => s.retireEntry_nets e.1) _ s

@[simp] theorem State.closePeriod_nets : nets (s.closePeriod n).books = nets s.books := by
  unfold State.closePeriod
  split
  · rfl
  · next a ha => exact (State.retireFinished_nets _ n).trans (State.setAccount_nets ha rfl)

/-! ### The boundary (R61 to R64) -/

@[simp] theorem State.closeStep_nets (u : Nat) : nets (s.closeStep u).1.books = nets s.books := by
  refine foldl_keeps (fun acc : State × Bool => nets acc.1.books) _ (fun acc e => ?_) _ (s, false)
  unfold closeOne
  dsimp only
  split <;> simp

@[simp] theorem State.endStep_nets (u : Nat) : nets (s.endStep u).books = nets s.books := by
  refine foldl_nets (fun s e => ?_) _ s
  unfold endOne
  dsimp only
  split <;> simp

@[simp] theorem State.startStep_nets (u : Nat) : nets (s.startStep u).books = nets s.books := by
  refine foldl_nets (fun s e => ?_) _ s
  unfold startOne
  dsimp only
  split
  · split <;> simp
  · rfl

@[simp] theorem State.noticeStep_nets (ps : List Nat) : nets (s.noticeStep ps).books = nets s.books :=
  foldl_nets (fun s p => congrArg nets (s.notify_books p _)) _ s

@[simp] theorem State.bookBoundary_nets (u : Nat) : nets (s.bookBoundary u).books = nets s.books := by
  simp [State.bookBoundary]

/-! ### Modes (R65, R90 to R100) -/

@[simp] theorem State.alignOrder_nets (m : Mode) : nets (s.alignOrder n m).books = nets s.books := by
  unfold State.alignOrder
  split
  · rfl
  · simp

@[simp] theorem State.changeMode_nets (m : Mode) : nets (s.changeMode n m).books = nets s.books := by
  unfold State.changeMode
  split
  · rfl
  · simp

@[simp] theorem State.switchLocal_nets : nets (s.switchLocal n).books = nets s.books := by
  unfold State.switchLocal
  split
  · rfl
  · dsimp only
    split <;> simp

@[simp] theorem State.switchRemote_nets : nets (s.switchRemote n).books = nets s.books := by
  unfold State.switchRemote
  split
  · rfl
  · dsimp only
    split <;> simp

@[simp] theorem State.takeGate_nets (g : GateNews) : nets (s.takeGate g).books = nets s.books := by
  unfold State.takeGate
  split
  · rfl
  · cases g.switch <;> simp

@[simp] theorem State.enablePoint_nets (p : Point) : nets (s.enablePoint n p).books = nets s.books := by
  simp [State.enablePoint]

@[simp] theorem State.closePoint_nets (p : Point) : nets (s.closePoint n p).books = nets s.books := by
  simp [State.closePoint]

@[simp] theorem State.leavePoint_nets (p : Point) : nets (s.leavePoint n p).books = nets s.books := by
  simp [State.leavePoint]

@[simp] theorem State.endAnswered_nets (x : Transaction) (frame : List Byte) :
    nets (s.endAnswered x frame).books = nets s.books := by
  have hidle : nets (s.lineIdle.stationAnswered x.job.station).books = nets s.books := rfl
  unfold State.endAnswered
  dsimp only
  split
  · exact (foldl_nets (fun s c => congrArg nets (deliverChannel_books s _ frame c)) _ _).trans hidle
  · simp [hidle, State.setRefused]

/-! ### Postings and meters (chapter 7) -/

@[simp] theorem State.postOrder_nets (v : Nat) (estimated : Bool) (place : Place) :
    nets (s.postOrder v estimated place).books = nets s.books := by
  unfold State.postOrder
  split
  · split <;> simp
  · rfl
  · rfl

/-- A posting charges an account and leaves its transfer net (R152 to R156). -/
theorem Account.post_transferNet (x : Tariff) (k : Bucket) (v : Nat) (estimated : Bool) (a : Account) :
    (a.post x k v estimated).transferNet = a.transferNet := by
  unfold Account.post
  cases k <;> rfl

@[simp] theorem State.post_nets (v : Nat) (estimated : Bool) (place : Place) (short : Bool) :
    nets (s.post n v estimated place short).books = nets s.books := by
  unfold State.post
  split
  · rfl
  · next a _ =>
    have hposted := (s.postOrder v estimated place).reviseAccount_nets n
      (Account.post_transferNet (s.tariff a.cls) place.bucket v estimated)
    simp [hposted]

@[simp] theorem State.postAll_nets (estimated : Bool) (l : List (Nat × Place)) (short : Bool) :
    nets (s.postAll n estimated l short).books = nets s.books := by
  induction l generalizing s short with
  | nil => rfl
  | cons e l ih => simp [State.postAll, ih]

@[simp] theorem State.convertReading_nets (p : Point) (totalizer : Nat) :
    nets (s.convertReading n p totalizer).books = nets s.books := by
  unfold State.convertReading
  split
  · split <;> simp
  · split <;> simp

@[simp] theorem State.takeReading_nets (g : Reading) : nets (s.takeReading g).books = nets s.books := by
  unfold State.takeReading
  split
  · rfl
  · split <;> simp

@[simp] theorem State.estimate_nets (u : Nat) : nets (s.estimate u n).books = nets s.books := by
  unfold State.estimate
  split
  · rfl
  · split
    · dsimp only
      split <;> simp
    · rfl

@[simp] theorem State.meterBoundary_nets (u : Nat) : nets (s.meterBoundary u).books = nets s.books :=
  (foldl_nets (fun s n => s.estimate_nets n (u - 1)) _ _).trans (congrArg nets (s.silenceTest_books u))

/-! ### Sweep steps (R170 to R179) -/

@[simp] theorem State.accountChanged_nets : nets (s.accountChanged n).books = nets s.books := by
  unfold State.accountChanged
  split
  · rfl
  · next a ha =>
    rw [State.tally_books]
    exact State.setAccount_nets ha rfl

@[simp] theorem State.trimOne_nets (e : Nat) : nets (s.trimOne i o e).books = nets s.books := by
  simp [State.trimOne]

@[simp] theorem State.trimLoop_nets (fuel : Nat) (acc : State × Bool) :
    nets (State.trimLoop n fuel acc).1.books = nets acc.1.books := by
  induction fuel generalizing acc with
  | zero => rfl
  | succ fuel ih =>
    unfold State.trimLoop
    split
    · rfl
    · split
      · rfl
      · rw [ih]; simp

@[simp] theorem State.drainOne_nets : nets (s.drainOne i o).books = nets s.books := by
  simp [State.drainOne]

@[simp] theorem State.drainLoop_nets (fuel : Nat) (acc : State × Bool) :
    nets (State.drainLoop n fuel acc).1.books = nets acc.1.books := by
  induction fuel generalizing acc with
  | zero => rfl
  | succ fuel ih =>
    unfold State.drainLoop
    split
    · rfl
    · split
      · rfl
      · rw [ih]; simp

@[simp] theorem State.curtailAccount_nets (a : Account) (q : Nat) (d : Drain) :
    nets (s.curtailAccount n a q d).books = nets s.books := by
  have hshare := s.reviseAccount_nets n (f := fun a => { a with curtailment := q }) fun _ => rfl
  cases d <;> simp [State.curtailAccount, hshare]

@[simp] theorem State.curtailVisit_nets (w : Sweep) : nets (s.curtailVisit w).books = nets s.books := by
  unfold State.curtailVisit
  split <;> simp

@[simp] theorem State.closeVisit_nets (w : Sweep) : nets (s.closeVisit w).books = nets s.books := by
  unfold State.closeVisit
  split <;> simp

@[simp] theorem State.seasonAccount_nets : nets (s.seasonAccount n).books = nets s.books := by
  unfold State.seasonAccount
  dsimp only
  rw [State.accountChanged_nets]
  refine Eq.trans ?_ (s.closePeriod_nets n)
  split
  · rfl
  · next a ha => exact State.setAccount_nets ha rfl

@[simp] theorem State.seasonVisit_nets (w : Sweep) : nets (s.seasonVisit w).books = nets s.books := by
  unfold State.seasonVisit
  split <;> simp

@[simp] theorem State.bumpSlot_nets (u : Nat) : nets (s.bumpSlot u).books = nets s.books := by
  have hbump : ∀ (s : State) e, nets (bumpOne u s e).books = nets s.books := fun s e => by simp [bumpOne]
  simp [State.bumpSlot, foldl_nets hbump]

@[simp] theorem State.bumpVisit_nets (w : Sweep) : nets (s.bumpVisit w).books = nets s.books := by
  simp [State.bumpVisit]

end

end Sys2Proof.Machine
end

section
/-! The sum of the transfer nets (R151), and the three operations that move a net: TRANSFER, the opening of an account
and the opening of a season. -/

namespace Sys2Proof.Machine

/-! ### The sum of the transfer nets -/

/-- The transfer nets of a table of accounts, with their numbers. -/
def netTable (t : Table Account) : Table Int := t.map (fun e => (e.1, e.2.transferNet))

theorem risingKeys_netTable {t : Table Account} (h : risingKeys t = true) : risingKeys (netTable t) = true :=
  risingKeys_map (fun e : Nat × Account => e.2.transferNet) h

theorem State.netSum_eq (s : State) : s.netSum = ((netTable s.accounts).map Prod.snd).sum := by
  simp [State.netSum, netTable, Function.comp_def]

/-- Where account numbers rise, the sum depends on what is read of the accounts alone. -/
theorem State.netSum_of_nets {s t : State} (hs : risingKeys s.accounts = true) (ht : risingKeys t.accounts = true)
    (h : nets t.books = nets s.books) : t.netSum = s.netSum := by
  have hread : ∀ n, cell? (netTable t.accounts) n = cell? (netTable s.accounts) n := by
    intro n
    rw [netTable, netTable, cell?_map, cell?_map]
    exact congrFun (Prod.mk.inj h).2 n
  have hnodup : ∀ {u : Table Account}, risingKeys u = true → (netTable u).Nodup :=
    fun hu => (nodup_numbers (risingKeys_netTable hu)).of_map _
  have hperm : (netTable t.accounts).Perm (netTable s.accounts) := by
    refine (List.perm_ext_iff_of_nodup (hnodup ht) (hnodup hs)).2 fun e => ⟨fun he => ?_, fun he => ?_⟩
    · exact mem_of_cell? ((hread e.1).symm.trans (cell?_of_mem (risingKeys_netTable ht) he))
    · exact mem_of_cell? ((hread e.1).trans (cell?_of_mem (risingKeys_netTable hs) he))
  rw [State.netSum_eq, State.netSum_eq]
  exact (hperm.map Prod.snd).sum_eq

theorem balanced_of_nets {s t : State} (h : s.balanced) (hn : nets t.books = nets s.books) : t.balanced := by
  obtain ⟨hrise, hsum⟩ := h
  have hrise' : risingKeys t.accounts = true := (Prod.mk.inj hn).1.trans hrise
  exact ⟨hrise', (State.netSum_of_nets hrise hrise' hn).trans hsum⟩

/-- An account's transfer net, 0 for a VACANT one. -/
def State.netOf (s : State) (n : Nat) : Int := ((s.account? n).map Account.transferNet).getD 0

/-- In a table with rising numbers, a number below the first is not listed. -/
theorem cell?_below {α : Type} {n j : Nat} {w : α} {t : Table α} (h : risingKeys ((j, w) :: t) = true) (hn : n < j) :
    cell? ((j, w) :: t) n = none := by
  refine Option.eq_none_iff_forall_ne_some.2 fun a ha => ?_
  rcases List.mem_cons.1 (mem_of_cell? ha) with he | hm
  · cases he
    omega
  · have := (List.pairwise_cons.1 ((risingKeys_iff _).1 h)).1 _ hm
    simp only at this
    omega

/-- A write moves the sum by what it moves the one transfer net. -/
theorem sum_setCell_transferNet {t : Table Account} (n : Nat) (b : Account) (h : risingKeys t = true) :
    ((setCell t n b).map (fun e => e.2.transferNet)).sum =
      (t.map (fun e => e.2.transferNet)).sum + b.transferNet - ((cell? t n).map Account.transferNet).getD 0 := by
  induction t with
  | nil => simp [setCell]
  | cons e t ih =>
    obtain ⟨j, w⟩ := e
    by_cases hlt : n < j
    · simp [setCell, hlt, cell?_below h hlt]
      omega
    · by_cases he : n = j
      · subst he
        simp [setCell, cell?_cons]
        omega
      · have := ih (risingKeys_tail h)
        simp only [setCell, hlt, he, Ne.symm he, if_false, List.map_cons, List.sum_cons, cell?_cons]
        omega

section

variable {s : State} {n : Nat} {a b : Account}

theorem State.setAccount_netSum (b : Account) (h : risingKeys s.accounts = true) :
    (s.setAccount n b).netSum = s.netSum + b.transferNet - s.netOf n :=
  sum_setCell_transferNet n b h

theorem State.reviseAccount_netSum {f : Account → Account} (h : risingKeys s.accounts = true)
    (ha : s.account? n = some a) :
    (s.reviseAccount n f).netSum = s.netSum + (f a).transferNet - a.transferNet := by
  have hold : s.netOf n = a.transferNet := by rw [State.netOf, ha]; rfl
  simp only [State.reviseAccount, ha]
  rw [State.setAccount_netSum _ h, hold]
  rfl

theorem State.reviseAccount_rising {f : Account → Account} (h : risingKeys s.accounts = true) :
    risingKeys (s.reviseAccount n f).accounts = true := by
  unfold State.reviseAccount
  split
  · exact h
  · exact risingKeys_setCell _ _ h

/-- What one account gives, the other takes (R150). -/
theorem balanced_moveLitres {g k : Nat} (v : Nat) (h : s.balanced) (hgk : g ≠ k) (hg : s.account? g = some a)
    (hk : s.account? k = some b) : (s.moveLitres g k v).balanced := by
  obtain ⟨hrise, hsum⟩ := h
  refine ⟨State.reviseAccount_rising (State.reviseAccount_rising hrise), ?_⟩
  rw [State.moveLitres, State.reviseAccount_netSum (State.reviseAccount_rising hrise)
    (((s.reviseAccount_account? g _ k).trans (if_neg hgk.symm)).trans hk), State.reviseAccount_netSum hrise hg]
  dsimp only
  omega

/-- An account opened from VACANT has moved no litres. -/
theorem balanced_openAccount (cls base : Nat) (h : s.balanced) (hn : s.account? n = none) :
    (s.setAccount n (.fresh cls base)).balanced := by
  obtain ⟨hrise, hsum⟩ := h
  refine ⟨risingKeys_setCell _ _ hrise, ?_⟩
  rw [State.setAccount_netSum _ hrise, State.netOf, hn, hsum]
  rfl

/-- A season opens with every transfer net at 0 (R178). -/
theorem balanced_openSeason (h : s.balanced) : s.openSeason.balanced := by
  obtain ⟨hrise, -⟩ := h
  have hopened : State.balanced { s with accounts := s.accounts.map (fun e => (e.1, e.2.opening)) } := by
    refine ⟨risingKeys_map (fun e => e.2.opening) hrise, List.sum_eq_zero fun x hx => ?_⟩
    simp only [List.map_map, List.mem_map, Function.comp_apply] at hx
    obtain ⟨e, -, rfl⟩ := hx
    rfl
  exact balanced_of_nets hopened (by simp [State.openSeason])

end

end Sys2Proof.Machine
end

section
/-! Every request at its owning block keeps the sum of the transfer nets at zero (R151). -/

namespace Sys2Proof.Machine

/-! ### Requests that move no transfer net -/

section

variable (s : State) (n : Nat)

theorem State.settle_nets {r : State × Reply} (h : nets r.1.books = nets s.books) :
    nets (s.settle r).1.books = nets s.books := by
  simp [State.settle, h]

@[simp] theorem State.reconfigure_nets (old new : Reach) : nets (s.reconfigure n old new).books = nets s.books := by
  unfold State.reconfigure
  dsimp only
  split <;> simp

theorem reqReachSet_nets (a r : Nat) (p : Option Nat) (q l : Nat) :
    nets (reqReachSet a r p q l s).1.books = nets s.books := by
  unfold reqReachSet
  split
  · refine nets_iteAfter rfl (nets_iteAfter rfl (nets_iteAfter rfl ?_))
    split <;> simp
  · refine nets_iteAfter rfl ?_
    split <;> simp
  · rfl

theorem reqPointSet_nets (k r a f g m i : Nat) :
    nets (reqPointSet n k r a f g m i s).1.books = nets s.books := by
  have hgiven : ∀ k o c, nets (s.givePoint n k r o f g c).1.books = nets s.books := by
    intro k o c
    unfold State.givePoint
    split
    · rfl
    · dsimp only
      split <;> simp
  refine nets_iteAfter rfl ?_
  dsimp only
  split
  · unfold State.clearPoint
    split <;> simp
  · exact hgiven _ _ _
  · exact hgiven _ _ _

theorem reqAccountSuspend_nets : nets (reqAccountSuspend n s).1.books = nets s.books := by
  unfold reqAccountSuspend
  split
  · rfl
  · split
    · rfl
    · next a ha =>
      have hset : nets (s.setAccount n (a.revise fun a => { a with state := .suspended })).books = nets s.books :=
        State.setAccount_nets ha rfl
      simp [hset]

theorem reqAccountResume_nets : nets (reqAccountResume n s).1.books = nets s.books := by
  unfold reqAccountResume
  split
  · rfl
  · split
    · rfl
    · next a ha =>
      have hset : nets (s.setAccount n (a.revise fun a => { a with state := .opened })).books = nets s.books :=
        State.setAccount_nets ha rfl
      simp [hset]

theorem reqAccountClose_nets : nets (reqAccountClose n s).1.books = nets s.books := by
  unfold reqAccountClose
  split
  · rfl
  · split
    · rfl
    · next a ha =>
      have hset : nets (s.setAccount n (a.revise fun a => { a with state := .closed })).books = nets s.books :=
        State.setAccount_nets ha rfl
      simp [hset]

theorem reqPeriodClose_nets (c r : Nat) : nets (reqPeriodClose c r s).1.books = nets s.books := by
  unfold reqPeriodClose
  split
  · refine nets_iteAfter rfl (nets_iteAfter rfl ?_)
    split <;> simp
  · simp [State.closeScopePeriod]
  · simp [State.closeScopePeriod]
  · rfl

theorem reqCurtail_nets (c k b z q d : Nat) : nets (reqCurtail c k b z q d s).1.books = nets s.books := by
  unfold reqCurtail
  split
  · rfl
  · refine nets_iteAfter rfl (nets_iteAfter rfl ?_)
    dsimp only
    split <;> simp

theorem reqClockSet_nets (m : Nat) : nets (reqClockSet m s).1.books = nets s.books := by
  simp [reqClockSet]

theorem reqSupplySet_nets (first count flow : Nat) :
    nets (reqSupplySet first count flow s).1.books = nets s.books := by
  refine nets_iteAfter rfl (nets_iteAfter rfl (nets_iteAfter rfl ?_))
  unfold State.writeSupplies
  dsimp only
  split <;> simp

@[simp] theorem reqPlace_nets (p u d f o l k : Nat) : nets (reqPlace p u d f o l k s).1.books = nets s.books := by
  unfold reqPlace
  split
  · rfl
  · dsimp only
    split
    · simp
    · split <;> simp

theorem reqCancel_nets (c r o : Nat) : nets (reqCancel c r o s).1.books = nets s.books := by
  refine s.settle_nets ?_
  unfold cancelBook
  split
  · simp
  · split
    · rfl
    · split <;> simp
  · split
    · rfl
    · split <;> simp
  · rfl

theorem reqRetire_nets (x : Nat) : nets (reqRetire x s).1.books = nets s.books := by
  unfold reqRetire
  split
  · rfl
  · simp

theorem reqNextChanged_nets : nets (reqNextChanged s).1.books = nets s.books := by
  unfold reqNextChanged
  split
  · rfl
  · dsimp only
    split <;> rfl

theorem reqStandingSet_nets (x p o d f c : Nat) (k : Option Nat) :
    nets (reqStandingSet x p o d f c k s).1.books = nets s.books := by
  unfold reqStandingSet
  split
  · rfl
  · split
    · rfl
    · split <;> rfl

theorem reqStandingResume_nets (x : Nat) : nets (reqStandingResume x s).1.books = nets s.books := by
  unfold reqStandingResume
  split
  · rfl
  · split
    · rfl
    · simp

theorem reqStandingClear_nets (x : Nat) : nets (reqStandingClear x s).1.books = nets s.books := by
  unfold reqStandingClear
  split <;> rfl

theorem reqPointEnable_nets : nets (reqPointEnable n s).1.books = nets s.books := by
  unfold reqPointEnable
  split
  · rfl
  · split <;> simp

theorem reqPointDisable_nets (a : Nat) : nets (reqPointDisable n a s).1.books = nets s.books := by
  unfold reqPointDisable
  split
  · rfl
  · split <;> simp

theorem reqLocalAck_nets : nets (reqLocalAck n s).1.books = nets s.books := by
  unfold reqLocalAck
  split
  · rfl
  · split <;> simp

theorem reqFrostCall_nets (c r : Nat) : nets (reqFrostCall c r s).1.books = nets s.books := by
  simp [reqFrostCall, foldl_books s State.enterFrost_books]

theorem reqFrostEnd_nets (c r : Nat) : nets (reqFrostEnd c r s).1.books = nets s.books := by
  simp [reqFrostEnd, foldl_books s State.leaveFrost_books]

theorem reqFieldStart_nets : nets (reqFieldStart s).1.books = nets s.books := by
  unfold reqFieldStart
  split <;> simp

theorem reqFieldStop_nets : nets (reqFieldStop s).1.books = nets s.books := by
  unfold reqFieldStop
  split <;> simp

theorem reqResume_nets : nets (reqResume s).1.books = nets s.books := by
  unfold reqResume
  split <;> simp

theorem reqMeterRebase_nets : nets (reqMeterRebase n s).1.books = nets s.books := by
  unfold reqMeterRebase
  split
  · rfl
  · split <;> simp

/-- A query hands the state back. -/
theorem nets_of_query {r : State × Reply} {a : Reply} (hr : r = (s, a)) : nets r.1.books = nets s.books := by
  rw [hr]

end

/-! ### Requests that may move one -/

section

variable {s : State}

theorem balanced_reqAccountSet (n c b : Nat) (h : s.balanced) : (reqAccountSet n c b s).1.balanced := by
  unfold reqAccountSet
  split
  · exact h
  · split
    · next hn => exact balanced_openAccount c b h hn
    · next a ha =>
      have hset : nets (s.setAccount n (a.revise (Account.reset c b))).books = nets s.books :=
        State.setAccount_nets ha rfl
      exact balanced_of_nets h (by simp [hset])

theorem balanced_reqTransfer (g k v : Nat) (h : s.balanced) : (reqTransfer g k v s).1.balanced := by
  unfold reqTransfer
  split
  · exact h
  · next hrange =>
    have hgk : g ≠ k := fun he => hrange (.inr (.inr (.inl he)))
    split
    · next a b ha hb =>
      have hmoved := balanced_moveLitres v h hgk ha hb
      split
      · exact h
      · split
        · exact h
        · split
          · exact h
          · exact balanced_of_nets hmoved (by simp)
    · exact h

theorem balanced_reqSeasonOpen (h : s.balanced) : (reqSeasonOpen s).1.balanced := by
  unfold reqSeasonOpen
  split
  · exact h
  · split
    · exact h
    · exact balanced_openSeason h

theorem balanced_reqNextAccountChanged (h : s.balanced) : (reqNextAccountChanged s).1.balanced := by
  unfold reqNextAccountChanged
  split
  · exact h
  · next n a rest he =>
    have hm : (n, a) ∈ s.marked := he ▸ List.mem_cons_self
    exact balanced_of_nets h (State.setAccount_nets (cell?_of_mem h.1 (List.mem_of_mem_filter hm)) rfl)

/-! ### Every request -/

theorem balanced_runRequest (c : Instr) (h : s.balanced) : (runRequest c s).1.balanced := by
  cases c
  case accountSet a c b => exact balanced_reqAccountSet a c b h
  case transfer g k v => exact balanced_reqTransfer g k v h
  case seasonOpen => exact balanced_reqSeasonOpen h
  case nextAccountChanged => exact balanced_reqNextAccountChanged h
  all_goals refine balanced_of_nets h ?_
  case reachSet a r p q l => exact reqReachSet_nets s a r p q l
  case reachQuery n => exact nets_of_query s (reqReachQuery_eq n s)
  case pointSet p k r a f q m i => exact reqPointSet_nets s p k r a f q m i
  case pointQuery n => exact nets_of_query s (reqPointQuery_eq n s)
  case accountQuery a p => exact nets_of_query s (reqAccountQuery_eq a p s)
  case accountSuspend a => exact reqAccountSuspend_nets s a
  case accountResume a => exact reqAccountResume_nets s a
  case accountClose a => exact reqAccountClose_nets s a
  case tariffSet => exact (nets_ite_fst _ _).trans (ite_self _)
  case tariffQuery c => exact nets_of_query s (reqTariffQuery_eq c s)
  case clockSet m => exact reqClockSet_nets s m
  case capacityQuery r f n => exact nets_of_query s (reqCapacityQuery_eq r f n s)
  case supplySet f n w => exact reqSupplySet_nets s f n w
  case place p u d f o l n => exact reqPlace_nets s p u d f o l n
  case amend x f e => exact s.settle_nets (amendBook_nets s x f e)
  case cancel c r o => exact reqCancel_nets s c r o
  case orderQuery x => exact nets_of_query s (reqOrderQuery_eq x s)
  case retire x => exact reqRetire_nets s x
  case nextChanged => exact reqNextChanged_nets s
  case waitlistQuery k => exact nets_of_query s (reqWaitlistQuery_eq k s)
  case standingSet x p o d f c n => exact reqStandingSet_nets s x p o d f c n
  case standingResume x => exact reqStandingResume_nets s x
  case standingClear x => exact reqStandingClear_nets s x
  case standingQuery x => exact nets_of_query s (reqStandingQuery_eq x s)
  case pointEnable n => exact reqPointEnable_nets s n
  case pointDisable n a => exact reqPointDisable_nets s n a
  case localAck n => exact reqLocalAck_nets s n
  case frostCall c r => exact reqFrostCall_nets s c r
  case frostEnd c r => exact reqFrostEnd_nets s c r
  case fieldStart => exact reqFieldStart_nets s
  case fieldStop => exact reqFieldStop_nets s
  case resume => exact reqResume_nets s
  case stationQuery a => exact nets_of_query s (reqStationQuery_eq a s)
  case meterRebase n => exact reqMeterRebase_nets s n
  case meterQuery n => exact nets_of_query s (reqMeterQuery_eq n s)
  case periodClose c r => exact reqPeriodClose_nets s c r
  case statementQuery n => exact nets_of_query s (reqStatementQuery_eq n s)
  case curtail c k b z q d => exact reqCurtail_nets s c k b z q d
  case errorClear => exact (nets_ite_fst _ _).trans (ite_self _)
  case severitySet => exact (nets_ite_fst _ _).trans (ite_self _)
  case countSelect => exact (nets_ite_fst _ _).trans (ite_self _)
  all_goals rfl

end

end Sys2Proof.Machine
end

section
/-! Every step keeps the sum of the transfer nets at zero (R151). -/

namespace Sys2Proof.Machine

/-- From a state whose transfer nets sum to zero, the outcome is no state whose nets do not. -/
def Balances (s : State) (r : Host.Outcome State Fault Refusal) : Prop := s.balanced → ∀ t, r = .next t → t.balanced

namespace Balances

variable {s t : State}

theorem next (h : s.balanced → t.balanced) : Balances s (.next t) := by
  rintro hs _ ⟨⟩
  exact h hs

theorem kept (h : nets t.books = nets s.books) : Balances s (.next t) := next fun hs => balanced_of_nets hs h

theorem unchanged : Balances s (.next s) := kept rfl

theorem ite {c : Prop} [Decidable c] {x y : Host.Outcome State Fault Refusal} (hx : Balances s x)
    (hy : Balances s y) : Balances s (if c then x else y) := by
  split
  · exact hx
  · exact hy

end Balances

section

variable (s : State)

/-! ### Requests -/

theorem balances_request {c : Instr} (hc : (requestBytes c).isSome = true) (hp : isPlace c = false)
    (hs : c ≠ .softReset) : Balances s (exec c s) := by
  obtain ⟨act, hact, hrun⟩ := exec_of_request hc hp hs
  rw [hact]
  refine .ite (.next fun h => ?_) .unchanged
  have hdone := balanced_runRequest c h
  rw [hrun] at hdone
  exact balanced_of_nets hdone rfl

theorem balances_place (p u d f o l k : Nat) : Balances s (execPlace p u d f o l k s) := by
  have hplaced := reqPlace_nets s p u d f o l k
  refine .ite ?_ .unchanged
  dsimp only
  split
  · exact .kept hplaced
  · exact .kept hplaced

/-! ### Transactions, resets and power (chapter 11) -/

theorem balances_command (m : Clocked) : Balances s (execCommand m s) := by
  refine .kept ?_
  split_ifs
  · unfold State.takeFrame
    split <;> rfl
  · rfl
  · rfl

theorem balances_fetch (bits : Nat) : Balances s (execFetch bits s) := by
  unfold execFetch
  split
  · exact .kept rfl
  · exact .kept (by split <;> rfl)

theorem balances_resetAsserted : Balances s (execResetAsserted s) :=
  .ite .unchanged (.kept (by simp))

theorem balances_orphanCompletion : Balances s (execOrphanCompletion s) := by
  refine .ite ?_ .unchanged
  cases s.port.executing? with
  | none => exact .unchanged
  | some c =>
    dsimp only
    split
    · exact .next fun h => balanced_runRequest c h
    · next a _ =>
      refine .next fun h => balanced_of_nets (balanced_runRequest c h) ?_
      exact congrArg nets (State.markHandle_books _ a.names)

/-- No account exists after a loss of power. -/
theorem balances_powered (p : Power) : Balances s (.next (s.powered p)) := .next fun _ => ⟨rfl, rfl⟩

/-! ### The minute and the boundary (chapters 2 to 5, 7 and 9) -/

theorem balances_orderBookBoundary : Balances s (execOrderBookBoundary s) := by
  unfold execOrderBookBoundary
  split
  · exact .unchanged
  · exact .kept (by simp)

theorem balances_scheduledOrderNotice (n : Nat) : Balances s (execScheduledOrderNotice n s) := by
  unfold execScheduledOrderNotice
  split
  · exact .unchanged
  · exact .kept (by simp)

theorem balances_releaseControlBoundary : Balances s (execReleaseControlBoundary s) := by
  unfold execReleaseControlBoundary
  split
  · exact .unchanged
  · exact .kept (by simp)

theorem balances_meterBoundary : Balances s (execMeterBoundary s) := by
  unfold execMeterBoundary
  split
  · exact .unchanged
  · exact .kept (by simp)

theorem balances_sweepBoundary : Balances s (execSweepBoundary s) := by
  unfold execSweepBoundary
  split
  · exact .unchanged
  · exact .kept (by simp)

/-! ### The field line and its deliveries (chapters 5 to 7) -/

theorem balances_outFrameSent : Balances s (execOutFrameSent s) := by
  unfold execOutFrameSent
  split
  · exact .unchanged
  · exact .ite (.kept rfl) .unchanged

theorem balances_attemptDeadline : Balances s (execAttemptDeadline s) := by
  unfold execAttemptDeadline
  split
  · exact .unchanged
  · exact .ite .unchanged (.ite (.kept (by simp)) (.kept rfl))

theorem balances_replyKindByte (a k : Byte) : Balances s (execReplyKindByte a k s) := by
  unfold execReplyKindByte
  split
  · exact .unchanged
  · refine .ite ?_ .unchanged
    split
    · exact .kept rfl
    · exact .kept (by simp)

theorem balances_fieldReply (f : List Byte) : Balances s (execFieldReply f s) := by
  unfold execFieldReply
  split
  · exact .unchanged
  · refine .ite .unchanged ?_
    split
    · exact .ite (.kept (by simp)) .unchanged
    · exact .ite .unchanged (.ite (.kept (by simp)) (.kept (by simp)))

theorem balances_appliedSetpointReport (n v : Nat) : Balances s (execAppliedSetpointReport n v s) := by
  unfold execAppliedSetpointReport
  split
  · exact .unchanged
  · exact .kept (by simp)

theorem balances_gateReport (n : Nat) (w : Switch) (g : Nat) (b : Bool) : Balances s (execGateReport n w g b s) := by
  unfold execGateReport
  dsimp only
  split
  · exact .unchanged
  · exact .kept (by simp)

theorem balances_meterReading (n v : Nat) (b : Bool) : Balances s (execMeterReading n v b s) := by
  unfold execMeterReading
  dsimp only
  split
  · exact .unchanged
  · exact .kept (by simp)

theorem balances_errorReport (k : ErrorKind) (r : ErrorRef) : Balances s (execErrorReport k r s) := by
  unfold execErrorReport
  split
  · exact .unchanged
  · exact .kept rfl

theorem balances_holdRequest : Balances s (execHoldRequest s) := by
  unfold execHoldRequest
  split
  · exact .unchanged
  · exact .kept (by simp)

/-! ### Sweep steps (chapter 9) -/

theorem balances_curtailStep : Balances s (execCurtailStep s) := by
  unfold execCurtailStep
  split
  · exact .unchanged
  · exact .kept (by simp)

theorem balances_supplyBumpStep : Balances s (execSupplyBumpStep s) := by
  unfold execSupplyBumpStep
  split
  · exact .unchanged
  · exact .kept (by simp)

theorem balances_periodCloseStep : Balances s (execPeriodCloseStep s) := by
  unfold execPeriodCloseStep
  split
  · exact .unchanged
  · exact .kept (by simp)

theorem balances_seasonOpenStep : Balances s (execSeasonOpenStep s) := by
  unfold execSeasonOpenStep
  split
  · exact .unchanged
  · exact .kept (by simp)

theorem balances_sweepEnd : Balances s (execSweepEnd s) := by
  unfold execSweepEnd
  split
  · exact .unchanged
  · exact .ite (.kept (by simp)) .unchanged

/-! ### Every command -/

/-- An event that is no request. -/
theorem balances_event {c : Instr} (hc : (requestBytes c).isSome = false) : Balances s (exec c s) := by
  cases c
  case command m => exact balances_command s m
  case fetch bits => exact balances_fetch s bits
  case status piece => exact .kept rfl
  case ignoredTransaction m => exact .kept rfl
  case resetAsserted => exact balances_resetAsserted s
  case orphanCompletion => exact balances_orphanCompletion s
  case powerOn => exact balances_powered s _
  case powerOnInitComplete => exact .kept (by simp)
  case minuteEdge => exact .kept (by simp)
  case orderBookBoundary => exact balances_orderBookBoundary s
  case scheduledOrderNotice n => exact balances_scheduledOrderNotice s n
  case releaseControlBoundary => exact balances_releaseControlBoundary s
  case meterBoundary => exact balances_meterBoundary s
  case sweepBoundary => exact balances_sweepBoundary s
  case pollIntervalElapsed a => exact .ite (.kept (by simp)) .unchanged
  case attemptDeadline => exact balances_attemptDeadline s
  case fieldReply f => exact balances_fieldReply s f
  case appliedSetpointReport n v => exact balances_appliedSetpointReport s n v
  case gateReport n w g b => exact balances_gateReport s n w g b
  case meterReading n v b => exact balances_meterReading s n v b
  case errorReport k r => exact balances_errorReport s k r
  case holdRequest => exact balances_holdRequest s
  case curtailStep => exact balances_curtailStep s
  case supplyBumpStep => exact balances_supplyBumpStep s
  case periodCloseStep => exact balances_periodCloseStep s
  case seasonOpenStep => exact balances_seasonOpenStep s
  case sweepEnd => exact balances_sweepEnd s
  case resetReleased => exact .kept rfl
  case powerOff => exact balances_powered s _
  case replyKindByte a k => exact balances_replyKindByte s a k
  case outFrameSent => exact balances_outFrameSent s
  all_goals cases hc

theorem balances_exec (c : Instr) : Balances s (exec c s) := by
  cases hc : (requestBytes c).isSome with
  | false => exact balances_event s hc
  | true =>
    cases hp : isPlace c with
    | true =>
      cases c
      case place p u d f o l k => exact balances_place s p u d f o l k
      all_goals cases hp
    | false =>
      by_cases hs : c = .softReset
      · subst hs
        exact .ite (.kept (congrArg nets s.warmReset_books)) .unchanged
      · exact balances_request s hc hp hs

end

/-- Settles O58: every operation but four leaves each account's transfer net as it was; TRANSFER moves what one account
gives to the other, ACCOUNT_SET opens an account with a net of 0, SEASON_OPEN sets every net to 0, and a loss of power
leaves no account. -/
theorem stepKeepsTransferNetsBalanced : Obligations.StepKeepsTransferNetsBalanced := by
  intro s t h hstep
  unfold step at hstep
  split at hstep
  · exact Balances.unchanged h t hstep
  · next c rest _ => exact balances_exec { s with pending := rest } c h t hstep

end Sys2Proof.Machine
end

section
/-! ACCOUNT_SET, ACCOUNT_SUSPEND, ACCOUNT_RESUME and ACCOUNT_CLOSE (R14 to R17), and what is derived of an account's
record (R145, R148). -/

namespace Sys2Proof.Machine

/-! ### Allocation, standing and the change mark (R145, R148, R162) -/

theorem Account.reported_suspended (a : Account) (h : a.state = .suspended) : a.reported = .suspended := by
  simp [Account.reported, h]

theorem Account.reported_closed (a : Account) (h : a.state = .closed) : a.reported = .closed := by
  simp [Account.reported, h]

theorem Account.reported_opened (a : Account) (h : a.state = .opened) : a.reported = a.standing := by
  simp [Account.reported, h]

theorem Account.standing_eq (a : Account) :
    a.standing = if a.effective < a.used then .over
      else if a.effective * 9000 ≤ a.used * 10000 then .near else .good := rfl

/-- The standing against the allocation is none of the two that a state alone gives. -/
theorem Account.standing_ne (a : Account) : a.standing ≠ .suspended ∧ a.standing ≠ .closed := by
  rw [Account.standing_eq]
  split_ifs <;> simp

theorem Account.reported_eq_suspended_iff (a : Account) : a.reported = .suspended ↔ a.state = .suspended := by
  cases h : a.state with
  | opened => simp [a.reported_opened h, a.standing_ne.1]
  | suspended => simp [a.reported_suspended h]
  | closed => simp [a.reported_closed h]

theorem Account.reported_eq_closed_iff (a : Account) : a.reported = .closed ↔ a.state = .closed := by
  cases h : a.state with
  | opened => simp [a.reported_opened h, a.standing_ne.2]
  | suspended => simp [a.reported_suspended h]
  | closed => simp [a.reported_closed h]

theorem Account.reported_eq (a : Account) :
    a.reported =
      if a.state = .suspended then .suspended else if a.state = .closed then .closed
      else if a.effective < a.seasonOrdered + a.seasonUnordered then .over
      else if a.effective * 9000 ≤ (a.seasonOrdered + a.seasonUnordered) * 10000 then .near
      else .good := by
  cases h : a.state with
  | opened => exact a.reported_opened h
  | suspended => exact a.reported_suspended h
  | closed => exact a.reported_closed h

/-- A change of the reported standing sets the mark (R162). -/
theorem Account.revise_marks {a : Account} {f : Account → Account} (h : a.reported ≠ (f a).reported) :
    a.revise f = { f a with mark := true } := by
  simp [Account.revise, h]

/-- The record of one account is written and nothing else. -/
theorem State.setAccount_writes (s : State) (n : Nat) (b : Account) :
    s.setAccount n b = { s with accounts := (s.setAccount n b).accounts } ∧
      ∀ m, (s.setAccount n b).account? m = if m = n then some b else s.account? m :=
  ⟨rfl, fun _ => cell?_setCell _ _ _ _⟩

section

variable {s : State} {n cls base : Nat} {a : Account}

theorem account_inRange (hn : n ≤ 767) : ¬Config.accounts ≤ n := Nat.not_le.2 (Nat.lt_succ_of_le hn)

/-! ### ACCOUNT_SET (R14) -/

theorem reqAccountSet_badParam (h : 767 < n ∨ 7 < cls) : reqAccountSet n cls base s = (s, refusal .badParam) :=
  if_pos h

theorem reqAccountSet_vacant (hn : n ≤ 767) (hc : cls ≤ 7) (ha : s.account? n = none) :
    reqAccountSet n cls base s = (s.setAccount n (.fresh cls base), doneReply) := by
  have hrange : ¬(Config.accounts ≤ n ∨ Config.classes ≤ cls) :=
    not_or.2 ⟨account_inRange hn, Nat.not_le.2 (Nat.lt_succ_of_le hc)⟩
  rw [reqAccountSet, if_neg hrange, ha]

theorem reqAccountSet_listed (hn : n ≤ 767) (hc : cls ≤ 7) (ha : s.account? n = some a) :
    reqAccountSet n cls base s =
      (if a.state = .opened ∧ a.effective < (a.reset cls base).effective then
          (s.setAccount n (a.revise (Account.reset cls base))).startReexamination.arbitrate
        else s.setAccount n (a.revise (Account.reset cls base)), doneReply) := by
  have hrange : ¬(Config.accounts ≤ n ∨ Config.classes ≤ cls) :=
    not_or.2 ⟨account_inRange hn, Nat.not_le.2 (Nat.lt_succ_of_le hc)⟩
  rw [reqAccountSet, if_neg hrange, ha]
  dsimp only
  split <;> rfl

/-! ### ACCOUNT_SUSPEND (R15) -/

theorem reqAccountSuspend_badParam (hn : 767 < n) : reqAccountSuspend n s = (s, refusal .badParam) := if_pos hn

theorem reqAccountSuspend_vacant (hn : n ≤ 767) (ha : s.account? n = none) :
    reqAccountSuspend n s = (s, refusal .noSuchAccount) := by
  rw [reqAccountSuspend, if_neg (account_inRange hn), ha]

theorem reqAccountSuspend_notOpen (hn : n ≤ 767) (ha : s.account? n = some a) (hs : a.state ≠ .opened) :
    reqAccountSuspend n s = (s, refusal .wrongState) := by
  rw [reqAccountSuspend, if_neg (account_inRange hn), ha]
  exact if_neg hs

theorem OrderBook.cancellable_eq (b : OrderBook) (n : Nat) :
    b.cancellable n =
      (b.accountChain n).filter (fun e => decide (e.2.state = .confirmed ∨ e.2.state = .pendingWait)) := by
  simp [OrderBook.cancellable]

/-- An OPEN account that is suspended reports a new standing. -/
theorem Account.revise_suspend (h : a.state = .opened) :
    a.revise (fun a => { a with state := .suspended }) = { a with state := .suspended, mark := true } := by
  refine Account.revise_marks fun he => ?_
  have hs := a.reported_eq_suspended_iff.1 (he.trans (Account.reported_suspended _ rfl))
  rw [h] at hs
  cases hs

theorem reqAccountSuspend_opened (hn : n ≤ 767) (ha : s.account? n = some a) (hs : a.state = .opened) :
    reqAccountSuspend n s =
      ((if s.obk.cancellable n = [] then
          (s.obk.cancellable n).foldl (fun u e => u.suspendOne e)
            (s.setAccount n { a with state := .suspended, mark := true })
        else ((s.obk.cancellable n).foldl (fun u e => u.suspendOne e)
          (s.setAccount n { a with state := .suspended, mark := true })).startReexamination).arbitrate,
        answer .done (be16 (s.obk.cancellable n).length)) := by
  rw [reqAccountSuspend, if_neg (account_inRange hn), ha]
  simp only [hs, if_true, Account.revise_suspend hs, State.setAccount_obk, List.isEmpty_iff]

/-! ### ACCOUNT_RESUME (R16) -/

theorem reqAccountResume_badParam (hn : 767 < n) : reqAccountResume n s = (s, refusal .badParam) := if_pos hn

theorem reqAccountResume_vacant (hn : n ≤ 767) (ha : s.account? n = none) :
    reqAccountResume n s = (s, refusal .noSuchAccount) := by
  rw [reqAccountResume, if_neg (account_inRange hn), ha]

theorem reqAccountResume_notSuspended (hn : n ≤ 767) (ha : s.account? n = some a) (hs : a.state ≠ .suspended) :
    reqAccountResume n s = (s, refusal .wrongState) := by
  rw [reqAccountResume, if_neg (account_inRange hn), ha]
  exact if_neg hs

/-- A SUSPENDED account that is resumed reports a new standing. -/
theorem Account.revise_resume (h : a.state = .suspended) :
    a.revise (fun a => { a with state := .opened }) = { a with state := .opened, mark := true } := by
  refine Account.revise_marks fun he => ?_
  have hs := (Account.reported_eq_suspended_iff _).1 (he.symm.trans (a.reported_suspended h))
  cases hs

theorem reqAccountResume_suspended (hn : n ≤ 767) (ha : s.account? n = some a) (hs : a.state = .suspended) :
    reqAccountResume n s =
      ((s.setAccount n { a with state := .opened, mark := true }).startReexamination.arbitrate, doneReply) := by
  rw [reqAccountResume, if_neg (account_inRange hn), ha]
  simp only [hs, if_true, Account.revise_resume hs]

/-! ### ACCOUNT_CLOSE (R17) -/

theorem State.named_iff (s : State) (n : Nat) :
    s.named n = true ↔ ∃ e ∈ s.points, e.2.kind = .turnout ∧ e.2.account = some n := by
  simp [State.named]

theorem reqAccountClose_badParam (hn : 767 < n) : reqAccountClose n s = (s, refusal .badParam) := if_pos hn

theorem reqAccountClose_vacant (hn : n ≤ 767) (ha : s.account? n = none) :
    reqAccountClose n s = (s, refusal .noSuchAccount) := by
  rw [reqAccountClose, if_neg (account_inRange hn), ha]

theorem reqAccountClose_closed (hn : n ≤ 767) (ha : s.account? n = some a) (hs : a.state = .closed) :
    reqAccountClose n s = (s, refusal .wrongState) := by
  rw [reqAccountClose, if_neg (account_inRange hn), ha]
  exact if_pos hs

theorem reqAccountClose_inUse (hn : n ≤ 767) (ha : s.account? n = some a) (hs : a.state ≠ .closed)
    (hu : 0 < a.live ∨ s.named n = true) : reqAccountClose n s = (s, refusal .inUse) := by
  rw [reqAccountClose, if_neg (account_inRange hn), ha]
  exact (if_neg hs).trans (if_pos hu)

/-- An account that is closed reports a new standing. -/
theorem Account.revise_close (h : a.state ≠ .closed) :
    a.revise (fun a => { a with state := .closed }) = { a with state := .closed, mark := true } :=
  Account.revise_marks fun he => h (a.reported_eq_closed_iff.1 (he.trans (Account.reported_closed _ rfl)))

theorem reqAccountClose_unused (hn : n ≤ 767) (ha : s.account? n = some a) (hs : a.state ≠ .closed)
    (hu : ¬(0 < a.live ∨ s.named n = true)) :
    reqAccountClose n s = (s.setAccount n { a with state := .closed, mark := true }, doneReply) := by
  rw [reqAccountClose, if_neg (account_inRange hn), ha]
  refine ((if_neg hs).trans (if_neg hu)).trans ?_
  rw [Account.revise_close hs]

end

/-- Settles O48: each request by its checks, and past them the one record it writes; a request that takes an account
from one state to another changes its reported standing, which sets the mark. -/
theorem accountRequestsMoveTheAccount : Obligations.AccountRequestsMoveTheAccount := by
  refine ⟨fun a => ⟨rfl, a.reported_eq⟩,
    fun s n => ⟨fun cls base hh => ?set, fun hh => ?suspend, fun hh => ?resume, fun hh => ?close⟩⟩
  case set =>
    refine ⟨fun h => refuses_of_handed rfl hh (reqAccountSet_badParam h), fun hn hc ha => ?_, fun hn hc a ha => ?_⟩
    · exact ⟨_, completes_of_fixed rfl hh (reqAccountSet_fixed s n cls base) (reqAccountSet_vacant hn hc ha),
        s.setAccount_writes n _⟩
    · exact ⟨_, s.setAccount_writes n _,
        completes_of_fixed rfl hh (reqAccountSet_fixed s n cls base) (reqAccountSet_listed hn hc ha)⟩
  case suspend =>
    refine ⟨fun hn => refuses_of_handed rfl hh (reqAccountSuspend_badParam hn),
      fun hn ha => refuses_of_handed rfl hh (reqAccountSuspend_vacant hn ha),
      fun hn a ha => ⟨fun hs => ?_, fun hs => ?_⟩⟩
    · exact refuses_of_handed rfl hh (reqAccountSuspend_notOpen hn ha hs)
    · refine ⟨_, s.setAccount_writes n _, ?_⟩
      have hact := reqAccountSuspend_opened hn ha hs
      rw [s.obk.cancellable_eq n] at hact
      exact completes_of_fixed rfl hh (reqAccountSuspend_fixed s n) hact
  case resume =>
    refine ⟨fun hn => refuses_of_handed rfl hh (reqAccountResume_badParam hn),
      fun hn ha => refuses_of_handed rfl hh (reqAccountResume_vacant hn ha),
      fun hn a ha => ⟨fun hs => ?_, fun hs => ?_⟩⟩
    · exact refuses_of_handed rfl hh (reqAccountResume_notSuspended hn ha hs)
    · exact ⟨_, s.setAccount_writes n _,
        completes_of_fixed rfl hh (reqAccountResume_fixed s n) (reqAccountResume_suspended hn ha hs)⟩
  case close =>
    refine ⟨fun hn => refuses_of_handed rfl hh (reqAccountClose_badParam hn),
      fun hn ha => refuses_of_handed rfl hh (reqAccountClose_vacant hn ha),
      fun hn a ha => ⟨fun hs => ?_, fun hs hu => ?_, fun hs hl hu => ?_⟩⟩
    · exact refuses_of_handed rfl hh (reqAccountClose_closed hn ha hs)
    · exact refuses_of_handed rfl hh (reqAccountClose_inUse hn ha hs (hu.imp id (s.named_iff n).2))
    · have hfree : ¬(0 < a.live ∨ s.named n = true) :=
        not_or.2 ⟨Nat.not_lt.2 hl.le, fun h => hu ((s.named_iff n).1 h)⟩
      exact ⟨_, completes_of_fixed rfl hh (reqAccountClose_fixed s n) (reqAccountClose_unused hn ha hs hfree),
        s.setAccount_writes n _⟩

end Sys2Proof.Machine
end

section
/-! TRANSFER, PERIOD_CLOSE of one account and NEXT_ACCOUNT_CHANGED (R149, R150, R159, R160, R163). -/

namespace Sys2Proof.Machine

section

variable {s : State}

/-! ### TRANSFER (R149, R150) -/

section

variable {g k v : Nat} {a b : Account}

/-- An account with another transfer net, its mark set when its reported standing changed (R148, R162). -/
def Account.withNet (net : Int) (a : Account) : Account := a.revise (fun a => { a with transferNet := net })

/-- What TRANSFER answers of one account (R150). -/
def Account.transferFigures (a : Account) : List Byte :=
  signed32 a.transferNet ++ be32 a.effective ++ signed40 a.available

theorem State.moveLitres_frame (s : State) (g k v : Nat) :
    s.moveLitres g k v = { s with accounts := (s.moveLitres g k v).accounts } := by
  unfold State.moveLitres
  rw [State.reviseAccount_frame, State.reviseAccount_frame s g]

/-- Each of the two accounts has its own transfer net moved, and no other account changes (R150). -/
theorem State.moveLitres_account? (v : Nat) (hgk : g ≠ k) (ha : s.account? g = some a) (hb : s.account? k = some b)
    (m : Nat) :
    (s.moveLitres g k v).account? m =
      if m = g then some (a.withNet (a.transferNet - v))
      else if m = k then some (b.withNet (b.transferNet + v)) else s.account? m := by
  rw [State.moveLitres, State.reviseAccount_account?, State.reviseAccount_account?, State.reviseAccount_account?,
    if_neg hgk.symm, ha, hb]
  by_cases hmk : m = k
  · rw [if_pos hmk, if_neg (hmk ▸ hgk.symm), if_pos hmk]
    rfl
  · rw [if_neg hmk, if_neg hmk]
    rfl

theorem State.transferBytes_of_account? {t : State} {n : Nat} (h : t.account? n = some a) :
    t.transferBytes n = a.transferFigures := by
  rw [State.transferBytes, h]
  rfl

section

variable (hin : ¬(767 < g ∨ 767 < k ∨ g = k ∨ v < 1 ∨ 4294967295 < v))

include hin

theorem reqTransfer_vacant (h : s.account? g = none ∨ s.account? k = none) :
    reqTransfer g k v s = (s, refusal .noSuchAccount) := by
  refine (if_neg hin).trans ?_
  split
  · next ha hb => simp [ha, hb] at h
  · rfl

variable (ha : s.account? g = some a) (hb : s.account? k = some b)

include ha hb

/-- Past the first two checks: the two states, the available volume and the range of the nets (R149). -/
theorem reqTransfer_listed :
    reqTransfer g k v s =
      if a.state ≠ .opened ∨ b.state ≠ .opened then (s, refusal .accountNotOpen)
      else if a.available < (v : Int) then (s, refusal .allocationShort)
      else if a.transferNet - (v : Int) < -4294967295 ∨ 4294967295 < b.transferNet + (v : Int) then
        (s, refusal .badParam)
      else ((s.moveLitres g k v).startReexamination.arbitrate,
        answer .done ((s.moveLitres g k v).transferBytes g ++ (s.moveLitres g k v).transferBytes k)) := by
  refine (if_neg hin).trans ?_
  rw [ha, hb]
  rfl

theorem reqTransfer_notOpen (ho : ¬(a.state = .opened ∧ b.state = .opened)) :
    reqTransfer g k v s = (s, refusal .accountNotOpen) :=
  (reqTransfer_listed hin ha hb).trans (if_pos (not_and_or.1 ho))

theorem reqTransfer_short (ho : a.state = .opened ∧ b.state = .opened) (hv : a.available < v) :
    reqTransfer g k v s = (s, refusal .allocationShort) :=
  (reqTransfer_listed hin ha hb).trans ((if_neg (not_or_intro (not_not_intro ho.1) (not_not_intro ho.2))).trans
    (if_pos hv))

theorem reqTransfer_outOfRange (ho : a.state = .opened ∧ b.state = .opened) (hv : (v : Int) ≤ a.available)
    (hr : ¬(-4294967295 ≤ a.transferNet - v ∧ b.transferNet + v ≤ 4294967295)) :
    reqTransfer g k v s = (s, refusal .badParam) := by
  have hout : a.transferNet - (v : Int) < -4294967295 ∨ 4294967295 < b.transferNet + (v : Int) := by omega
  rw [reqTransfer_listed hin ha hb, if_neg (by simp [ho]), if_neg (Int.not_lt.2 hv), if_pos hout]

theorem reqTransfer_moves (ho : a.state = .opened ∧ b.state = .opened) (hv : (v : Int) ≤ a.available)
    (hr : -4294967295 ≤ a.transferNet - v ∧ b.transferNet + v ≤ 4294967295) :
    reqTransfer g k v s =
      ((s.moveLitres g k v).startReexamination.arbitrate,
        answer .done ((a.withNet (a.transferNet - v)).transferFigures ++
          (b.withNet (b.transferNet + v)).transferFigures)) := by
  have hgk : g ≠ k := fun he => hin (.inr (.inr (.inl he)))
  have hout : ¬(a.transferNet - (v : Int) < -4294967295 ∨ 4294967295 < b.transferNet + (v : Int)) := by omega
  have hread := State.moveLitres_account? v hgk ha hb
  have hgiver := (hread g).trans (if_pos rfl)
  have htaker := (hread k).trans ((if_neg hgk.symm).trans (if_pos rfl))
  rw [reqTransfer_listed hin ha hb, if_neg (by simp [ho]), if_neg (Int.not_lt.2 hv), if_neg hout,
    State.transferBytes_of_account? hgiver, State.transferBytes_of_account? htaker]

end

end

/-! ### PERIOD_CLOSE of one account (R159, R160) -/

section

variable {n : Nat} {a : Account}

theorem reqPeriodClose_noScope {c : Nat} (hc : 2 < c) : reqPeriodClose c n s = (s, refusal .badParam) := by
  match c, hc with
  | _ + 3, _ => rfl

theorem reqPeriodClose_badParam (hn : 767 < n) : reqPeriodClose 0 n s = (s, refusal .badParam) := if_pos hn

theorem reqPeriodClose_busy (hn : n ≤ 767) (hw : s.sweeping = true) :
    reqPeriodClose 0 n s = (s, refusal .busySweep) :=
  (if_neg (account_inRange hn)).trans (if_pos hw)

theorem reqPeriodClose_vacant (hn : n ≤ 767) (hw : s.sweeping = false) (ha : s.account? n = none) :
    reqPeriodClose 0 n s = (s, refusal .noSuchAccount) := by
  change s.closeAccountPeriod n = _
  rw [State.closeAccountPeriod, if_neg (account_inRange hn), if_neg (ne_true_of_eq_false hw), ha]

/-- The account's record is written, then its finished orders are retired. -/
theorem State.closePeriod_eq (ha : s.account? n = some a) :
    s.closePeriod n =
      (s.obk.finished n).foldl (fun u e => u.retireEntry e.1) (s.setAccount n (a.closePeriod s.cal.clock)) := by
  rw [State.closePeriod, ha]
  rfl

theorem reqPeriodClose_closes (hn : n ≤ 767) (hw : s.sweeping = false) (ha : s.account? n = some a) :
    reqPeriodClose 0 n s =
      ((s.obk.finished n).foldl (fun u e => u.retireEntry e.1) (s.setAccount n (a.closePeriod s.cal.clock)),
        answer .done (be16 a.period ++ be32 (a.statementNow s.cal.clock).total ++
          be16 (s.obk.finished n).length)) := by
  change s.closeAccountPeriod n = _
  rw [State.closeAccountPeriod, if_neg (account_inRange hn), if_neg (ne_true_of_eq_false hw), ha,
    ← State.closePeriod_eq ha]

end

/-! ### NEXT_ACCOUNT_CHANGED (R163) -/

theorem reqNextAccountChanged_unmarked (hm : s.marked = []) :
    reqNextAccountChanged s = (s, answer .nothing []) := by
  rw [reqNextAccountChanged, hm]

theorem reqNextAccountChanged_marked {n : Nat} {a : Account} {rest : List (Nat × Account)}
    (hm : s.marked = (n, a) :: rest) :
    reqNextAccountChanged s =
      (s.setAccount n { a with mark := false },
        answer .done (be16 n ++ be8 (AccountState.code (some a.state)) ++ be8 a.reported.code ++ be32 a.effective ++
          be40 a.used ++ be16 rest.length)) := by
  rw [reqNextAccountChanged, hm]

end

/-- Settles O49: the five checks of TRANSFER in their order, and past them two accounts read off moveLitres; a close of
one period by the record it writes and the orders it retires; the first mark of the table names the account that is
answered. -/
theorem transferCloseAndNextChangedActOnAccounts : Obligations.TransferCloseAndNextChangedActOnAccounts := by
  intro s
  refine ⟨fun g k v hh => ?transfer, fun scope n hh => ?close, fun hh => ?next⟩
  case transfer =>
    refine ⟨fun h => refuses_of_handed rfl hh (if_pos h),
      fun hin h => refuses_of_handed rfl hh (reqTransfer_vacant hin h), fun hin a b ha hb => ?_⟩
    refine ⟨fun ho => refuses_of_handed rfl hh (reqTransfer_notOpen hin ha hb ho),
      fun ho hv => refuses_of_handed rfl hh (reqTransfer_short hin ha hb ho hv),
      fun ho hv hr => refuses_of_handed rfl hh (reqTransfer_outOfRange hin ha hb ho hv hr), fun ho hv hr => ?_⟩
    have hgk : g ≠ k := fun he => hin (.inr (.inr (.inl he)))
    exact ⟨_, s.moveLitres_frame g k v, State.moveLitres_account? v hgk ha hb,
      completes_of_fixed rfl hh (reqTransfer_fixed s g k v) (reqTransfer_moves hin ha hb ho hv hr)⟩
  case close =>
    refine ⟨fun hc => refuses_of_handed rfl hh (reqPeriodClose_noScope hc), ?_, ?_, ?_, ?_⟩
    · rintro rfl hn
      exact refuses_of_handed rfl hh (reqPeriodClose_badParam hn)
    · rintro rfl hn hw
      exact refuses_of_handed rfl hh (reqPeriodClose_busy hn hw)
    · rintro rfl hn hw ha
      exact refuses_of_handed rfl hh (reqPeriodClose_vacant hn hw ha)
    · rintro rfl hn hw a ha
      obtain ⟨hframe, hread⟩ := s.setAccount_writes n (a.closePeriod s.cal.clock)
      exact ⟨_, hframe, hread,
        completes_of_fixed rfl hh (reqPeriodClose_fixed s 0 n) (reqPeriodClose_closes hn hw ha)⟩
  case next =>
    refine ⟨fun hm => completes_unchanged rfl hh (reqNextAccountChanged_unmarked hm), fun n a rest hm => ?_⟩
    obtain ⟨hframe, hread⟩ := s.setAccount_writes n { a with mark := false }
    exact ⟨_, hframe, hread,
      completes_of_fixed rfl hh (reqNextAccountChanged_fixed s) (reqNextAccountChanged_marked hm)⟩

end Sys2Proof.Machine
end

section
/-! The status record of a sweep: the visit that a step row makes, the cursor and the counts (R164 to R167). -/

namespace Sys2Proof.Machine

/-! ### The visit of a step (log entry 24) -/

/-- The sweep is one of the kind, in progress, with something left to visit. -/
def Sweep.visits (k : SweepKind) (w : Sweep) : Prop :=
  w.kind = k ∧ w.state = .inProgress ∧ w.cursor < w.actual.limit

/-- A step row for one kind of sweep: it makes its visit when there is one to make. -/
def State.onVisit (k : SweepKind) (f : Sweep → State) (s : State) : Host.Outcome State Fault Refusal :=
  match s.visiting? k with
  | none => .next s
  | some w => .next (f w)

theorem exec_curtailStep (s : State) :
    exec .curtailStep s = s.onVisit .curtail fun w => (s.curtailVisit w).arbitrate := rfl

theorem exec_supplyBumpStep (s : State) :
    exec .supplyBumpStep s = s.onVisit .supplyBump fun w => (s.bumpVisit w).arbitrate := rfl

theorem exec_periodCloseStep (s : State) :
    exec .periodCloseStep s = s.onVisit .periodClose fun w => s.closeVisit w := rfl

theorem exec_seasonOpenStep (s : State) :
    exec .seasonOpenStep s = s.onVisit .seasonOpen fun w => s.seasonVisit w := rfl

theorem Sweep.over_eq_true (w : Sweep) : w.over = true ↔ w.actual.limit ≤ w.cursor := decide_eq_true_iff

theorem Sweep.over_eq_false (w : Sweep) : w.over = false ↔ w.cursor < w.actual.limit :=
  decide_eq_false_iff_not.trans Nat.not_le

section

variable {s : State} {w : Sweep} {k : SweepKind} {f : Sweep → State}

theorem State.visiting?_of_status (hs : s.sweep.status = some w) :
    s.visiting? k = if w.kind = k ∧ w.state = .inProgress ∧ w.over = false then some w else none := by
  rw [State.visiting?, hs]

theorem State.onVisit_unstarted (hs : s.sweep.status = none) : s.onVisit k f = .next s := by
  have hnone : s.visiting? k = none := by rw [State.visiting?, hs]
  rw [State.onVisit, hnone]

theorem State.onVisit_idle (hs : s.sweep.status = some w) (hv : ¬w.visits k) : s.onVisit k f = .next s := by
  have hnone : s.visiting? k = none :=
    (State.visiting?_of_status hs).trans (if_neg (by rwa [w.over_eq_false]))
  rw [State.onVisit, hnone]

theorem State.onVisit_visits (hs : s.sweep.status = some w) (hv : w.visits k) : s.onVisit k f = .next (f w) := by
  have hsome : s.visiting? k = some w :=
    (State.visiting?_of_status hs).trans (if_pos (by rwa [w.over_eq_false]))
  rw [State.onVisit, hsome]

end

/-! ### Scopes and changed accounts -/

/-- A scope of a class admits the accounts of that class, every other scope admits all. -/
theorem Scope.admits_iff (sc : Scope) (a : Account) : sc.admits a = true ↔ ∀ c, sc = .cls c → a.cls = c := by
  cases sc with
  | cls c => simp [Scope.admits]
  | district | block | run | nowhere => simp [Scope.admits]

theorem State.accountChanged_of_account? {s : State} {n : Nat} {b : Account} (h : s.account? n = some b) :
    s.accountChanged n =
      (s.setAccount n { b with mark := true }).tally (fun c => { c with changed := countUp c.changed 1 }) := by
  rw [State.accountChanged, h]

/-- The counts and the cursor of a sweep, each written in its turn. -/
theorem State.tally_moveCursor {s : State} {w : Sweep} (h : s.sweep.status = some w) (f : Counts → Counts) (c : Nat) :
    (s.tally f).moveCursor c = { s with sweep.status := some { w with cursor := c, counts := f w.counts } } := by
  simp [State.tally, State.moveCursor, State.changeSweep, h]

theorem State.moveCursor_of_status {s : State} {w : Sweep} (h : s.sweep.status = some w) (c : Nat) :
    s.moveCursor c = { s with sweep.status := some { w with cursor := c } } := by
  simp [State.moveCursor, State.changeSweep, h]

end Sys2Proof.Machine
end

section
/-! CURTAIL, SEASON_OPEN and PERIOD_CLOSE start their sweeps, SWEEP_QUERY reads the record, and the boundary moves a
bump's cursor (R164, R165, R167, R169, R174, R177, R178). -/

namespace Sys2Proof.Machine

section

variable {s : State}

/-! ### CURTAIL (R169) -/

theorem powerSize_iff (z : Nat) : powerSize z = true ↔ ∃ k, k ≤ 10 ∧ z = 2 ^ k := by
  simp [powerSize, Nat.lt_succ_iff, eq_comm (a := z)]

theorem curtailScope_eq (scope cls base size : Nat) :
    curtailScope scope cls base size =
      if scope = 0 then .district else if scope = 1 then .cls cls else .block base size := by
  match scope with
  | 0 | 1 | _ + 2 => rfl

/-- A block whose size is a power of two up to 1,024 that divides its base (R169). -/
def validBlock (base size : Nat) : Prop := ∃ k, k ≤ 10 ∧ size = 2 ^ k ∧ base % size = 0

theorem validBlock_iff (base size : Nat) : validBlock base size ↔ powerSize size = true ∧ base % size = 0 := by
  simp only [validBlock, powerSize_iff, ← and_assoc, exists_and_right]

theorem resolveScope_block_invalid {base size : Nat} (h : ¬validBlock base size) :
    resolveScope (.block base size) = .nowhere := by
  rw [validBlock_iff, not_and_or, Bool.not_eq_true] at h
  exact if_pos h

theorem resolveScope_block_valid {base size : Nat} (h : validBlock base size) :
    resolveScope (.block base size) = if size = 1024 ∧ base = 0 then .district else .block base size := by
  rw [validBlock_iff] at h
  exact if_neg (by simp [h])

theorem validBlock_whole : validBlock 0 1024 := ⟨10, le_rfl, rfl, rfl⟩

/-- The drain option of a byte that names one (R169). -/
def drainOf (drain : Nat) : Drain := if drain = 0 then .letRun else .stopRunning

theorem Drain.ofCode?_unnamed {drain : Nat} (h : 1 < drain) : Drain.ofCode? drain = none := by
  obtain ⟨n, rfl⟩ : ∃ n, drain = n + 2 := ⟨drain - 2, by omega⟩
  rfl

theorem Drain.ofCode?_named {drain : Nat} (h : drain ≤ 1) :
    Drain.ofCode? drain = some (drainOf drain) ∧ (drainOf drain).code = drain := by
  interval_cases drain <;> exact ⟨rfl, rfl⟩

section

variable {scope cls base size share drain : Nat}

theorem reqCurtail_badParam (h : 2 < scope ∨ 1 < drain) :
    reqCurtail scope cls base size share drain s = (s, refusal .badParam) := by
  unfold reqCurtail
  rcases Nat.lt_or_ge 1 drain with hd | hd
  · rw [Drain.ofCode?_unnamed hd]
  · rw [(Drain.ofCode?_named hd).1]
    exact if_pos (h.resolve_right (Nat.not_lt.2 hd))

/-- Past the checks of its scope and drain bytes, a CURTAIL waits for no sweep (R169). -/
theorem reqCurtail_busy (hc : scope ≤ 2) (hd : drain ≤ 1) (hw : s.sweeping = true) :
    reqCurtail scope cls base size share drain s = (s, refusal .busySweep) := by
  rw [reqCurtail, (Drain.ofCode?_named hd).1]
  exact (if_neg (Nat.not_lt.2 hc)).trans (if_pos hw)

variable (hc : scope ≤ 2) (hd : drain ≤ 1) (hw : s.sweeping = false)

include hc hd hw

theorem reqCurtail_nowhere (hr : resolveScope (curtailScope scope cls base size) = .nowhere) :
    reqCurtail scope cls base size share drain s =
      (s, answer .done ((curtailScope scope cls base size).bytes ++ Scope.nowhere.bytes ++
        be16 (min 10000 share))) := by
  rw [reqCurtail, (Drain.ofCode?_named hd).1]
  refine (if_neg (Nat.not_lt.2 hc)).trans ((if_neg (ne_true_of_eq_false hw)).trans ?_)
  simp only [hr]

theorem reqCurtail_starts {actual : Scope} (hr : resolveScope (curtailScope scope cls base size) = actual)
    (hn : actual ≠ .nowhere) :
    reqCurtail scope cls base size share drain s =
      (s.startSweep (.setUp .curtail (curtailScope scope cls base size) actual (some (min 10000 share))
          (some (drainOf drain)) actual.firstAccount),
        answer .accepted (be8 0 ++ (curtailScope scope cls base size).bytes ++ actual.bytes ++
          be16 (min 10000 share) ++ be8 drain)) := by
  have hanswer : ∀ w : Sweep, w.kind = .curtail → w.share = some (min 10000 share) →
      w.drain = some (drainOf drain) → w.accepted [] = answer .accepted
        (be8 0 ++ w.requested.bytes ++ w.actual.bytes ++ be16 (min 10000 share) ++ be8 drain) := by
    intro w hk hq hdr
    simp [Sweep.accepted, Sweep.parameterBytes, hk, hq, hdr, (Drain.ofCode?_named hd).2, sweepKindCode]
  rw [reqCurtail, (Drain.ofCode?_named hd).1]
  refine (if_neg (Nat.not_lt.2 hc)).trans ((if_neg (ne_true_of_eq_false hw)).trans ?_)
  simp only [hr]
  cases actual with
  | nowhere => exact absurd rfl hn
  | district | cls | block | run => exact congrArg _ (hanswer _ rfl rfl rfl)

end

/-! ### PERIOD_CLOSE of a class or of the district (R177) -/

theorem State.closeScopePeriod_busy (sc : Scope) (hw : s.sweeping = true) :
    s.closeScopePeriod sc = (s, refusal .busySweep) := if_pos hw

theorem State.closeScopePeriod_starts (sc : Scope) (hw : s.sweeping = false) :
    s.closeScopePeriod sc =
      (s.startSweep (.setUp .periodClose sc sc none none 0),
        answer .accepted (be8 2 ++ sc.bytes ++ sc.bytes)) := by
  refine (if_neg (ne_true_of_eq_false hw)).trans ?_
  simp [Sweep.accepted, Sweep.parameterBytes, Sweep.setUp, sweepKindCode]

theorem reqPeriodClose_class {n : Nat} (hn : n % 256 ≤ 7) :
    reqPeriodClose 1 n s = s.closeScopePeriod (.cls (n % 256)) :=
  if_neg (Nat.not_le.2 (Nat.lt_succ_of_le hn))

/-! ### SEASON_OPEN (R178) -/

theorem reqSeasonOpen_busy (hw : s.sweeping = true) : reqSeasonOpen s = (s, refusal .busySweep) := if_pos hw

theorem reqSeasonOpen_inUse (hw : s.sweeping = false) (hl : s.obk.anyLive = true) :
    reqSeasonOpen s = (s, refusal .inUse) :=
  (if_neg (ne_true_of_eq_false hw)).trans (if_pos hl)

theorem reqSeasonOpen_starts (hw : s.sweeping = false) (hl : s.obk.anyLive = false) :
    reqSeasonOpen s =
      ((s.startSweep (.setUp .seasonOpen .district .district none none 0)).openSeason,
        answer .accepted (be8 3 ++ Scope.district.bytes ++ Scope.district.bytes)) :=
  (if_neg (ne_true_of_eq_false hw)).trans (if_neg (ne_true_of_eq_false hl))

/-- The opening step writes the accounts and the owed indicator alone (R178). -/
theorem State.openSeason_frame (s : State) :
    s.openSeason = { s with
      accounts := s.openSeason.accounts, obk := { s.obk with owed := s.openSeason.obk.owed } } := by
  unfold State.openSeason
  dsimp only
  split <;> rfl

theorem State.openSeason_account? (s : State) (n : Nat) :
    s.openSeason.account? n = (s.account? n).map Account.opening := by
  have haccounts : s.openSeason.accounts = s.accounts.map fun e => (e.1, e.2.opening) := by
    unfold State.openSeason
    dsimp only
    split <;> rfl
  rw [State.account?, haccounts, cell?_map]
  rfl

theorem State.openSeason_owed (s : State) :
    s.openSeason.obk.owed = true ↔ s.obk.owed = true ∨ ∃ e ∈ s.accounts, e.2.curtailment < 10000 := by
  have hraised : (s.accounts.any fun e => decide (e.2.curtailment < Config.fullShare)) = true ↔
      ∃ e ∈ s.accounts, e.2.curtailment < 10000 := by simp
  rw [← hraised, State.openSeason]
  split
  · next h => simp [h, State.owe]
  · next h => simp [h]

/-! ### SWEEP_BOUNDARY (R174) -/

theorem exec_sweepBoundary_none (h : s.mail.sweep = []) : exec .sweepBoundary s = .next s := by
  change execSweepBoundary s = _
  rw [execSweepBoundary, h]

theorem exec_sweepBoundary_presented {t : Nat} {rest : List Nat} (h : s.mail.sweep = t :: rest) :
    exec .sweepBoundary s = .next ({ s with mail.sweep := rest } : State).skipPassed := by
  change execSweepBoundary s = _
  rw [execSweepBoundary, h]

/-- A supply bump in progress whose cursor stands at a slot that has gone (R174). -/
def Sweep.behind (w : Sweep) (slot : Nat) : Prop :=
  w.kind = .supplyBump ∧ w.state = .inProgress ∧ w.cursor < slot

theorem State.skipPassed_behind {w : Sweep} (hs : s.sweep.status = some w) (hp : w.behind s.cal.slot) :
    s.skipPassed = { s with sweep.status := some { w with cursor := s.cal.slot } } := by
  rw [State.skipPassed, hs]
  exact (if_pos hp).trans (State.moveCursor_of_status hs _)

theorem State.skipPassed_ahead (h : ∀ w, s.sweep.status = some w → ¬w.behind s.cal.slot) : s.skipPassed = s := by
  unfold State.skipPassed
  split
  · rfl
  · next w hs => exact if_neg (h w hs)

end

/-- Settles O50: each request by its checks, and past them the record it starts; the opening step is read off
openSeason, the boundary off skipPassed. -/
theorem sweepsStartAndAreRead : Obligations.SweepsStartAndAreRead := by
  intro s sweep started
  refine ⟨fun scope cls base size share drain hh => ?curtail, fun hh => ?season, fun scope n hh => ?close,
    fun hh => ?query, exec_sweepBoundary_none, fun t rest ht => ?boundary⟩
  case curtail =>
    intro c asked valid q d starts nothing
    have hasked : asked = curtailScope scope cls base size := (curtailScope_eq scope cls base size).symm
    refine ⟨fun h => refuses_of_handed rfl hh (reqCurtail_badParam h),
      fun hc hd hw => refuses_of_handed rfl hh (reqCurtail_busy hc hd hw), fun hd hw => ?_⟩
    have hstarts : ∀ actual, scope ≤ 2 → resolveScope (curtailScope scope cls base size) = actual →
        actual ≠ .nowhere → starts actual actual.firstAccount := by
      intro actual hc hr hn
      simp only [starts, hasked]
      exact completes_of_fixed rfl hh (reqCurtail_fixed s _ _ _ _ _ _) (reqCurtail_starts hc hd hw hr hn)
    have hnothing : scope ≤ 2 → resolveScope (curtailScope scope cls base size) = .nowhere → nothing := by
      intro hc hr
      simp only [nothing, hasked]
      exact completes_unchanged rfl hh (reqCurtail_nowhere hc hd hw hr)
    refine ⟨?district, ?cls, ?noClass, ?noBlock, ?whole, ?block⟩
    case district =>
      rintro rfl
      exact hstarts .district (by omega) rfl nofun
    case cls =>
      rintro rfl hcls
      exact hstarts (.cls cls) (by omega) (if_pos (Nat.lt_succ_of_le hcls)) nofun
    case noClass =>
      rintro rfl hcls
      exact hnothing (by omega) (if_neg (Nat.not_lt.2 hcls))
    case noBlock =>
      rintro rfl hvalid
      exact hnothing le_rfl (resolveScope_block_invalid hvalid)
    case whole =>
      rintro rfl rfl rfl
      exact hstarts .district le_rfl (resolveScope_block_valid validBlock_whole) nofun
    case block =>
      rintro rfl hvalid hpart
      exact hstarts (.block base size) le_rfl ((resolveScope_block_valid hvalid).trans (if_neg hpart)) nofun
  case season =>
    refine ⟨fun hw => refuses_of_handed rfl hh (reqSeasonOpen_busy hw),
      fun hw hl => refuses_of_handed rfl hh (reqSeasonOpen_inUse hw (s.obk.anyLive_iff.2 hl)), fun hw hl => ?_⟩
    exact ⟨_, State.openSeason_frame _, State.openSeason_account? _, State.openSeason_owed _,
      completes_of_fixed rfl hh (reqSeasonOpen_fixed s) (reqSeasonOpen_starts hw (OrderBook.anyLive_false hl))⟩
  case close =>
    have hdone : ∀ sc, reqPeriodClose scope n s = s.closeScopePeriod sc →
        (s.sweeping = true → Refuses (.periodClose scope n) s .busySweep) ∧
        (s.sweeping = false → Completes (.periodClose scope n) s
          (s.startSweep (.setUp .periodClose sc sc none none 0))
          (answer .accepted (be8 2 ++ sc.bytes ++ sc.bytes))) := fun sc hreq =>
      ⟨fun hw => refuses_of_handed rfl hh (hreq.trans (s.closeScopePeriod_busy sc hw)),
        fun hw => completes_of_fixed rfl hh (reqPeriodClose_fixed s _ _)
          (hreq.trans (s.closeScopePeriod_starts sc hw))⟩
    refine ⟨?_, ?_, ?_, ?_, ?_⟩
    · rintro rfl hn
      exact refuses_of_handed rfl hh (if_pos hn)
    · rintro rfl hn
      exact (hdone _ (reqPeriodClose_class hn)).1
    · rintro rfl hn
      exact (hdone _ (reqPeriodClose_class hn)).2
    · rintro rfl
      exact (hdone .district rfl).1
    · rintro rfl
      exact (hdone .district rfl).2
  case query =>
    refine completes_of_fixed (act := reqSweepQuery) rfl hh (reqSweepQuery_fixed s) ?_
    rw [reqSweepQuery]
    cases s.sweep.status with
    | none | some => rfl
  case boundary =>
    have hexec := exec_sweepBoundary_presented ht
    exact ⟨fun w hs hp => hexec.trans (congrArg _ (State.skipPassed_behind hs hp)),
      fun h => hexec.trans (congrArg _ (State.skipPassed_ahead h))⟩

end Sys2Proof.Machine
end

section
/-! The walks of a CURTAIL step over an account's orders: which order is taken next, what is done to it, and when the
walk ends (R58, R171, R172). -/

namespace Sys2Proof.Machine

/-! ### Both walks as one (R171, R172) -/

/-- While account n has an excess, the order nearest the end of its chain that passes the test is acted on. -/
def walkBack (n : Nat) (p : Order → Bool) (act : Nat → Order → State → State) :
    Nat → State × Bool → State × Bool
  | 0, acc => acc
  | fuel + 1, acc =>
    if acc.1.excess n = 0 then acc
    else
      match acc.1.obk.lastOf n p with
      | none => acc
      | some (i, o) => walkBack n p act fuel (act i o acc.1, true)

theorem State.trimLoop_eq (n fuel : Nat) (acc : State × Bool) :
    State.trimLoop n fuel acc =
      walkBack n (fun o => decide (o.state = .confirmed)) (fun i o s => s.trimOne i o (s.excess n)) fuel acc := by
  induction fuel generalizing acc with
  | zero => rfl
  | succ fuel ih =>
    rw [State.trimLoop, walkBack]
    refine ite_congr rfl (fun _ => rfl) fun _ => ?_
    cases acc.1.obk.lastOf n _ with
    | none => rfl
    | some e => exact ih _

theorem State.drainLoop_eq (n fuel : Nat) (acc : State × Bool) :
    State.drainLoop n fuel acc = walkBack n Order.due (fun i o s => s.drainOne i o) fuel acc := by
  induction fuel generalizing acc with
  | zero => rfl
  | succ fuel ih =>
    rw [State.drainLoop, walkBack]
    refine ite_congr rfl (fun _ => rfl) fun _ => ?_
    cases acc.1.obk.lastOf n _ with
    | none => rfl
    | some e => exact ih _

section

variable {n fuel i : Nat} {p : Order → Bool} {act : Nat → Order → State → State} {t : State} {o : Order}
  {acc : State × Bool}

theorem walkBack_fits (h : acc.1.excess n = 0) : walkBack n p act fuel acc = acc := by
  cases fuel with
  | zero => rfl
  | succ fuel => exact if_pos h

theorem walkBack_none (h : acc.1.obk.lastOf n p = none) : walkBack n p act fuel acc = acc := by
  cases fuel with
  | zero => rfl
  | succ fuel =>
    rw [walkBack, h]
    exact ite_self acc

theorem walkBack_step (hx : 0 < acc.1.excess n) (h : acc.1.obk.lastOf n p = some (i, o)) :
    walkBack n p act (fuel + 1) acc = walkBack n p act fuel (act i o acc.1, true) := by
  rw [walkBack, h]
  exact if_neg hx.ne'

/-! ### When a walk ends -/

theorem OrderBook.lastOf_some {b : OrderBook} (h : b.lastOf n p = some (i, o)) :
    (i, o) ∈ b.orders ∧ o.account = n ∧ p o = true := by
  obtain ⟨hm, hp⟩ := OrderBook.mem_of_lastOf h
  have hchain := (b.accountChain_perm n).mem_iff.1 (List.mem_reverse.1 (List.mem_of_find?_eq_some h))
  exact ⟨hm, of_decide_eq_true (List.mem_filter.1 hchain).2, hp⟩

theorem OrderBook.lastOf_none {b : OrderBook} (h : b.lastOf n p = none) :
    ∀ e ∈ b.orders, e.2.account = n → p e.2 = false := fun e he hn =>
  Bool.eq_false_iff.2 <| List.find?_eq_none.1 h e <| List.mem_reverse.2 <|
    (b.accountChain_perm n).mem_iff.2 (List.mem_filter.2 ⟨he, decide_eq_true hn⟩)

/-- An order counts once when it passes the test. -/
def Order.counted (p : Order → Bool) (o : Order) : Nat := if p o then 1 else 0

/-- An account has no more orders that pass a test than the table has entries. -/
theorem figure_counted_le (n : Nat) (p : Order → Bool) (l : Table Order) :
    figure n (Order.counted p) l ≤ l.length := by
  have hone : ∀ x ∈ l.map (fun e => e.2.addsTo n (Order.counted p)), x ≤ 1 := by
    rintro x hx
    obtain ⟨e, -, rfl⟩ := List.mem_map.1 hx
    unfold Order.addsTo Order.counted
    split_ifs <;> decide
  have hsum := List.sum_le_card_nsmul _ 1 hone
  rwa [List.length_map, nsmul_one, Nat.cast_id] at hsum

theorem of_figure_counted_zero {l : Table Order} (h : figure n (Order.counted p) l = 0) :
    ∀ e ∈ l, e.2.account = n → p e.2 = false := by
  intro e he hn
  have hzero := List.sum_eq_zero_iff.1 h _ (List.mem_map_of_mem he)
  rw [Order.addsTo, if_pos hn, Order.counted] at hzero
  by_contra hp
  rw [if_pos (Bool.eq_true_of_not_eq_false hp)] at hzero
  exact one_ne_zero hzero

/-- An order that passed the test and does not any more is counted no longer. -/
theorem Booked.figure_counted_lt {o' : Order} (h : Booked t) (ho : cell? t.obk.orders i = some o)
    (hn : o.account = n) (hp : p o = true) (hp' : p o' = false) :
    figure n (Order.counted p) (setCell t.obk.orders i o') < figure n (Order.counted p) t.obk.orders := by
  have hsum := h.figure_setCell (n := n) (i := i) (o := o') (Order.counted p)
  have hnew : o'.addsTo n (Order.counted p) = 0 := by simp [Order.addsTo, Order.counted, hp']
  have hold : o.addsTo n (Order.counted p) = 1 := by simp [Order.addsTo, Order.counted, hn, hp]
  rw [cellSum_of_cell? ho, hnew, hold] at hsum
  omega

/-- A walk whose every act removes the excess, or leaves one order fewer that passes the test, goes on until no excess
or no such order is left. -/
theorem walkBack_ends (Q : State → Prop)
    (hact : ∀ u i o, Q u → (i, o) ∈ u.obk.orders → o.account = n → p o = true →
      (act i o u).excess n = 0 ∨ Q (act i o u) ∧
        figure n (Order.counted p) (act i o u).obk.orders < figure n (Order.counted p) u.obk.orders)
    (h : Q acc.1) (hfuel : figure n (Order.counted p) acc.1.obk.orders ≤ fuel) :
    (walkBack n p act fuel acc).1.excess n = 0 ∨
      ∀ e ∈ (walkBack n p act fuel acc).1.obk.orders, e.2.account = n → p e.2 = false := by
  induction fuel generalizing acc with
  | zero => exact .inr (of_figure_counted_zero (Nat.le_zero.1 hfuel))
  | succ fuel ih =>
    rcases Nat.eq_zero_or_pos (acc.1.excess n) with hx | hx
    · rw [walkBack_fits hx]
      exact .inl hx
    · cases hlast : acc.1.obk.lastOf n p with
      | none =>
        rw [walkBack_none hlast]
        exact .inr (OrderBook.lastOf_none hlast)
      | some e =>
        obtain ⟨i, o⟩ := e
        obtain ⟨hm, hn, hp⟩ := OrderBook.lastOf_some hlast
        rw [walkBack_step hx hlast]
        rcases hact acc.1 i o h hm hn hp with hfits | ⟨hq, hless⟩
        · rw [walkBack_fits hfits]
          exact .inl hfits
        · exact ih hq (Nat.le_of_lt_succ (hless.trans_le hfuel))

end

/-! ### The fewest slots that reach a volume (R171) -/

theorem slotsFor_le_iff {flow v j : Nat} (hf : 0 < flow) : slotsFor flow v ≤ j ↔ v ≤ flow * 900 * j := by
  have hslot : 0 < flow * 900 := by omega
  have hceil : slotsFor flow v = v ⌈/⌉ (flow * 900) := by
    rw [Nat.ceilDiv_eq_add_pred_div, Nat.add_sub_assoc hslot]
    rfl
  rw [hceil, ceilDiv_le_iff_le_mul hslot]

theorem slotsFor_reaches {flow : Nat} (v : Nat) (hf : 0 < flow) : v ≤ flow * 900 * slotsFor flow v :=
  (slotsFor_le_iff hf).1 le_rfl

theorem slotsFor_eq {flow v k : Nat} (hf : 0 < flow) (hk : v ≤ flow * 900 * k)
    (hmin : ∀ j, v ≤ flow * 900 * j → k ≤ j) : slotsFor flow v = k :=
  le_antisymm ((slotsFor_le_iff hf).2 hk) (hmin _ (slotsFor_reaches v hf))

/-! ### What is done to one order (R58, R171, R172) -/

theorem State.cancelOrder_confirmed {s : State} {i : Nat} {o : Order} (hs : o.state = .confirmed) (why : CloseReason) :
    s.cancelOrder i o why =
      (s.releaseOrder o s.obk.slot).putOrder i { o with state := .cancelled, closeReason := some why } := by
  rw [State.cancelOrder, State.freeOrder, hs]

section

variable {t : State} {i n x k : Nat} {o : Order} {a : Account}

theorem State.trimOne_shortens (h : slotsFor o.flow x < o.duration) :
    t.trimOne i o x =
      (t.trimOrder i o (slotsFor o.flow x)).tally (fun c => { c with shortened := countUp c.shortened 1 }) :=
  if_pos h

theorem State.trimOne_cancels (h : o.duration ≤ slotsFor o.flow x) :
    t.trimOne i o x = ((t.cancelOrder i o .curtailed).markOrder i).tally
      (fun c => { c with cancelled := countUp c.cancelled 1 }) :=
  if_neg (Nat.not_lt.2 h)

theorem State.excess_of_account? (h : t.account? n = some a) : t.excess n = a.reserved - a.room := by
  rw [State.excess, h]

/-- The excess of an account after the order of one of its entries has been written. -/
theorem State.putOrder_excess {o' : Order} (ha : t.account? n = some a) (ho : cell? t.obk.orders i = some o)
    (hn : o'.account = n) : (t.putOrder i o').excess n = a.reserved + o'.share - o.share - a.room := by
  have hread : (t.putOrder i o').account? n = some (t.entered i o' a) := by
    rw [State.putOrder_account?_eq, if_pos hn.symm, ha]
    rfl
  rw [State.excess_of_account? hread, State.entered, cellSum_of_cell? ho]
  rfl

/-- A CONFIRMED order of account n has taken no water yet and its ordered volume is that of its window. -/
def State.trimmable (n : Nat) (s : State) : Prop :=
  ∀ e ∈ s.obk.orders, e.2.account = n → e.2.state = .confirmed →
    0 < e.2.flow ∧ e.2.delivered = 0 ∧ e.2.ordered = e.2.flow * 900 * e.2.duration

/-- An order trimmed by its last k slots (R58). -/
def Order.trimmedBy (k : Nat) (o : Order) : Order :=
  { o with duration := o.duration - k, ordered := volume o.flow (o.duration - k) }

theorem State.trimOrder_eq (t : State) (i : Nat) (o : Order) (k : Nat) :
    t.trimOrder i o k =
      ((t.withRing (t.cal.release (t.reachOf o) (o.endSlot - k) o.endSlot o.flow t.obk.slot)).putOrder i
        (o.trimmedBy k)).markOrder i := rfl

/-- A trim by the fewest whole slots that reach the excess leaves none (R171). -/
theorem Booked.trimOrder_fits (h : Booked t) (ho : cell? t.obk.orders i = some o) (hn : o.account = n)
    (hs : o.state = .confirmed) (hd : o.delivered = 0) (hv : o.ordered = o.flow * 900 * o.duration)
    (hx : t.excess n ≤ o.flow * 900 * k) (hk : k < o.duration) : (t.trimOrder i o k).excess n = 0 := by
  obtain ⟨a, ha⟩ := Option.isSome_iff_exists.1 (h.owned i o ho)
  rw [hn] at ha
  obtain ⟨horders, haccounts⟩ := Prod.mk.inj (t.withRing_books
    (t.cal.release (t.reachOf o) (o.endSlot - k) o.endSlot o.flow t.obk.slot))
  have hshare : ∀ o' : Order, o'.state = .confirmed → o'.delivered = 0 → o'.share = o'.ordered := by
    intro o' hs' hd'
    rw [Order.share_eq, if_pos (.inl hs'), hd', Nat.sub_zero]
  have hsplit : volume o.flow (o.duration - k) + o.flow * 900 * k = o.flow * 900 * o.duration := by
    rw [volume, ← Nat.mul_add, Nat.sub_add_cancel hk.le]
  have hwritten := State.putOrder_excess (o' := o.trimmedBy k) ((congrArg (cell? · n) haccounts).trans ha)
    ((congrArg (cell? · i) horders).trans ho) hn
  rw [hshare _ hs hd, hshare (o.trimmedBy k) hs hd, hv] at hwritten
  rw [State.excess_of_account? ha] at hx
  rw [State.trimOrder_eq]
  refine hwritten.trans ?_
  change a.reserved + volume o.flow (o.duration - k) - o.flow * 900 * o.duration - a.room = 0
  omega

theorem State.cancelOrder_orders (hs : o.state = .confirmed) (why : CloseReason) :
    (t.cancelOrder i o why).obk.orders =
      setCell t.obk.orders i { o with state := .cancelled, closeReason := some why } := by
  rw [State.cancelOrder_confirmed hs, State.putOrder_orders, State.releaseOrder, State.withRing_obk]

theorem State.drainOne_orders : (t.drainOne i o).obk.orders =
    setCell t.obk.orders i
      { o with
        state := .closing, closeReason := some .curtailed, suspendReason := none, cut := some t.obk.slot
        ordered := volume o.flow (t.obk.slot + 1 - o.start) } := by
  change (State.putOrder i _ _).obk.orders = _
  rw [State.putOrder_orders, State.releaseOrder, State.withRing_obk]

/-- An order that is written and is not CONFIRMED leaves an account's other orders as they were. -/
theorem State.trimmable_setCell {u : State} {o' : Order} (h : t.trimmable n)
    (hu : u.obk.orders = setCell t.obk.orders i o') (hs : o'.state ≠ .confirmed) : u.trimmable n := by
  intro e he hn hc
  rw [hu] at he
  rcases mem_setCell he with rfl | hm
  · exact absurd hc hs
  · exact h e hm hn hc

end

/-! ### Both walks end (R171, R172) -/

theorem Booked.trimLoop_ends {t : State} {n : Nat} (changed : Bool) (h : Booked t) (ht : t.trimmable n) :
    (State.trimLoop n t.obk.orders.length (t, changed)).1.excess n = 0 ∨
      ∀ e ∈ (State.trimLoop n t.obk.orders.length (t, changed)).1.obk.orders,
        e.2.account = n → e.2.state ≠ .confirmed := by
  rw [State.trimLoop_eq]
  have hend := walkBack_ends (n := n) (p := fun o => decide (o.state = .confirmed))
    (act := fun i o s => s.trimOne i o (s.excess n)) (acc := (t, changed)) (fun u => Booked u ∧ u.trimmable n)
    (fun u i o ⟨hu, hut⟩ hm hn hp => ?_) ⟨h, ht⟩ (figure_counted_le n _ _)
  · exact hend.imp_right fun hall e he hn => of_decide_eq_false (hall e he hn)
  have ho := cell?_of_mem hu.ordersRise hm
  have hs : o.state = .confirmed := of_decide_eq_true hp
  obtain ⟨hf, hd, hv⟩ := hut (i, o) hm hn hs
  rcases Nat.lt_or_ge (slotsFor o.flow (u.excess n)) o.duration with hk | hk
  · refine .inl ?_
    rw [State.trimOne_shortens hk]
    exact hu.trimOrder_fits ho hn hs hd hv (slotsFor_reaches _ hf) hk
  · have horders : (u.trimOne i o (u.excess n)).obk.orders =
        setCell u.obk.orders i { o with state := .cancelled, closeReason := some .curtailed } := by
      rw [State.trimOne_cancels hk]
      exact State.cancelOrder_orders hs .curtailed
    refine .inr ⟨⟨hu.trimOne _ ho, State.trimmable_setCell hut horders nofun⟩, ?_⟩
    rw [horders]
    exact hu.figure_counted_lt ho hn hp rfl

theorem Booked.drainLoop_ends {t : State} (n : Nat) (changed : Bool) (h : Booked t) :
    (State.drainLoop n t.obk.orders.length (t, changed)).1.excess n = 0 ∨
      ∀ e ∈ (State.drainLoop n t.obk.orders.length (t, changed)).1.obk.orders,
        e.2.account = n → e.2.due = false := by
  rw [State.drainLoop_eq]
  refine walkBack_ends Booked (fun u i o hu hm hn hp => .inr ?_) h (figure_counted_le n _ _)
  have ho := cell?_of_mem hu.ordersRise hm
  refine ⟨hu.drainOne ho, ?_⟩
  rw [State.drainOne_orders]
  exact hu.figure_counted_lt ho hn hp rfl

end Sys2Proof.Machine
end

section
/-! CURTAIL_STEP visits the account at the cursor (R170 to R173). -/

namespace Sys2Proof.Machine

section

variable {s : State} {w : Sweep} {a : Account} {q : Nat} {d : Drain}

/-- An account that is not CLOSED and has the sweep's class, if the sweep has one (R170). -/
def Sweep.curtails (w : Sweep) (a : Account) : Prop :=
  a.state ≠ .closed ∧ ∀ c, w.actual = .cls c → a.cls = c

theorem State.curtailVisit_passes (h : ∀ a, s.account? w.cursor = some a → ¬w.curtails a) :
    s.curtailVisit w = s.moveCursor (w.cursor + 1) := by
  unfold State.curtailVisit
  split
  · rfl
  · next a ha => rw [if_neg fun hc => h a ha (hc.imp_right (Scope.admits_iff _ a).1)]

theorem State.curtailVisit_curtails (ha : s.account? w.cursor = some a) (hin : w.curtails a) (hq : w.share = some q)
    (hd : w.drain = some d) :
    s.curtailVisit w = (s.curtailAccount w.cursor a q d).moveCursor (w.cursor + 1) := by
  unfold State.curtailVisit
  rw [ha]
  dsimp only
  rw [if_pos (hin.imp_right (Scope.admits_iff _ a).2), hq, hd]
  rfl

theorem State.reviseAccount_of_account? {n : Nat} (ha : s.account? n = some a) (f : Account → Account) :
    s.reviseAccount n f = s.setAccount n (a.revise f) := by
  rw [State.reviseAccount, ha]

/-- The step of an account: its curtailment, the trims, with STOP_RUNNING the drain, then what is owed and counted. -/
theorem State.curtailAccount_eq {n : Nat} (ha : s.account? n = some a) :
    s.curtailAccount n a q d =
      let trimmed := State.trimLoop n s.obk.orders.length
        (s.setAccount n (a.revise fun a => { a with curtailment := q }), false)
      let drained := if d = .letRun then trimmed else State.drainLoop n s.obk.orders.length trimmed
      let owing := if drained.2 = true ∨ a.curtailment < q then drained.1.owe else drained.1
      if drained.2 = true ∨ a.curtailment ≠ q then owing.accountChanged n else owing := by
  rw [← State.reviseAccount_of_account? ha]
  cases d <;> rfl

end

/-- Settles O51: the visit by what stands at the cursor; the trims and the drain are one walk, which ends as each act
removes the excess or leaves one order fewer to take. -/
theorem curtailStepTrimsThenDrains : Obligations.CurtailStepTrimsThenDrains := by
  unfold Obligations.CurtailStepTrimsThenDrains
  intro count
  refine ⟨fun s hs => ?unstarted, fun s w hs => ?visit, fun t n b hb => State.accountChanged_of_account? hb,
    fun t n a ha => State.excess_of_account? ha, fun t n fuel changed => ?walk, fun t n changed hb => ?ends,
    fun t i o x k hs hf hk hmin => ?trim, fun t i o => rfl⟩
  case unstarted => exact (exec_curtailStep s).trans (State.onVisit_unstarted hs)
  case visit =>
    intro visits n inScope moved
    refine ⟨fun hv => ?_, fun hv hout => ?_, fun hv a q d ha hin hq hd => ?_⟩
    · exact (exec_curtailStep s).trans (State.onVisit_idle hs hv)
    · rw [exec_curtailStep, State.onVisit_visits hs hv, State.curtailVisit_passes hout]
      rfl
    · rw [exec_curtailStep, State.onVisit_visits hs hv, State.curtailVisit_curtails ha hin hq hd,
        State.curtailAccount_eq ha]
      rfl
  case walk =>
    intro confirmed due
    have hdue : t.obk.lastOf n Order.due = due := by
      refine congrArg (fun q => (t.obk.accountChain n).reverse.find? q) (funext fun e => ?_)
      exact Bool.eq_iff_iff.2 (e.2.due_iff.trans decide_eq_true_iff.symm)
    simp only [State.trimLoop_eq, State.drainLoop_eq]
    exact ⟨fun hx => ⟨walkBack_fits hx, walkBack_fits hx⟩, fun hc => walkBack_none hc,
      fun hd => walkBack_none (hdue.trans hd), fun i o hx hc => walkBack_step hx hc,
      fun i o hx hd => walkBack_step hx (hdue.trans hd)⟩
  case ends =>
    have hbooked := (booked_iff t).1 hb
    exact ⟨hbooked.drainLoop_ends n changed, fun ht => hbooked.trimLoop_ends changed ht⟩
  case trim =>
    intro frees
    have hslots : slotsFor o.flow x = k := slotsFor_eq hf hk hmin
    refine ⟨fun hlt => ?_, fun hle => ?_⟩
    · rw [State.trimOne_shortens (hslots.trans_lt hlt), hslots]
      rfl
    · rw [State.trimOne_cancels (hle.trans_eq hslots.symm), State.cancelOrder_confirmed hs]
      rfl

end Sys2Proof.Machine
end

section
/-! SUPPLY_BUMP_STEP visits the slot at the cursor (R174 to R176). -/

namespace Sys2Proof.Machine

/-! ### The orders to bump (R27, R175) -/

/-- The order's head window contains slot k (R27). -/
def State.headCovers (s : State) (k : Nat) (o : Order) : Prop :=
  o.start ≤ k + (lagOf s.cal.reaches (s.reachOf o) - lagOf s.cal.reaches 0) ∧
    k + (lagOf s.cal.reaches (s.reachOf o) - lagOf s.cal.reaches 0) < o.start + o.duration

theorem State.headWindow_iff (s : State) (o : Order) (k : Nat) : s.headWindow o k = true ↔ s.headCovers k o :=
  Bool.and_eq_true_iff.trans (and_congr decide_eq_true_iff decide_eq_true_iff)

/-- The latest placed come first (R175). -/
theorem sorted_sortBy_laterPlaced (l : List (Nat × Order)) :
    (sortBy laterPlaced l).Pairwise fun x y => y.2.sequence ≤ x.2.sequence := by
  have hiff : ∀ x y, laterPlaced x y = false ↔ x.2.sequence ≤ y.2.sequence := by simp [laterPlaced]
  refine (pairwise_sortBy (fun x y hxy => ?_) (fun x y z hyx hzy => ?_) l).imp fun h => (hiff _ _).1 h
  · exact (hiff y x).2 (of_decide_eq_true hxy).le
  · exact (hiff z x).2 (((hiff z y).1 hzy).trans ((hiff y x).1 hyx))

/-! ### One order is bumped (R58, R176) -/

theorem Calendar.headOver_iff (c : Calendar) (k : Nat) :
    c.headOver k = true ↔ c.capacityIn 0 k < c.committedIn 0 k := decide_eq_true_iff

section

variable {t : State} {k i : Nat} {o : Order} {e : Nat × Order}

theorem bumpOne_fits (h : t.cal.headOver k = false) : bumpOne k t e = t := if_neg (ne_true_of_eq_false h)

theorem bumpOne_over (h : t.cal.headOver k = true) :
    bumpOne k t (i, o) = (t.bumpOrder i o).1.owe.tally (fun c =>
      { c with
        bumped := countUp c.bumped 1
        requeued := countUp c.requeued (if (t.bumpOrder i o).2 then 1 else 0) }) :=
  if_pos h

/-- A bumped order waits on, and the waiting list and the placement sequence have room for it (R176). -/
def State.requeues (t : State) (o : Order) : Prop :=
  o.conflict = .queue ∧ t.obk.waiting.length < 96 ∧ t.obk.sequence < 4294967295

theorem State.bumpOrder_requeues (h : t.requeues o) :
    t.bumpOrder i o =
      (((({ t.releaseOrder o t.obk.slot with obk.sequence := t.obk.sequence + 1 } : State).putOrder i
          { o with state := .pendingWait, sequence := t.obk.sequence + 1 }).joinWaiting
        (t.obk.handle i)).markOrder i, true) := by
  have hobk : (t.releaseOrder o t.obk.slot).obk = t.obk := State.withRing_obk _ _
  refine (if_pos h).trans ?_
  simp only [hobk]
  rfl

theorem State.bumpOrder_cancels (hs : o.state = .confirmed) (h : ¬t.requeues o) :
    t.bumpOrder i o =
      (((t.releaseOrder o t.obk.slot).putOrder i
        { o with state := .cancelled, closeReason := some .bumped }).markOrder i, false) := by
  rw [← State.cancelOrder_confirmed hs]
  exact if_neg h

end

/-! ### The visit of a slot (R174, R175) -/

section

variable {s : State} {w : Sweep} {k : Nat}

/-- The state after the bumps of a slot. -/
def State.bumpedAt (k : Nat) (s : State) : State := (s.bumpList k).foldl (bumpOne k) s

/-- A slot that fits has nothing bumped. -/
theorem State.bumpedAt_fits (h : s.cal.headOver k = false) : s.bumpedAt k = s :=
  List.foldl_fixed' (fun _ => bumpOne_fits h) _

theorem State.bumpSlot_fits (h : (s.bumpedAt k).cal.headOver k = false) :
    s.bumpSlot k = { s.bumpedAt k with cal := (s.bumpedAt k).cal.setHeadMark k .unmarked } :=
  if_neg (ne_true_of_eq_false h)

theorem State.bumpSlot_short (h : (s.bumpedAt k).cal.headOver k = true) :
    s.bumpSlot k =
      ({ s.bumpedAt k with cal := (s.bumpedAt k).cal.setHeadMark k .shortfall } : State).report .headShortfall
        (.number k) :=
  if_pos h

theorem State.bumpVisit_passes (h : w.cursor < s.cal.slot ∨ s.cal.headMark w.cursor ≠ .bumpPending) :
    s.bumpVisit w = s.moveCursor (w.cursor + 1) := by
  have hout : ¬(s.cal.slot ≤ w.cursor ∧ s.cal.headMark w.cursor = .bumpPending) := by
    rwa [not_and_or, Nat.not_le]
  rw [State.bumpVisit, if_neg hout]

theorem State.bumpVisit_marked (hk : s.cal.slot ≤ w.cursor) (hm : s.cal.headMark w.cursor = .bumpPending) :
    s.bumpVisit w = (s.bumpSlot w.cursor).moveCursor (w.cursor + 1) := by
  rw [State.bumpVisit, if_pos ⟨hk, hm⟩]

end

/-- Settles O52: the visit by the mark of the slot at the cursor and by whether it fits before and after its bumps; a
bump by whether the order is re-queued. -/
theorem supplyBumpStepBumpsTheNewestOrders : Obligations.SupplyBumpStepBumpsTheNewestOrders := by
  unfold Obligations.SupplyBumpStepBumpsTheNewestOrders
  intro count overfull
  have hover : ∀ t k, overfull t k ↔ t.cal.headOver k = true := fun t k => (t.cal.headOver_iff k).symm
  have hfits : ∀ t k, ¬overfull t k ↔ t.cal.headOver k = false := fun t k => by
    rw [hover, Bool.not_eq_true]
  refine ⟨fun s hs => ?unstarted, fun s w hs => ?visit, fun s k => ?list, fun t k i o hs => ?bump⟩
  case unstarted => exact (exec_supplyBumpStep s).trans (State.onVisit_unstarted hs)
  case visit =>
    intro visits k moved bumped cleared
    have hvisit : visits → exec .supplyBumpStep s = .next (s.bumpVisit w).arbitrate := fun hv =>
      (exec_supplyBumpStep s).trans (State.onVisit_visits hs hv)
    refine ⟨fun hv => (exec_supplyBumpStep s).trans (State.onVisit_idle hs hv), fun hv hout => ?_,
      fun hv hk hm => ⟨fun hfit => ?_, fun _ hfit => ?_, fun _ hshort => ?_⟩⟩
    · rw [hvisit hv, State.bumpVisit_passes hout]
      rfl
    · have hsame : s.bumpedAt k = s := State.bumpedAt_fits ((hfits s k).1 hfit)
      rw [hvisit hv, State.bumpVisit_marked hk hm, State.bumpSlot_fits (hsame.symm ▸ (hfits s k).1 hfit), hsame]
      rfl
    · rw [hvisit hv, State.bumpVisit_marked hk hm, State.bumpSlot_fits ((hfits bumped k).1 hfit)]
      rfl
    · rw [hvisit hv, State.bumpVisit_marked hk hm, State.bumpSlot_short ((hover bumped k).1 hshort)]
      rfl
  case list =>
    intro covers
    refine ⟨(sortBy_perm _ _).trans (.of_eq (List.filter_congr fun e _ => ?_)), sorted_sortBy_laterPlaced _⟩
    have hcovers : s.headWindow e.2 k = true ↔ covers e.2 := s.headWindow_iff e.2 k
    rw [Bool.eq_iff_iff, Bool.and_eq_true, decide_eq_true_iff, decide_eq_true_iff, hcovers]
  case bump =>
    intro freed room owing
    refine ⟨fun h => bumpOne_fits ((hfits t k).1 h), fun h hr => ?_, fun h hr => ?_⟩
    · rw [bumpOne_over ((hover t k).1 h), State.bumpOrder_requeues hr]
      rfl
    · rw [bumpOne_over ((hover t k).1 h), State.bumpOrder_cancels hs hr]
      rfl

end Sys2Proof.Machine
end

section
/-! PERIOD_CLOSE_STEP and SEASON_OPEN_STEP close the period of the account at the cursor, and SWEEP_END ends the sweep
(R160, R167, R177, R179). -/

namespace Sys2Proof.Machine

/-! ### The close of a period, and what is written on the account after it (R160) -/

section

variable {s : State} {n : Nat} {a b : Account} {w : Sweep}

theorem State.setAccount_setAccount (s : State) (n : Nat) (a b : Account) :
    (s.setAccount n a).setAccount n b = s.setAccount n b :=
  congrArg (fun t => { s with accounts := t }) (setCell_setCell s.accounts n a b)

/-- The state with a list of entries retired. -/
def State.retireAll (l : List (Nat × Order)) (s : State) : State := l.foldl (fun u e => u.retireEntry e.1) s

/-- Retiring orders and writing an account go by different tables. -/
theorem State.retireAll_setAccount (l : List (Nat × Order)) (s : State) (n : Nat) (a : Account) :
    (s.retireAll l).setAccount n a = (s.setAccount n a).retireAll l := by
  induction l generalizing s with
  | nil => rfl
  | cons e l ih => exact ih (s.retireEntry e.1)

/-- What the retirement of one order keeps, that of a list keeps. -/
theorem State.retireAll_keeps {γ : Type} (g : State → γ) (hg : ∀ u i, g (u.retireEntry i) = g u)
    (l : List (Nat × Order)) (s : State) : g (s.retireAll l) = g s :=
  foldl_keeps g (fun u (e : Nat × Order) => u.retireEntry e.1) (fun u e => hg u e.1) l s

theorem State.closePeriod_account? (ha : s.account? n = some a) :
    (s.closePeriod n).account? n = some (a.closePeriod s.cal.clock) := by
  have haccounts := State.retireAll_keeps State.accounts (fun _ _ => rfl) (s.obk.finished n)
    (s.setAccount n (a.closePeriod s.cal.clock))
  rw [State.closePeriod_eq ha]
  exact (congrArg (cell? · n) haccounts).trans (cell?_setCell_self _ _ _)

/-- An account written after the close of its period: the period's own record of it does not last. -/
theorem State.closePeriod_setAccount (ha : s.account? n = some a) (b : Account) :
    (s.closePeriod n).setAccount n b = (s.setAccount n b).retireAll (s.obk.finished n) := by
  rw [State.closePeriod_eq ha]
  refine (State.retireAll_setAccount _ _ n b).trans ?_
  rw [State.setAccount_setAccount]

theorem State.closePeriod_status (ha : s.account? n = some a) :
    (s.closePeriod n).sweep.status = s.sweep.status := by
  rw [State.closePeriod_eq ha]
  exact State.retireAll_keeps (fun u => u.sweep.status) (fun _ _ => rfl) _ _

/-- The sweep w has counted the account at its cursor and moved on. -/
def State.steppedBy (w : Sweep) (s : State) : State :=
  { s with
    sweep.status := some
      { w with cursor := w.cursor + 1, counts := { w.counts with changed := countUp w.counts.changed 1 } } }

theorem State.accountChanged_moveCursor (hs : s.sweep.status = some w) (hb : s.account? n = some b) :
    (s.accountChanged n).moveCursor (w.cursor + 1) = (s.setAccount n { b with mark := true }).steppedBy w := by
  rw [State.accountChanged_of_account? hb]
  exact State.tally_moveCursor (s := s.setAccount n _) hs _ _

/-! ### PERIOD_CLOSE_STEP (R177) -/

theorem State.closeVisit_passes (h : ∀ a, s.account? w.cursor = some a → ¬w.actual.admits a = true) :
    s.closeVisit w = s.moveCursor (w.cursor + 1) := by
  unfold State.closeVisit
  split
  · rfl
  · next a ha => rw [if_neg (h a ha)]

theorem State.closeVisit_closes (hs : s.sweep.status = some w) (ha : s.account? w.cursor = some a)
    (hin : w.actual.admits a = true) :
    s.closeVisit w =
      ((s.setAccount w.cursor { a.closePeriod s.cal.clock with mark := true }).retireAll
        (s.obk.finished w.cursor)).steppedBy w := by
  have hclosed := State.closePeriod_account? ha
  rw [State.closeVisit, ha]
  dsimp only
  rw [if_pos hin, State.accountChanged_moveCursor ((State.closePeriod_status ha).trans hs) hclosed,
    State.closePeriod_setAccount ha]

/-! ### SEASON_OPEN_STEP (R179) -/

theorem State.seasonVisit_passes (h : s.account? w.cursor = none) :
    s.seasonVisit w = s.moveCursor (w.cursor + 1) := by
  rw [State.seasonVisit, h]

/-- The account after its step of a new season: its period closed, its season volumes and its residual at 0. -/
def Account.reopened (minute : Nat) (a : Account) : Account :=
  { a.closePeriod minute with
    seasonOrdered := 0, seasonUnordered := 0, seasonFrost := 0, seasonEstimated := 0, residual := 0, mark := true }

/-- The turnouts that name the account have their season volumes returned to 0 (R179, effect 4). -/
def State.newSeasonPoints (n : Nat) (s : State) : State :=
  { s with points := s.points.map (fun e => (e.1, e.2.newSeason n)) }

theorem State.seasonAccount_eq (ha : s.account? n = some a) :
    s.seasonAccount n =
      (((s.closePeriod n).setAccount n (a.closePeriod s.cal.clock).newSeason).newSeasonPoints n).accountChanged
        n := by
  rw [State.seasonAccount, State.closePeriod_account? ha]
  rfl

theorem State.seasonVisit_opens (hs : s.sweep.status = some w) (ha : s.account? w.cursor = some a) :
    s.seasonVisit w =
      (((s.setAccount w.cursor (a.reopened s.cal.clock)).retireAll (s.obk.finished w.cursor)).newSeasonPoints
        w.cursor).steppedBy w := by
  have hnew : (((s.closePeriod w.cursor).setAccount w.cursor (a.closePeriod s.cal.clock).newSeason).newSeasonPoints
      w.cursor).account? w.cursor = some (a.closePeriod s.cal.clock).newSeason := cell?_setCell_self _ _ _
  rw [State.seasonVisit, ha]
  dsimp only
  rw [State.seasonAccount_eq ha, State.accountChanged_moveCursor ?status hnew]
  case status => exact (State.closePeriod_status ha).trans hs
  change ((((s.closePeriod w.cursor).setAccount w.cursor _).setAccount w.cursor
    (a.reopened s.cal.clock)).newSeasonPoints w.cursor).steppedBy w = _
  rw [State.setAccount_setAccount, State.closePeriod_setAccount ha]

/-! ### SWEEP_END (R167) -/

theorem exec_sweepEnd_ends (hs : s.sweep.status = some w) (h : w.state = .inProgress ∧ w.actual.limit ≤ w.cursor) :
    exec .sweepEnd s = .next (s.closeSweep .done).reexamine.arbitrate := by
  change execSweepEnd s = _
  rw [execSweepEnd, hs]
  exact if_pos (h.imp_right w.over_eq_true.2)

theorem exec_sweepEnd_goes_on (hs : s.sweep.status = some w)
    (h : ¬(w.state = .inProgress ∧ w.actual.limit ≤ w.cursor)) : exec .sweepEnd s = .next s := by
  change execSweepEnd s = _
  rw [execSweepEnd, hs]
  exact if_neg fun hc => h (hc.imp_right w.over_eq_true.1)

theorem exec_sweepEnd_unstarted (hs : s.sweep.status = none) : exec .sweepEnd s = .next s := by
  change execSweepEnd s = _
  rw [execSweepEnd, hs]

theorem State.closeSweep_of_status (hs : s.sweep.status = some w) (st : SweepState) :
    s.closeSweep st = { s with sweep := { status := some { w with state := st }, done := true } } := by
  rw [State.closeSweep, hs]
  rfl

end

/-- Settles O53: the visits by what stands at the cursor, each written account after the orders it retires; the end by
whether the cursor has passed the scope. -/
theorem closeAndSeasonStepsAndTheSweepEnd : Obligations.CloseAndSeasonStepsAndTheSweepEnd := by
  refine ⟨fun s hs => ?unstarted, fun _ _ _ _ _ => ⟨rfl, rfl, rfl, rfl⟩, fun s w hs => ?started⟩
  case unstarted =>
    exact ⟨(exec_periodCloseStep s).trans (State.onVisit_unstarted hs),
      (exec_seasonOpenStep s).trans (State.onVisit_unstarted hs), exec_sweepEnd_unstarted hs⟩
  case started =>
    intro n visits passed stepped finished closed
    have hpassed : s.moveCursor (w.cursor + 1) = passed := State.moveCursor_of_status hs _
    have hadmits := fun a => w.actual.admits_iff a
    refine ⟨fun hv => (exec_periodCloseStep s).trans (State.onVisit_idle hs hv), fun hv => ?close,
      fun hv => (exec_seasonOpenStep s).trans (State.onVisit_idle hs hv), fun hv => ?season, fun hi hl => ?ends,
      exec_sweepEnd_goes_on hs⟩
    case close =>
      rw [exec_periodCloseStep, State.onVisit_visits hs hv]
      refine ⟨fun hout => ?_, fun a ha hin => ?_⟩
      · refine congrArg _ ((State.closeVisit_passes fun a ha hin => ?_).trans hpassed)
        obtain ⟨c, hc, hne⟩ := hout a ha
        exact hne ((hadmits a).1 hin c hc)
      · exact congrArg _ (State.closeVisit_closes hs ha ((hadmits a).2 hin))
    case season =>
      rw [exec_seasonOpenStep, State.onVisit_visits hs hv]
      refine ⟨fun ha => congrArg _ ((State.seasonVisit_passes ha).trans hpassed), fun a ha => ?_⟩
      have hpoints := State.retireAll_keeps State.points (fun _ _ => rfl) (s.obk.finished w.cursor)
        (s.setAccount w.cursor (a.reopened s.cal.clock))
      rw [State.seasonVisit_opens hs ha, State.newSeasonPoints, hpoints]
      rfl
    case ends => rw [exec_sweepEnd_ends hs ⟨hi, hl⟩, State.closeSweep_of_status hs]

end Sys2Proof.Machine
end

section
/-! The Fault Unit takes a report: which record takes it, what is counted, and whether the line is to be held (R183 to
R188). -/

namespace Sys2Proof.Machine

/-! ### One severity's record and set (R184) -/

/-- The record of the report's severity takes it; those of the other severities stay as they are. -/
theorem Faults.take_eq {f : Faults} {r : ErrorRecord} {v : Nat} (hsev : f.severityOf (errorCode r.kind) = v)
    (hv : v ≤ 2) : f.take r = { f with
      note := if v = 0 then f.note.take r else f.note
      attend := if v = 1 then f.attend.take r else f.attend
      stop := if v = 2 then f.stop.take r else f.stop
      counter := if f.selected = some (errorCode r.kind) then min 65535 (f.counter + 1) else f.counter } := by
  have hcases : v = 0 ∨ v = 1 ∨ v = 2 := by omega
  unfold Faults.take
  rw [hsev]
  dsimp only
  rcases hcases with rfl | rfl | rfl
  · split <;> rfl
  · split <;> rfl
  · split <;> rfl

theorem execErrorReport_absent {s : State} {kind : ErrorKind} {ref : ErrorRef}
    (h : { kind := kind, ref := ref } ∉ s.mail.reports) : execErrorReport kind ref s = .next s := by
  unfold execErrorReport
  rw [takeOne_none h]

theorem execErrorReport_first {s : State} {kind : ErrorKind} {ref : ErrorRef} {before after : List Report}
    (hmail : s.mail.reports = before ++ { kind := kind, ref := ref } :: after)
    (h : { kind := kind, ref := ref } ∉ before) :
    execErrorReport kind ref s = .next { s with
      faults := s.faults.take { kind := kind, ref := ref, minute := s.cal.clock }
      mail.reports := before ++ after
      mail.holds := s.mail.holds + if s.faults.severityOf (errorCode kind) = 2 then 1 else 0 } := by
  unfold execErrorReport
  rw [hmail, takeOne_first after h]

/-- Settles O54: an outstanding report is the first of its like in the list, the map's severity chooses one of the three
records, and a set takes a kind as a rising list does. -/
theorem errorReportFillsTheFirstRecord : Obligations.ErrorReportFillsTheFirstRecord := by
  refine ⟨?taken, fun s kind ref h => execErrorReport_absent h, fun l k m => mem_addTo, fun l k h => pairwise_addTo h, rfl⟩
  case taken =>
    intro s kind ref before after x code v taken hmail hx hv
    have hsev : s.faults.severityOf code = v := List.getD_eq_getElem?_getD ..
    have hholds : s.mail.holds + (if v = 2 then 1 else 0) = if v = 2 then s.mail.holds + 1 else s.mail.holds := by
      split <;> rfl
    refine (execErrorReport_first hmail hx).trans ?_
    rw [Faults.take_eq hsev hv, hsev, hholds]
    rfl

end Sys2Proof.Machine
end

section
/-! The requests of the Fault Unit and the attention mask, each by its checks and the one record it writes (R182, R185 to
R187, R190). -/

namespace Sys2Proof.Machine

section

variable {s : State} {k v : Nat}

/-! ### ERROR_CLEAR (R185) -/

theorem refuses_errorClear (h : s.handed (.errorClear v) = true) (hv : 2 < v) :
    Refuses (.errorClear v) s .badParam :=
  completes_of_handed rfl h (if_pos hv) rfl

theorem completes_errorClear (h : s.handed (.errorClear v) = true) (hv : v ≤ 2) :
    Completes (.errorClear v) s { s with faults := s.faults.setEpisode v .empty }
      (answer .done (s.faults.episode v).bytes) :=
  completes_of_handed rfl h (if_neg (Nat.not_lt.2 hv)) rfl

/-! ### SEVERITY_SET (R182) -/

theorem refuses_severitySet (h : s.handed (.severitySet k v) = true) (hk : 12 < k) :
    Refuses (.severitySet k v) s .badParam :=
  completes_of_handed rfl h (if_pos hk) rfl

theorem completes_severitySet (h : s.handed (.severitySet k v) = true) (hk : k ≤ 12) :
    Completes (.severitySet k v) s { s with faults.severities := s.faults.severities.set k (min v 2) }
      (answer .done (be8 k ++ be8 (min v 2))) :=
  completes_of_handed rfl h (if_neg (Nat.not_lt.2 hk)) rfl

/-- The map after one entry is written. -/
theorem Faults.severityOf_set {f : Faults} {k : Nat} (w j : Nat) (hk : k < f.severities.length) :
    ({ f with severities := f.severities.set k w } : Faults).severityOf j = if j = k then w else f.severityOf j := by
  simp only [Faults.severityOf, List.getD_eq_getElem?_getD, List.getElem?_set]
  by_cases hj : j = k
  · simp [hj, hk]
  · simp [hj, Ne.symm hj]

/-! ### COUNT_SELECT (R186) -/

theorem kindAbove_iff (k : Option Nat) : k.any (fun j => decide (12 < j)) = true ↔ ∃ j, k = some j ∧ 12 < j := by
  simp [Option.any_eq_true]

theorem refuses_countSelect {k : Option Nat} (h : s.handed (.countSelect k) = true) (hk : ∃ j, k = some j ∧ 12 < j) :
    Refuses (.countSelect k) s .badParam :=
  completes_of_handed rfl h (if_pos ((kindAbove_iff k).2 hk)) rfl

theorem completes_countSelect {k : Option Nat} (h : s.handed (.countSelect k) = true) (hk : ∀ j, k = some j → j ≤ 12) :
    Completes (.countSelect k) s { s with faults.selected := k, faults.counter := 0 }
      (answer .done (opt8 s.faults.selected ++ be16 s.faults.counter)) := by
  refine completes_of_handed rfl h (if_neg fun hany => ?_) rfl
  obtain ⟨j, hj, habove⟩ := (kindAbove_iff k).1 hany
  exact Nat.not_lt.2 (hk j hj) habove

/-! ### ERROR_QUERY (R187) and ATTENTION_MASK (R190) -/

theorem completes_errorQuery (h : s.handed .errorQuery = true) :
    Completes .errorQuery s s (answer .done
      (s.faults.note.bytes ++ s.faults.attend.bytes ++ s.faults.stop.bytes ++ opt8 s.faults.selected ++
        be16 s.faults.counter ++ s.faults.severities.flatMap be8)) := by
  have hmap : s.faults.severities.map (BitVec.ofNat 8) = s.faults.severities.flatMap be8 := List.map_eq_flatMap
  rw [← hmap]
  exact completes_of_handed rfl h rfl rfl

theorem completes_attentionMask {a b c d : Nat} (h : s.handed (.attentionMask a b c d) = true) :
    let m : Mask :=
      { error := decide (a ≠ 0), sweepDone := decide (b ≠ 0), orderMarks := decide (c ≠ 0),
        accountMarks := decide (d ≠ 0) }
    Completes (.attentionMask a b c d) s { s with port.mask := m } (answer .done (m.bytes ++ s.causeBytes)) := by
  simp only [← bne_iff_ne, Bool.decide_eq_true]
  exact completes_of_handed rfl h rfl rfl

end

/-- Settles O5: past the check of the kind, one entry of the map is written. -/
theorem severitySetWritesTheMap : Obligations.SeveritySetWritesTheMap := by
  refine fun s k v h => ⟨refuses_severitySet h, fun hk hlen => ⟨_, completes_severitySet h hk, rfl, fun j => ?_⟩⟩
  exact Faults.severityOf_set _ j (by omega)

/-- Settles O55: each request by its checks, and past them the one record it writes. -/
theorem faultRequestsReadAndWriteTheirRecords : Obligations.FaultRequestsReadAndWriteTheirRecords := by
  intro s f episode empty
  refine ⟨completes_errorQuery, fun v h => ⟨refuses_errorClear h, ?note, ?attend, ?stop⟩,
    fun k v h => ⟨refuses_severitySet h, completes_severitySet h⟩,
    fun k h => ⟨refuses_countSelect h, completes_countSelect h⟩, fun a b c d h => ?mask⟩
  case note | attend | stop =>
    rintro rfl
    exact completes_errorClear h (by decide)
  case mask => exact completes_attentionMask h

end Sys2Proof.Machine
end

section
/-! Record numbers stand once, rising, and the reach tree keeps its order: the five tables of O57 as one invariant, and
the operations of the field line, Release Control, the meters and the accounts (R25, R69, R106; section 1.2). -/

namespace Sys2Proof.Machine

/-! ### The invariant -/

/-- Each parent in the reach tree has the smaller number, and the entries of the capacity ring rise. -/
def Calendar.tidy (c : Calendar) : Prop := treeSound c.reaches ∧ risingKeys c.committed = true

/-- The tables of reaches, committed flows, points, stations and order change marks are in order. -/
structure Tidy (s : State) : Prop where
  cal : s.cal.tidy
  points : risingKeys s.points = true
  stations : risingKeys s.line.stations = true
  marks : s.obk.marks.Pairwise (· < ·)

theorem risingKeys_setValue {α : Type} [DecidableEq α] {t : Table α} (d : α) (k : Nat) (v : α)
    (h : risingKeys t = true) : risingKeys (setValue d t k v) = true := by
  unfold setValue
  split
  · exact risingKeys_delCell k h
  · exact risingKeys_setCell k v h

namespace Tidy

variable {s t : State}

/-! ### Records beside the five tables, and each of the five written -/

/-- The five tables. -/
def tables (s : State) : (Table Reach × Table Nat) × Table Point × Table Station × List Nat :=
  ((s.cal.reaches, s.cal.committed), s.points, s.line.stations, s.obk.marks)

theorem aside (h : Tidy s) (ht : tables t = tables s) : Tidy t := by
  simp only [tables, Prod.mk.injEq] at ht
  obtain ⟨⟨hreaches, hring⟩, hpoints, hstations, hmarks⟩ := ht
  obtain ⟨⟨htree, hrise⟩, hp, hs, hm⟩ := h
  exact ⟨⟨hreaches ▸ htree, hring ▸ hrise⟩, hpoints ▸ hp, hstations ▸ hs, hmarks ▸ hm⟩

theorem withCal {c : Calendar} (hc : c.tidy) (h : Tidy s) : Tidy { s with cal := c } :=
  ⟨hc, h.points, h.stations, h.marks⟩

theorem withPoints {ps : Table Point} (hp : risingKeys ps = true) (h : Tidy s) : Tidy { s with points := ps } :=
  ⟨h.cal, hp, h.stations, h.marks⟩

theorem withLine {l : Line} (hl : risingKeys l.stations = true) (h : Tidy s) : Tidy { s with line := l } :=
  ⟨h.cal, h.points, hl, h.marks⟩

theorem withMarks {ms : List Nat} (hm : ms.Pairwise (· < ·)) (h : Tidy s) : Tidy { s with obk.marks := ms } :=
  ⟨h.cal, h.points, h.stations, hm⟩

theorem ite {c : Prop} [Decidable c] (hs : Tidy s) (ht : Tidy t) : Tidy (if c then s else t) := by
  split
  · exact hs
  · exact ht

theorem foldl {β : Type} {f : State → β → State} (hf : ∀ s x, Tidy s → Tidy (f s x)) (l : List β)
    (h : Tidy s) : Tidy (l.foldl f s) :=
  foldl_inv Tidy f hf l s h

/-! ### One record -/

theorem setPoint (n : Nat) (p : Point) (h : Tidy s) : Tidy (s.setPoint n p) :=
  h.withPoints (risingKeys_setCell n p h.points)

theorem changePoint (n : Nat) (f : Point → Point) (h : Tidy s) : Tidy (s.changePoint n f) := by
  unfold State.changePoint
  split
  · exact h
  · exact h.setPoint n _

theorem setStation (a : Nat) (v : Station) (h : Tidy s) : Tidy (s.setStation a v) :=
  h.withLine (risingKeys_setValue _ a v h.stations)

theorem markOrder (i : Nat) (h : Tidy s) : Tidy (s.markOrder i) := h.withMarks (pairwise_addTo h.marks)

theorem markHandle (x : Option Nat) (h : Tidy s) : Tidy (s.markHandle x) := by
  unfold State.markHandle
  split
  · exact h
  · exact h.markOrder _

theorem retireEntry (i : Nat) (h : Tidy s) : Tidy (s.retireEntry i) :=
  (h.withMarks (h.marks.filter _)).aside rfl

theorem report (k : ErrorKind) (r : ErrorRef) (h : Tidy s) : Tidy (s.report k r) := h.aside rfl
theorem owe (h : Tidy s) : Tidy s.owe := h.aside rfl
theorem tally (f : Counts → Counts) (h : Tidy s) : Tidy (s.tally f) := h.aside rfl
theorem moveCursor (k : Nat) (h : Tidy s) : Tidy (s.moveCursor k) := h.aside rfl
theorem startSweep (w : Sweep) (h : Tidy s) : Tidy (s.startSweep w) := h.aside rfl
theorem closeSweep (x : SweepState) (h : Tidy s) : Tidy (s.closeSweep x) := h.aside rfl
theorem setMode (m : FieldMode) (h : Tidy s) : Tidy (s.setMode m) := h.aside rfl
theorem lineIdle (h : Tidy s) : Tidy s.lineIdle := h.aside rfl
theorem setAccount (n : Nat) (a : Account) (h : Tidy s) : Tidy (s.setAccount n a) := h.aside rfl

theorem reviseAccount (n : Nat) (f : Account → Account) (h : Tidy s) : Tidy (s.reviseAccount n f) := by
  unfold State.reviseAccount
  split
  · exact h
  · exact h.setAccount n _

theorem putOrder (i : Nat) (o : Order) (h : Tidy s) : Tidy (s.putOrder i o) :=
  h.aside (by rw [State.putOrder_frame]; rfl)

/-! ### The field side of a point, and the line's choice (chapter 6) -/

theorem reevaluate (n : Nat) (h : Tidy s) : Tidy (s.reevaluate n) := .ite h (h.changePoint n _)

theorem resend (n : Nat) (h : Tidy s) : Tidy (s.resend n) := (h.changePoint n _).reevaluate n

theorem withdraw (n : Nat) (h : Tidy s) : Tidy (s.withdraw n) := h.changePoint n _

theorem setTarget (n flow : Nat) (h : Tidy s) : Tidy (s.setTarget n flow) := by
  unfold State.setTarget
  split
  · exact h
  · exact .ite h (.ite ((h.setPoint n _).reevaluate n) (h.setPoint n _))

theorem offerPoll (h : Tidy s) : Tidy s.offerPoll := by
  unfold State.offerPoll
  split
  · exact (h.setStation _ _).aside rfl
  · exact h

theorem arbitrate (h : Tidy s) : Tidy s.arbitrate := by
  unfold State.arbitrate
  split
  · exact h
  · split
    · exact h
    · exact h.offerPoll
    · split
      · exact (h.setPoint _ _).aside rfl
      · exact h.offerPoll

/-! ### Targets, frost extra loads and modes (chapter 5) -/

theorem recheck (n : Nat) (h : Tidy s) : Tidy (s.recheck n) := by
  unfold State.recheck
  split
  · exact h
  · exact .ite (Tidy.setTarget n _ (.ite ((h.setPoint n _).report _ _) (h.setPoint n _))) h

theorem recheckAll (h : Tidy s) : Tidy s.recheckAll := h.foldl (fun _ n hs => hs.recheck n) _

theorem recheckReach (r : Nat) (h : Tidy s) : Tidy (s.recheckReach r) := by
  unfold State.recheckReach
  split
  · exact h
  · exact h.recheck _

theorem retarget (n : Nat) (h : Tidy s) : Tidy (s.retarget n) := by
  unfold State.retarget
  split
  · exact h
  · split
    · exact h.setTarget n _
    · exact h.recheck n

theorem refreshFrost (rs : List Nat) (h : Tidy s) : Tidy (s.refreshFrost rs) :=
  foldl (fun _ r hs => hs.recheckReach r) _ (h.aside rfl)

theorem refreshPath (r : Nat) (h : Tidy s) : Tidy (s.refreshPath r) := h.refreshFrost _

theorem withRing {c : Calendar} (hc : c.tidy) (h : Tidy s) : Tidy (s.withRing c) :=
  (h.withCal hc).foldl (fun _ e hs => hs.recheckReach e.1) _

theorem alignOrder (n : Nat) (m : Mode) (h : Tidy s) : Tidy (s.alignOrder n m) := by
  unfold State.alignOrder
  split
  · exact h
  · exact .ite h ((h.putOrder _ _).markOrder _)

theorem changeMode (n : Nat) (m : Mode) (h : Tidy s) : Tidy (s.changeMode n m) := by
  unfold State.changeMode
  split
  · exact h
  · next p _ =>
    have hmode := h.setPoint n { p with mode := m, overload := p.overload && decide (m = .auto) }
    have horder := Tidy.ite (c := p.kind = .turnout) (hmode.alignOrder n m) hmode
    have htarget := Tidy.ite (c := m = .auto) (horder.retarget n) horder
    have hload := Tidy.ite (c := p.kind = .turnout ∧ p.backup.isSome) (htarget.refreshPath p.reach) htarget
    exact .ite (hload.resend n) (.ite (hload.withdraw n) hload)

theorem clearCloseOwed (n : Nat) (h : Tidy s) : Tidy (s.clearCloseOwed n) := by
  unfold State.clearCloseOwed
  split
  · exact h
  · exact .ite (.ite (h.setPoint n _) ((h.setPoint n _).withdraw n)) h

theorem switchLocal (n : Nat) (h : Tidy s) : Tidy (s.switchLocal n) := by
  unfold State.switchLocal
  split
  · exact h
  · next p _ =>
    have hclear := (h.setPoint n { p with switch := .manual }).clearCloseOwed n
    dsimp only
    split
    · have hheld := (hclear.changePoint n fun q =>
        { q with latch := q.latch || (decide (0 < p.target) || p.backup.isSome) }).changeMode n .localHold
      exact .ite (hheld.report _ _) hheld
    · exact hclear
    · exact hclear

theorem switchRemote (n : Nat) (h : Tidy s) : Tidy (s.switchRemote n) := by
  unfold State.switchRemote
  split
  · exact h
  · next p _ =>
    have hset := h.setPoint n { p with switch := .remote }
    dsimp only
    split
    · exact hset.changeMode n _
    · exact hset
    · exact hset

theorem takeGate (g : GateNews) (h : Tidy s) : Tidy (s.takeGate g) := by
  have hstored : ∀ u, Tidy u → Tidy (u.changePoint g.point fun q =>
      { q with position := min 100 g.position, gateFault := g.fault }) := fun u hu => hu.changePoint _ _
  unfold State.takeGate
  split
  · exact h
  · cases g.switch with
    | manual => exact .ite ((hstored _ (h.switchLocal _)).report _ _) (hstored _ (h.switchLocal _))
    | remote => exact .ite ((hstored _ (h.switchRemote _)).report _ _) (hstored _ (h.switchRemote _))

theorem enterFrost (e : Nat × Point) (h : Tidy s) : Tidy (s.enterFrost e) := (h.changePoint e.1 _).retarget e.1

theorem leaveFrost (e : Nat × Point) (h : Tidy s) : Tidy (s.leaveFrost e) :=
  .ite ((h.changePoint e.1 _).retarget e.1) (h.changePoint e.1 _)

theorem enablePoint (n : Nat) (p : Point) (h : Tidy s) : Tidy (s.enablePoint n p) := (h.setPoint n _).changeMode n .auto

theorem closePoint (n : Nat) (p : Point) (h : Tidy s) : Tidy (s.closePoint n p) := by
  have hmode : ∀ q, Tidy (if p.mode = .disabled then s.setPoint n q else (s.setPoint n q).changeMode n .disabled) :=
    fun q => .ite (h.setPoint n q) ((h.setPoint n q).changeMode n .disabled)
  exact .ite ((hmode _).resend n) (hmode _)

theorem leavePoint (n : Nat) (p : Point) (h : Tidy s) : Tidy (s.leavePoint n p) := .ite h (h.changeMode n .disabled)

theorem takeNotice (g : Notice) (h : Tidy s) : Tidy (s.takeNotice g) := by
  unfold State.takeNotice
  split
  · exact h
  · next p _ =>
    have hset : ∀ q, Tidy (if p.mode = .auto then (s.setPoint g.point q).retarget g.point else s.setPoint g.point q) :=
      fun q => .ite ((h.setPoint _ q).retarget _) (h.setPoint _ q)
    exact .ite ((hset _).refreshPath _) (hset _)

/-! ### The field line (chapter 6) -/

theorem stationFailed (a : Nat) (h : Tidy s) : Tidy (s.stationFailed a) :=
  .ite h (.ite ((h.setStation a _).report _ _) (h.setStation a _))

theorem setAcknowledged (n v applied : Nat) (h : Tidy s) : Tidy (s.setAcknowledged n v applied) := by
  unfold State.setAcknowledged
  refine Tidy.reevaluate n (Tidy.aside (s := if decide (applied = v) = true then _ else _) ?_ rfl)
  exact .ite (h.changePoint n _) ((h.changePoint n _).report _ _)

theorem setRefused (n : Nat) (h : Tidy s) : Tidy (s.setRefused n) := (h.changePoint n _).switchLocal n

theorem setLost (n : Nat) (h : Tidy s) : Tidy (s.setLost n) := (h.changePoint n _).reevaluate n

theorem setFailed (n : Nat) (h : Tidy s) : Tidy (s.setFailed n) := ((h.changePoint n _).report _ _).setLost n

theorem endUnanswered (x : Transaction) (h : Tidy s) : Tidy (s.endUnanswered x) := by
  unfold State.endUnanswered
  dsimp only
  split
  · exact h.lineIdle.stationFailed _
  · exact .ite (.ite h.lineIdle (h.lineIdle.setLost _))
      (.ite (h.lineIdle.stationFailed _) ((h.lineIdle.stationFailed _).setFailed _))

theorem badReply (x : Transaction) (length : Nat) (h : Tidy s) : Tidy (s.badReply x length) :=
  .ite ((h.report _ _).endUnanswered x) (h.aside rfl)

theorem deliverChannel (a : Nat) (frame : List Byte) (c : Nat) (h : Tidy s) : Tidy (deliverChannel a frame s c) := by
  unfold Machine.deliverChannel
  dsimp only
  split
  · exact h
  · exact h.aside rfl

theorem endAnswered (x : Transaction) (frame : List Byte) (h : Tidy s) : Tidy (s.endAnswered x frame) := by
  have hidle : Tidy (s.lineIdle.stationAnswered x.job.station) := h.lineIdle.setStation _ _
  unfold State.endAnswered
  dsimp only
  split
  · exact hidle.foldl (fun _ c hs => hs.deliverChannel _ frame c) _
  · exact .ite hidle (.ite (hidle.setAcknowledged _ _ _) (hidle.setRefused _))

theorem cutShort (h : Tidy s) : Tidy s.cutShort := by
  unfold State.cutShort
  split
  · split
    · exact h.aside rfl
    · exact h
  · exact h

theorem abandonPoll (h : Tidy s) : Tidy s.abandonPoll := by
  unfold State.abandonPoll
  split
  · split
    · exact h.lineIdle.setStation _ _
    · exact h
  · exact h

theorem holdLine (h : Tidy s) : Tidy s.holdLine := by
  unfold State.holdLine
  split
  · exact (h.setMode .hold).cutShort.arbitrate
  · exact h
  · exact h

theorem abandon (h : Tidy s) : Tidy s.abandon := by
  unfold State.abandon
  split
  · exact h
  · split
    · exact h.lineIdle.setStation _ _
    · exact .ite h.lineIdle (h.lineIdle.changePoint _ _)

theorem resetLine (h : Tidy s) : Tidy s.resetLine := by
  have hstopped : Tidy s.lineStopped := h.abandon.withLine (risingKeys_map (fun e => e.2.restarted) h.abandon.stations)
  exact hstopped.foldl (fun _ e hs => hs.reevaluate e.1) _

theorem abortSweep (h : Tidy s) : Tidy s.abortSweep := by
  unfold State.abortSweep
  split
  · exact h
  · exact .ite ((h.closeSweep _).report _ _) h

theorem resetPort (h : Tidy s) : Tidy s.resetPort := by
  rw [State.resetPort_eq]
  exact (h.markHandle _).aside rfl

theorem warmReset (h : Tidy s) : Tidy s.warmReset := h.resetPort.resetLine.abortSweep

/-! ### Meters and postings (chapter 7) -/

theorem failMeter (n : Nat) (p : Point) (h : Tidy s) : Tidy (s.failMeter n p) := .ite h ((h.setPoint n _).report _ _)

theorem postOrder (v : Nat) (estimated : Bool) (place : Place) (h : Tidy s) : Tidy (s.postOrder v estimated place) := by
  unfold State.postOrder
  split
  · split
    · exact h
    · exact h.putOrder _ _
  · exact h
  · exact h

theorem post (n v : Nat) (estimated : Bool) (place : Place) (short : Bool) (h : Tidy s) :
    Tidy (s.post n v estimated place short) := by
  unfold State.post
  split
  · exact h
  · have hposted := fun f => (h.postOrder v estimated place).reviseAccount n f
    exact .ite ((hposted _).report _ _) (hposted _)

theorem postAll (n : Nat) (estimated : Bool) (l : List (Nat × Place)) (short : Bool) (h : Tidy s) :
    Tidy (s.postAll n estimated l short) := by
  induction l generalizing s short with
  | nil => exact h
  | cons e l ih => exact .ite (ih short h) (ih _ (h.post n _ _ _ _))

theorem convertReading (n : Nat) (p : Point) (totalizer : Nat) (h : Tidy s) :
    Tidy (s.convertReading n p totalizer) := by
  unfold State.convertReading
  dsimp only
  refine .ite ?_ ?_
  · have hheld := (h.setPoint n { p with meter := p.meter.held }).report .meterImplausible (.number n)
    exact .ite (hheld.report _ _) hheld
  · split
    · exact h.setPoint n _
    · exact (h.setPoint n _).postAll _ _ _ _

theorem takeReading (g : Reading) (h : Tidy s) : Tidy (s.takeReading g) := by
  unfold State.takeReading
  split
  · exact h
  · split
    · exact h
    · exact .ite (h.failMeter _ _) (h.setPoint _ _)
    · exact .ite (h.failMeter _ _) (h.setPoint _ _)
    · exact .ite (h.failMeter _ _) (h.convertReading _ _ _)
    · exact .ite (h.failMeter _ _) (h.convertReading _ _ _)

theorem silentMeter (u n : Nat) (h : Tidy s) : Tidy (s.silentMeter u n) := by
  unfold State.silentMeter
  split
  · exact h
  · exact .ite (h.failMeter n _) h

theorem estimate (u n : Nat) (h : Tidy s) : Tidy (s.estimate u n) := by
  unfold State.estimate
  split
  · exact h
  · refine .ite ?_ h
    dsimp only
    split
    · exact h.setPoint n _
    · exact (h.setPoint n _).postAll _ _ _ _

theorem meterBoundary (u : Nat) (h : Tidy s) : Tidy (s.meterBoundary u) := by
  have hsilence : Tidy (s.silenceTest u) := .ite h (h.foldl (fun _ n hs => hs.silentMeter u n) _)
  exact hsilence.foldl (fun _ n hs => hs.estimate (u - 1) n) _

/-! ### Accounts and sweeps (chapters 8 and 9) -/

theorem moveLitres (g k v : Nat) (h : Tidy s) : Tidy (s.moveLitres g k v) :=
  (h.reviseAccount g _).reviseAccount k _

theorem closePeriod (n : Nat) (h : Tidy s) : Tidy (s.closePeriod n) := by
  unfold State.closePeriod
  split
  · exact h
  · exact (h.setAccount n _).foldl (fun _ e hs => hs.retireEntry e.1) _

theorem accountChanged (n : Nat) (h : Tidy s) : Tidy (s.accountChanged n) := by
  unfold State.accountChanged
  split
  · exact h
  · exact (h.setAccount n _).tally _

theorem openSeason (h : Tidy s) : Tidy s.openSeason := .ite (h.aside rfl) (h.aside rfl)

theorem skipPassed (h : Tidy s) : Tidy s.skipPassed := by
  unfold State.skipPassed
  split
  · exact h
  · exact .ite (h.moveCursor _) h

end Tidy

end Sys2Proof.Machine
end

section
/-! The five tables through the Slot Calendar, the Order Book, the boundary, the sweep steps, and the writing of reaches
and points (R3 to R11, R21 to R36, R45 to R78, R170 to R179). -/

namespace Sys2Proof.Machine

/-! ### The calendar: only configuration writes a reach, and every writing of a ring keeps its entries rising -/

namespace Calendar.tidy

variable {c k : Calendar}

theorem setCommitted (r u f : Nat) (h : c.tidy) : (c.setCommitted r u f).tidy := by
  obtain ⟨htree, hrise⟩ := h
  exact ⟨htree, risingKeys_setValue 0 _ f hrise⟩

theorem addFlow (f : Nat) (es : List (Nat × Nat)) (h : c.tidy) : (c.addFlow f es).tidy :=
  foldl_inv Calendar.tidy _ (fun _ _ hc => hc.setCommitted _ _ _) es c h

theorem subFlow (f : Nat) (es : List (Nat × Nat)) (h : c.tidy) : (c.subFlow f es).tidy :=
  foldl_inv Calendar.tidy _ (fun _ _ hc => hc.setCommitted _ _ _) es c h

theorem release (r a b f g : Nat) (h : c.tidy) : (c.release r a b f g).tidy := h.subFlow f _

theorem reserveTested {tested : Nat × Nat → Bool} {r a b f : Nat} (h : c.tidy)
    (hpass : c.reserveTested tested r a b f = .pass k) : k.tidy := by
  unfold Calendar.reserveTested at hpass
  split at hpass
  · cases hpass
  · dsimp only at hpass
    split at hpass
    · cases hpass
    · cases hpass
      exact h.addFlow f _

theorem reserve {r a b f : Nat} (h : c.tidy) (hpass : c.reserve r a b f = .pass k) : k.tidy := h.reserveTested hpass

theorem exchange {r a b f a' b' f' : Nat} (h : c.tidy) (hpass : c.exchange r a b f a' b' f' = .pass k) : k.tidy :=
  (h.release r a b f c.slot).reserveTested hpass

theorem advance (h : c.tidy) : c.advance.tidy := by
  obtain ⟨htree, hrise⟩ := h
  exact ⟨htree, risingKeys_filter _ hrise⟩

theorem rebuild (m : Nat) (h : c.tidy) : (c.rebuild m).tidy := by
  obtain ⟨htree, -⟩ := h
  exact ⟨htree, rfl⟩

theorem setReach {r : Nat} {v : Reach} (hr : r < 32) (hp : ∀ x, v.parent = some x → x < r) (h : c.tidy) :
    Calendar.tidy { c with reaches := setCell c.reaches r v } := by
  obtain ⟨htree, hrise⟩ := h
  refine ⟨fun j w hj => ?_, hrise⟩
  rw [cell?_setCell] at hj
  split_ifs at hj with hjr
  · cases hj
    exact hjr ▸ ⟨hr, hp⟩
  · exact htree j w hj

theorem delReach (r : Nat) (h : c.tidy) : Calendar.tidy { c with reaches := delCell c.reaches r } := by
  obtain ⟨htree, hrise⟩ := h
  refine ⟨fun j w hj => ?_, hrise⟩
  rw [cell?_delCell] at hj
  split_ifs at hj
  exact htree j w hj

end Calendar.tidy

namespace Tidy

variable {s t : State} {i : Nat} {o : Order}

/-! ### One order (R55 to R60) -/

theorem leaveWaiting (x : Nat) (h : Tidy s) : Tidy (s.leaveWaiting x) := h.aside rfl

theorem joinWaiting (x : Nat) (h : Tidy s) : Tidy (s.joinWaiting x) := h.aside rfl

theorem withSequence (n : Nat) (h : Tidy s) : Tidy { s with obk.sequence := n } := h.aside rfl

theorem releaseOrder (o : Order) (floor : Nat) (h : Tidy s) : Tidy (s.releaseOrder o floor) :=
  h.withRing (h.cal.release _ _ _ _ _)

theorem freeOrder (i : Nat) (o : Order) (h : Tidy s) : Tidy (s.freeOrder i o) := by
  unfold State.freeOrder
  split
  · exact h.leaveWaiting _
  · exact h.releaseOrder o _
  all_goals exact h

theorem cancelOrder (i : Nat) (o : Order) (why : CloseReason) (h : Tidy s) : Tidy (s.cancelOrder i o why) :=
  (h.freeOrder i o).putOrder i _

theorem expireOrder (i : Nat) (o : Order) (h : Tidy s) : Tidy (s.expireOrder i o) :=
  ((h.leaveWaiting _).putOrder i _).markOrder i

theorem cutOrder (i : Nat) (o : Order) (why : CloseReason) (h : Tidy s) : Tidy (s.cutOrder i o why) :=
  ((h.releaseOrder o _).putOrder i _).aside rfl

theorem trimOrder (i : Nat) (o : Order) (k : Nat) (h : Tidy s) : Tidy (s.trimOrder i o k) :=
  ((h.withRing (h.cal.release _ _ _ _ _)).putOrder i _).markOrder i

theorem bumpOrder (i : Nat) (o : Order) (h : Tidy s) : Tidy (s.bumpOrder i o).1 := by
  unfold State.bumpOrder
  split
  · exact ((((h.releaseOrder o _).withSequence _).putOrder i _).joinWaiting _).markOrder i
  · exact (h.cancelOrder i o _).markOrder i

theorem createOrder (i : Nat) (q : Ask) (account start slidBy : Nat) (st : OrderState) (h : Tidy s) :
    Tidy (s.createOrder i q account start slidBy st) :=
  (h.withSequence _).putOrder i _

/-! ### Re-examination and expiry (R74 to R77) -/

theorem tried {point reach account start duration flow : Nat} {except : Option Nat} {c : Calendar} (h : Tidy s)
    (hok : s.tryWindow point reach account start duration flow except = .ok c) : c.tidy :=
  h.cal.reserve (State.tryWindow_ok hok)

theorem reexamineEntry (x : Nat) (h : Tidy s) : Tidy (s.reexamineEntry x) := by
  unfold State.reexamineEntry
  split
  · exact h
  · next i o _ =>
    split
    · exact h
    · refine .ite (h.expireOrder i o) ?_
      split
      · exact h
      · next hok => exact (((h.withRing (h.tried hok)).leaveWaiting x).putOrder i _).markOrder i

theorem reexamine (h : Tidy s) : Tidy s.reexamine := (h.foldl (fun _ x hs => hs.reexamineEntry x) _).aside rfl

theorem startReexamination (h : Tidy s) : Tidy s.startReexamination := .ite (h.aside rfl) h.reexamine

theorem expireEntry (x : Nat) (h : Tidy s) : Tidy (s.expireEntry x) := by
  unfold State.expireEntry
  split
  · exact h
  · exact .ite (h.expireOrder _ _) h

theorem expiryStep (h : Tidy s) : Tidy s.expiryStep := h.foldl (fun _ x hs => hs.expireEntry x) _

/-! ### Placing (R45 to R49, R83) -/

theorem admitOrder (ask : Ask) (account start slidBy : Nat) (r : Result) {c : Calendar} (hc : c.tidy) (h : Tidy s) :
    Tidy (s.admitOrder ask account start slidBy c r).1 := by
  unfold State.admitOrder
  split
  · exact h
  · exact (h.withRing hc).createOrder _ _ _ _ _ _

theorem queueOrder (ask : Ask) (account : Nat) (h : Tidy s) : Tidy (s.queueOrder ask account).1 := by
  unfold State.queueOrder
  split
  · exact h
  · split
    · exact (h.createOrder _ _ _ _ _ _).joinWaiting _
    · exact h

theorem slideTries (ask : Ask) (reach account : Nat) (failure : Reply) (fuel k : Nat) (h : Tidy s) :
    Tidy (s.slideTries ask reach account failure fuel k).1 := by
  induction fuel generalizing k with
  | zero =>
    unfold State.slideTries
    split <;> exact h
  | succ fuel ih =>
    unfold State.slideTries
    split
    · exact h
    · dsimp only
      split
      · exact h
      · split
        · exact ih _
        · split
          · next hok => exact h.admitOrder _ _ _ _ _ (h.tried hok)
          · split
            · exact h
            · exact ih _

theorem placeFirst (ask : Ask) (tries : Nat) (h : Tidy s) : Tidy (s.placeFirst ask tries).1 := by
  unfold State.placeFirst
  split
  · exact h
  · split
    · exact h
    · dsimp only
      split
      · exact h
      · split
        · exact h
        · split
          · next hok => exact h.admitOrder _ _ _ _ _ (h.tried hok)
          · split
            · split
              · exact h.slideTries _ _ _ _ _ _
              · exact h
            · exact h.slideTries _ _ _ _ _ _
            · exact h.queueOrder _ _
            · exact h

theorem placeNext (ask : Ask) (tries : Nat) (w : Search) (h : Tidy s) : Tidy (s.placeNext ask tries w).1 := by
  unfold State.placeNext
  split
  · exact h
  · split
    · exact h
    · exact h.slideTries _ _ _ _ _ _

theorem fire (x : Nat) (m : Template) (h : Tidy s) : Tidy (s.fire x m) := by
  have hmarked := (h.placeFirst (m.ask x) 96).markHandle (s.placeFirst (m.ask x) 96).2.outcome.2
  exact .ite (hmarked.aside rfl) (hmarked.aside rfl)

theorem firingStep (u : Nat) (h : Tidy s) : Tidy (s.firingStep u) :=
  h.foldl (fun _ e hs => .ite (hs.fire e.1 e.2) hs) _

/-! ### Amend, cancel, suspend (R15, R51 to R57) -/

theorem amendDue (x i : Nat) (o : Order) (e : Nat) (h : Tidy s) : Tidy (s.amendDue x i o e).1 := by
  unfold State.amendDue
  dsimp only
  split
  · exact h
  · split
    · exact h
    · split
      · split
        · exact h
        · split
          · split
            · next c hpass => exact (h.withRing (h.cal.reserve hpass)).putOrder i _
            · exact h
            · exact h
          · exact h
      · exact (h.withRing (h.cal.release _ _ _ _ _)).putOrder i _

theorem amendConfirmed (x i : Nat) (o : Order) (f e : Nat) (h : Tidy s) : Tidy (s.amendConfirmed x i o f e).1 := by
  unfold State.amendConfirmed
  dsimp only
  split
  · exact h
  · split
    · exact h
    · split
      · exact h
      · split
        · next c hpass => exact (h.withRing (h.cal.exchange hpass)).putOrder i _
        · exact h
        · exact h

theorem amendBook (handle : Nat) (flow endSlot : Option Nat) (h : Tidy s) :
    Tidy (Machine.amendBook handle flow endSlot s).1 := by
  unfold Machine.amendBook
  split
  · exact h
  · next i o _ =>
    dsimp only
    split
    · exact h
    · split
      · exact h
      · split
        · exact h
        · split
          · exact h
          · split
            · exact h
            · have hr : Tidy (if o.due then s.amendDue handle i o (endSlot.getD o.endSlot)
                  else s.amendConfirmed handle i o (flow.getD o.flow) (endSlot.getD o.endSlot)).1 := by
                split
                · exact h.amendDue handle i o _
                · exact h.amendConfirmed handle i o _ _
              rw [apply_ite Prod.fst]
              exact .ite hr.startReexamination hr

theorem cancelOne (endRunning : Bool) (i : Nat) (acc : State × CancelCounts) (h : Tidy acc.1) :
    Tidy (State.cancelOne endRunning i acc).1 := by
  unfold State.cancelOne
  split
  · exact h
  · next o _ =>
    have hcancel := (h.cancelOrder i o .cancelledHost).markOrder i
    have hcut := (h.cutOrder i o .endedEarly).markOrder i
    split
    · exact hcancel
    · exact hcancel
    · split
      · exact hcut
      · exact h
    · split
      · exact hcut
      · exact h
    all_goals exact h

theorem cancelMany (chain : List (Nat × Order)) (endRunning : Bool) (h : Tidy s) :
    Tidy (s.cancelMany chain endRunning).1 := by
  have hchain : Tidy (s.cancelChain chain endRunning).1 :=
    foldl_inv (fun acc : State × CancelCounts => Tidy acc.1)
      (fun acc (e : Nat × Order) => State.cancelOne endRunning e.1 acc)
      (fun acc e => cancelOne endRunning e.1 acc) chain (s, _) h
  exact .ite hchain.startReexamination hchain

theorem cancelNamed (handle : Nat) (h : Tidy s) : Tidy (s.cancelNamed handle).1 := by
  unfold State.cancelNamed
  split
  · exact h
  · split
    · exact (h.cancelOrder _ _ _).startReexamination
    · exact (h.cancelOrder _ _ _).startReexamination
    · exact (h.cutOrder _ _ _).startReexamination
    · exact (h.cutOrder _ _ _).startReexamination
    all_goals exact h

theorem suspendOne (e : Nat × Order) (h : Tidy s) : Tidy (s.suspendOne e) := by
  unfold State.suspendOne
  split
  · exact h
  · exact (h.cancelOrder _ _ _).markOrder _

theorem suspendAll (n : Nat) (h : Tidy s) : Tidy ((s.obk.cancellable n).foldl (fun s e => s.suspendOne e) s) :=
  h.foldl (fun _ e hs => hs.suspendOne e) _

/-! ### The boundary (R61 to R64) -/

theorem closeStep (u : Nat) (h : Tidy s) : Tidy (s.closeStep u).1 := by
  refine foldl_inv (fun acc : State × Bool => Tidy acc.1) (closeOne u) (fun acc e hacc => ?_) s.obk.orders (s, false) h
  unfold closeOne
  dsimp only
  split
  · exact (hacc.putOrder _ _).markOrder _
  · exact hacc

theorem endStep (u : Nat) (h : Tidy s) : Tidy (s.endStep u) :=
  h.foldl (fun _ _ hs => .ite ((hs.putOrder _ _).markOrder _) hs) _

theorem startOne (u : Nat) (e : Nat × Order) (h : Tidy s) : Tidy (Machine.startOne u s e) := by
  unfold Machine.startOne
  dsimp only
  split
  · split
    · exact h
    · exact (h.putOrder _ _).markOrder _
  · exact h

theorem startStep (u : Nat) (h : Tidy s) : Tidy (s.startStep u) := h.foldl (fun _ e hs => hs.startOne u e) _

theorem noticeStep (ns : List Nat) (h : Tidy s) : Tidy (s.noticeStep ns) :=
  foldl (f := fun t x => t.notify x (t.obk.scheduledOf x)) (fun _ _ hs => hs.aside rfl) ns h

theorem bookBoundary (u : Nat) (h : Tidy s) : Tidy (s.bookBoundary u) := by
  have hslot : Tidy { s with obk.slot := u } := h.aside rfl
  have hfired := ((((hslot.closeStep u).endStep u).startStep u).noticeStep
    (changedPoints u (({ s with obk.slot := u } : State).closeStep u).1.obk.orders)).expiryStep.firingStep u
  exact .ite hfired.startReexamination hfired

/-! ### Sweep steps (R170 to R179) -/

theorem trimOne (i : Nat) (o : Order) (e : Nat) (h : Tidy s) : Tidy (s.trimOne i o e) :=
  .ite ((h.trimOrder i o _).tally _) (((h.cancelOrder i o _).markOrder i).tally _)

theorem trimLoop (n fuel : Nat) (acc : State × Bool) (h : Tidy acc.1) : Tidy (State.trimLoop n fuel acc).1 := by
  induction fuel generalizing acc with
  | zero => exact h
  | succ fuel ih =>
    unfold State.trimLoop
    split
    · exact h
    · split
      · exact h
      · exact ih _ (h.trimOne _ _ _)

theorem drainOne (i : Nat) (o : Order) (h : Tidy s) : Tidy (s.drainOne i o) :=
  ((h.cutOrder i o _).markOrder i).tally _

theorem drainLoop (n fuel : Nat) (acc : State × Bool) (h : Tidy acc.1) : Tidy (State.drainLoop n fuel acc).1 := by
  induction fuel generalizing acc with
  | zero => exact h
  | succ fuel ih =>
    unfold State.drainLoop
    split
    · exact h
    · split
      · exact h
      · exact ih _ (h.drainOne _ _)

theorem curtailAccount (n : Nat) (a : Account) (share : Nat) (d : Drain) (h : Tidy s) :
    Tidy (s.curtailAccount n a share d) := by
  have htrim := trimLoop n s.obk.orders.length
    (s.reviseAccount n (fun a => { a with curtailment := share }), false) (h.reviseAccount n _)
  have hend : ∀ (r : State × Bool) (c c' : Prop) [Decidable c] [Decidable c'], Tidy r.1 →
      Tidy (if c' then (if c then r.1.owe else r.1).accountChanged n else if c then r.1.owe else r.1) :=
    fun r c c' _ _ hr => .ite ((Tidy.ite hr.owe hr).accountChanged n) (.ite hr.owe hr)
  cases d with
  | letRun => exact hend _ _ _ htrim
  | stopRunning => exact hend _ _ _ (drainLoop n _ _ htrim)

theorem curtailVisit (w : Sweep) (h : Tidy s) : Tidy (s.curtailVisit w) := by
  unfold State.curtailVisit
  refine Tidy.moveCursor _ ?_
  split
  · exact h
  · exact .ite (h.curtailAccount _ _ _ _) h

theorem closeVisit (w : Sweep) (h : Tidy s) : Tidy (s.closeVisit w) := by
  unfold State.closeVisit
  refine Tidy.moveCursor _ ?_
  split
  · exact h
  · exact .ite ((h.closePeriod _).accountChanged _) h

theorem bumpOne (k : Nat) (e : Nat × Order) (h : Tidy s) : Tidy (Machine.bumpOne k s e) := by
  unfold Machine.bumpOne
  split
  · exact ((h.bumpOrder e.1 e.2).owe).tally _
  · exact h

theorem bumpSlot (k : Nat) (h : Tidy s) : Tidy (s.bumpSlot k) := by
  have hwalk : Tidy ((s.bumpList k).foldl (Machine.bumpOne k) s) := h.foldl (fun _ e hs => hs.bumpOne k e) _
  exact .ite (hwalk.aside rfl) (hwalk.aside rfl)

theorem bumpVisit (w : Sweep) (h : Tidy s) : Tidy (s.bumpVisit w) := Tidy.moveCursor _ (.ite (h.bumpSlot _) h)

theorem mapPoints (f : Nat × Point → Point) (h : Tidy s) :
    Tidy { s with points := s.points.map (fun e => (e.1, f e)) } :=
  h.withPoints (risingKeys_map f h.points)

theorem seasonVisit (w : Sweep) (h : Tidy s) : Tidy (s.seasonVisit w) := by
  unfold State.seasonVisit
  refine Tidy.moveCursor _ ?_
  split
  · exact h
  · unfold State.seasonAccount
    refine Tidy.accountChanged _ (Tidy.mapPoints _ ?_)
    have hclosed := h.closePeriod w.cursor
    split
    · exact hclosed
    · exact hclosed.setAccount _ _

/-! ### The reaches (R3 to R5) -/

theorem reconfigure {r : Nat} (old : Reach) {new : Reach} (hr : r < 32) (hp : ∀ x, new.parent = some x → x < r)
    (h : Tidy s) : Tidy (s.reconfigure r old new) := by
  have hset : Tidy { s with cal.reaches := setCell s.cal.reaches r new } := h.withCal (h.cal.setReach hr hp)
  have hloads := Tidy.ite (c := new.parent = old.parent) hset
    (hset.refreshFrost ({ s with cal.reaches := setCell s.cal.reaches r new } : State).configured)
  exact .ite hloads.startReexamination.arbitrate hloads.arbitrate

theorem configureReach (r : Nat) (parent : Option Nat) (cap lag : Nat) (h : Tidy s) :
    Tidy (s.configureReach r parent cap lag).1 := by
  unfold State.configureReach
  split
  · exact h
  · next hrange =>
    obtain ⟨hr, hp⟩ := RingSound.fits_bounds (eq_false_of_ne_true hrange)
    split
    · exact h
    · split
      · exact h
      · split
        · exact h.withCal (h.cal.setReach hr hp)
        · split
          · exact h
          · exact h.reconfigure _ hr hp

theorem unconfigureReach (r : Nat) (h : Tidy s) : Tidy (s.unconfigureReach r).1 := by
  unfold State.unconfigureReach
  split
  · exact h
  · split
    · exact h
    · split
      · exact h
      · exact h.withCal (h.cal.delReach r)

/-! ### The points (R7 to R11, R106) -/

theorem setCheck (r : Nat) (c : Option Nat) (h : Tidy s) : Tidy (s.setCheck r c) := by
  unfold State.setCheck
  split
  · exact h
  · next v hv =>
    obtain ⟨hr, hp⟩ := h.cal.1 r v hv
    exact h.withCal (h.cal.setReach hr hp)

theorem followCheck (n : Nat) (old new : Option Point) (h : Tidy s) : Tidy (s.followCheck n old new) := by
  unfold State.followCheck
  cases old with
  | none =>
    cases new with
    | none => exact h
    | some q => exact .ite (h.setCheck _ _) h
  | some p =>
    have hlost := Tidy.ite (c := p.kind = .check) (h.setCheck p.reach none) h
    cases new with
    | none => exact hlost
    | some q => exact .ite (hlost.setCheck _ _) hlost

theorem followPolling (a : Nat) (h : Tidy s) : Tidy (s.followPolling a) :=
  .ite h (.ite (h.setStation a _) (h.setStation a _))

theorem createPoint (n : Nat) (old : Option Point) (p : Point) (h : Tidy s) : Tidy (s.createPoint n old p) :=
  ((h.setPoint n p).followCheck n old (some p)).followPolling _

theorem removePoint (n : Nat) (p : Point) (h : Tidy s) : Tidy (s.removePoint n p) := by
  have hline : risingKeys (s.line.dropPoint n).stations = true := by
    rw [Line.dropPoint_eq]
    exact h.stations
  have hgone : Tidy { s with points := delCell s.points n, line := s.line.dropPoint n, mail := s.mail.dropPoint n } :=
    ⟨h.cal, risingKeys_delCell n h.points, hline, h.marks⟩
  exact (hgone.followCheck n (some p) none).followPolling _

theorem updatePoint (n : Nat) (p : Point) (reach : Nat) (owner : Option Nat) (rated frost : Nat) (c : Calibration)
    (h : Tidy s) : Tidy (s.updatePoint n p reach owner rated frost c) := by
  unfold State.updatePoint
  dsimp only
  split
  · exact .ite ((h.setPoint n _).followCheck n _ _) (((h.setPoint n _).followCheck n _ _).recheck n)
  · exact .ite (((h.setPoint n _).retarget n).refreshPath reach) (h.setPoint n _)

theorem givePoint (n : Nat) (k : PointKind) (reach : Nat) (owner : Option Nat) (rated frost : Nat) (c : Calibration)
    (h : Tidy s) : Tidy (s.givePoint n k reach owner rated frost c).1 := by
  unfold State.givePoint
  split
  · exact h
  · dsimp only
    split
    · exact (h.createPoint _ _ _).arbitrate
    · split
      · exact (h.updatePoint _ _ _ _ _ _ _).arbitrate
      · exact (h.createPoint _ _ _).arbitrate

theorem clearPoint (n : Nat) (h : Tidy s) : Tidy (s.clearPoint n).1 := by
  unfold State.clearPoint
  split
  · exact h
  · split
    · exact h
    · split
      · exact h
      · exact (h.removePoint _ _).arbitrate

/-! ### The minute, CLOCK_SET and SUPPLY_SET (R21, R33, R36) -/

theorem minute (h : Tidy s) : Tidy s.minute := by
  have hclock : Calendar.tidy { s.cal with clock := s.cal.clock + 1 } := h.cal
  exact .ite h (.ite ((h.withCal hclock.advance).aside rfl) (h.withCal hclock))

theorem setClock (m : Nat) (h : Tidy s) : Tidy (s.setClock m) := by
  have hstations := risingKeys_map (fun e : Nat × Station => e.2.rebased (m / 15)) h.stations
  have hclock : Tidy (s.reclocked m) := ⟨h.cal.rebuild m, h.points, hstations, h.marks⟩
  exact hclock.recheckAll.arbitrate

theorem writeSupplies (first count flow : Nat) (h : Tidy s) : Tidy (s.writeSupplies first count flow).1 := by
  have hcal : (s.cal.supplied first count flow).tidy := by
    rw [Calendar.supplied_eq]
    exact h.cal
  have hset := h.withCal hcal
  have hsweep : ∀ (c : Prop) [Decidable c] w, Tidy
      (if c then ({ s with cal := s.cal.supplied first count flow } : State)
        else ({ s with cal := s.cal.supplied first count flow } : State).startSweep w) :=
    fun c _ w => .ite hset (hset.startSweep w)
  exact .ite (hsweep _ _).startReexamination.arbitrate (hsweep _ _)

end Tidy
end Sys2Proof.Machine
end

section
/-! Every request keeps the five tables in order. -/

namespace Sys2Proof.Machine

namespace Tidy

variable {s : State}

/-- What a request makes of a state. -/
abbrev After (r : State × Reply) : Prop := Tidy r.1

theorem iteAfter {c : Prop} [Decidable c] {a b : State × Reply} (ha : After a) (hb : After b) :
    After (if c then a else b) := by
  split
  · exact ha
  · exact hb

theorem settle {r : State × Reply} (h : Tidy s) (hr : After r) : After (s.settle r) := iteAfter h hr.arbitrate

/-- A query hands the state back. -/
theorem of_query {r : State × Reply} {a : Reply} (h : Tidy s) (hr : r = (s, a)) : After r := hr ▸ h

/-! ### The tables and the accounts (chapters 1 and 8) -/

theorem reqReachSet (a r : Nat) (x : Option Nat) (c l : Nat) (h : Tidy s) : After (reqReachSet a r x c l s) := by
  unfold Machine.reqReachSet
  split
  · exact h.configureReach r x c l
  · exact h.unconfigureReach r
  · exact h

theorem reqPointSet (n k r a f g m i : Nat) (h : Tidy s) : After (reqPointSet n k r a f g m i s) := by
  unfold Machine.reqPointSet
  refine iteAfter h ?_
  dsimp only
  split
  · exact h.clearPoint n
  · exact h.givePoint n _ _ _ _ _ _
  · exact h.givePoint n _ _ _ _ _ _

theorem reqAccountSet (n c b : Nat) (h : Tidy s) : After (reqAccountSet n c b s) := by
  unfold Machine.reqAccountSet
  refine iteAfter h ?_
  split
  · exact h.setAccount n _
  · exact iteAfter (h.setAccount n _).startReexamination.arbitrate (h.setAccount n _)

theorem reqAccountSuspend (n : Nat) (h : Tidy s) : After (reqAccountSuspend n s) := by
  unfold Machine.reqAccountSuspend
  refine iteAfter h ?_
  split
  · exact h
  · next a _ =>
    have hgone := (h.setAccount n (a.revise fun a => { a with state := .suspended })).suspendAll n
    exact iteAfter (Tidy.ite hgone hgone.startReexamination).arbitrate h

theorem reqAccountResume (n : Nat) (h : Tidy s) : After (reqAccountResume n s) := by
  unfold Machine.reqAccountResume
  refine iteAfter h ?_
  split
  · exact h
  · exact iteAfter (h.setAccount n _).startReexamination.arbitrate h

theorem reqAccountClose (n : Nat) (h : Tidy s) : After (reqAccountClose n s) := by
  unfold Machine.reqAccountClose
  refine iteAfter h ?_
  split
  · exact h
  · exact iteAfter h (iteAfter h (h.setAccount n _))

theorem reqTransfer (g k x : Nat) (h : Tidy s) : After (reqTransfer g k x s) := by
  unfold Machine.reqTransfer
  refine iteAfter h ?_
  split
  · exact iteAfter h (iteAfter h (iteAfter h (h.moveLitres g k x).startReexamination.arbitrate))
  · exact h

theorem reqPeriodClose (c r : Nat) (h : Tidy s) : After (reqPeriodClose c r s) := by
  have hscope : ∀ sc, After (s.closeScopePeriod sc) := fun sc => iteAfter h (h.aside rfl)
  unfold Machine.reqPeriodClose
  split
  · unfold State.closeAccountPeriod
    refine iteAfter h (iteAfter h ?_)
    split
    · exact h
    · exact h.closePeriod r
  · exact iteAfter h (hscope _)
  · exact hscope _
  · exact h

theorem reqNextAccountChanged (h : Tidy s) : After (reqNextAccountChanged s) := by
  unfold Machine.reqNextAccountChanged
  split
  · exact h
  · exact h.setAccount _ _

/-! ### Orders and standing orders (chapters 3 and 4) -/

theorem placeEvent (ask : Ask) (tries : Nat) (h : Tidy s) : Tidy (placeEvent ask tries s).1 := by
  unfold Machine.placeEvent
  cases s.obk.search with
  | none =>
    have hplaced := h.placeFirst ask tries
    dsimp only
    split <;> exact hplaced.aside rfl
  | some w =>
    have hplaced := h.placeNext ask tries w
    dsimp only
    split <;> exact hplaced.aside rfl

theorem reqPlace (n u d f o l k : Nat) (h : Tidy s) : Tidy (reqPlace n u d f o l k s).1 := by
  unfold Machine.reqPlace
  split
  · exact h
  · next ask _ =>
    have hplaced := h.placeEvent ask k
    dsimp only
    split
    · exact hplaced
    · split
      · exact hplaced
      · exact hplaced.arbitrate

theorem reqCancel (c r o : Nat) (h : Tidy s) : After (reqCancel c r o s) := by
  refine h.settle ?_
  unfold cancelBook
  split
  · exact h.cancelNamed r
  · refine iteAfter h ?_
    split
    · exact h
    · exact h.cancelMany _ _
  · refine iteAfter h ?_
    split
    · exact h
    · exact h.cancelMany _ _
  · exact h

theorem reqRetire (x : Nat) (h : Tidy s) : After (reqRetire x s) := by
  unfold Machine.reqRetire
  split
  · exact h
  · split
    · exact h
    · exact h.retireEntry _

/-- The first mark leaves: the rest still rises. -/
theorem reqNextChanged (h : Tidy s) : After (reqNextChanged s) := by
  unfold Machine.reqNextChanged
  split
  · exact h
  · next i rest hm =>
    have hmarks := h.marks
    rw [hm] at hmarks
    have hrest : Tidy { s with obk.marks := rest } := h.withMarks hmarks.of_cons
    dsimp only
    split <;> exact hrest

theorem reqStandingSet (x n o d f c : Nat) (k : Option Nat) (h : Tidy s) :
    After (reqStandingSet x n o d f c k s) := by
  unfold Machine.reqStandingSet
  refine iteAfter h ?_
  split
  · exact h
  · split
    · exact h
    · exact h.aside rfl

theorem reqStandingResume (x : Nat) (h : Tidy s) : After (reqStandingResume x s) := by
  unfold Machine.reqStandingResume
  refine iteAfter h ?_
  split
  · exact h
  · exact iteAfter (h.aside rfl) h

/-! ### Release Control, the field line and the meters (chapters 5 to 7) -/

theorem reqPointEnable (n : Nat) (h : Tidy s) : After (reqPointEnable n s) := by
  unfold Machine.reqPointEnable
  refine iteAfter h ?_
  split
  · exact h
  · exact iteAfter h (h.enablePoint n _).arbitrate

theorem reqPointDisable (n a : Nat) (h : Tidy s) : After (reqPointDisable n a s) := by
  unfold Machine.reqPointDisable
  refine iteAfter h ?_
  split
  · exact h
  · exact (Tidy.ite (h.closePoint n _) (h.leavePoint n _)).arbitrate

theorem reqLocalAck (n : Nat) (h : Tidy s) : After (reqLocalAck n s) := by
  unfold Machine.reqLocalAck
  refine iteAfter h ?_
  split
  · exact h
  · exact iteAfter h (h.setPoint n _)

theorem reqFrostCall (c r : Nat) (h : Tidy s) : After (reqFrostCall c r s) := by
  have hcalled : ∀ l : List (Nat × Point), Tidy (l.foldl State.enterFrost s) := fun l =>
    h.foldl (fun _ e hs => hs.enterFrost e) l
  exact iteAfter h (iteAfter h ((hcalled _).refreshFrost _).arbitrate)

theorem reqFrostEnd (c r : Nat) (h : Tidy s) : After (reqFrostEnd c r s) := by
  have hended : ∀ l : List (Nat × Point), Tidy (l.foldl State.leaveFrost s) := fun l =>
    h.foldl (fun _ e hs => hs.leaveFrost e) l
  exact iteAfter h (iteAfter h ((hended _).refreshFrost _).arbitrate)

theorem reqFieldStart (h : Tidy s) : After (reqFieldStart s) := by
  unfold Machine.reqFieldStart
  split
  · exact (h.setMode _).arbitrate
  · exact h
  · exact h

theorem reqFieldStop (h : Tidy s) : After (reqFieldStop s) := by
  unfold Machine.reqFieldStop
  dsimp only
  split
  · exact h
  · exact (h.setMode _).cutShort.abandonPoll
  · exact (h.setMode _).cutShort.abandonPoll

theorem reqResume (h : Tidy s) : After (reqResume s) := by
  unfold Machine.reqResume
  split
  · exact iteAfter h (h.setMode _).arbitrate
  · exact h
  · exact h

theorem reqMeterRebase (n : Nat) (h : Tidy s) : After (reqMeterRebase n s) := by
  unfold Machine.reqMeterRebase
  refine iteAfter h ?_
  split
  · exact h
  · exact iteAfter h (h.setPoint n _)

/-! ### Sweeps (chapter 9) -/

theorem reqSeasonOpen (h : Tidy s) : After (reqSeasonOpen s) :=
  iteAfter h (iteAfter h (h.startSweep _).openSeason)

theorem reqCurtail (c k b z x d : Nat) (h : Tidy s) : After (reqCurtail c k b z x d s) := by
  unfold Machine.reqCurtail
  split
  · exact h
  · refine iteAfter h (iteAfter h ?_)
    dsimp only
    split
    · exact h
    · exact h.startSweep _

/-! ### Every request -/

theorem runRequest (c : Instr) (h : Tidy s) : Tidy (runRequest c s).1 := by
  cases c
  case reachSet a r x c l => exact h.reqReachSet a r x c l
  case reachQuery n => exact h.of_query (reqReachQuery_eq n s)
  case pointSet n k r a f g m i => exact h.reqPointSet n k r a f g m i
  case pointQuery n => exact h.of_query (reqPointQuery_eq n s)
  case accountSet a c b => exact h.reqAccountSet a c b
  case accountQuery a k => exact h.of_query (reqAccountQuery_eq a k s)
  case accountSuspend a => exact h.reqAccountSuspend a
  case accountResume a => exact h.reqAccountResume a
  case accountClose a => exact h.reqAccountClose a
  case tariffSet => exact iteAfter h (h.aside rfl)
  case tariffQuery c => exact h.of_query (reqTariffQuery_eq c s)
  case districtSet => exact h.aside rfl
  case clockSet m => exact iteAfter h (iteAfter h (h.setClock m))
  case capacityQuery r f n => exact h.of_query (reqCapacityQuery_eq r f n s)
  case supplySet f n w => exact iteAfter h (iteAfter h (iteAfter h (h.writeSupplies f n w)))
  case place n u d f o l k => exact h.reqPlace n u d f o l k
  case amend x f e => exact h.settle (h.amendBook x f e)
  case cancel c r o => exact h.reqCancel c r o
  case orderQuery x => exact h.of_query (reqOrderQuery_eq x s)
  case retire x => exact h.reqRetire x
  case nextChanged => exact h.reqNextChanged
  case waitlistQuery k => exact h.of_query (reqWaitlistQuery_eq k s)
  case standingSet x n o d f c k => exact h.reqStandingSet x n o d f c k
  case standingResume x => exact h.reqStandingResume x
  case standingClear x => exact iteAfter h (h.aside rfl)
  case standingQuery x => exact h.of_query (reqStandingQuery_eq x s)
  case pointEnable n => exact h.reqPointEnable n
  case pointDisable n a => exact h.reqPointDisable n a
  case localAck n => exact h.reqLocalAck n
  case frostCall c r => exact h.reqFrostCall c r
  case frostEnd c r => exact h.reqFrostEnd c r
  case fieldStart => exact h.reqFieldStart
  case fieldStop => exact h.reqFieldStop
  case resume => exact h.reqResume
  case stationQuery a => exact h.of_query (reqStationQuery_eq a s)
  case meterRebase n => exact h.reqMeterRebase n
  case meterQuery n => exact h.of_query (reqMeterQuery_eq n s)
  case transfer g k x => exact h.reqTransfer g k x
  case periodClose c r => exact h.reqPeriodClose c r
  case seasonOpen => exact h.reqSeasonOpen
  case statementQuery n => exact h.of_query (reqStatementQuery_eq n s)
  case nextAccountChanged => exact h.reqNextAccountChanged
  case curtail c k b z x d => exact h.reqCurtail c k b z x d
  case sweepQuery => exact h.aside rfl
  case errorClear => exact iteAfter h (h.aside rfl)
  case severitySet => exact iteAfter h (h.aside rfl)
  case countSelect => exact iteAfter h (h.aside rfl)
  case attentionMask => exact h.aside rfl
  all_goals exact h

end Tidy

end Sys2Proof.Machine
end

section
/-! The request port, the Fault Unit and the five tables through every command (O57). The Fault Unit's records and the
port are among the records that no shared operation writes, so only the commands named here need an argument. -/

namespace Sys2Proof.Machine

/-! ### The Fault Unit (R182 to R185) -/

/-- The Fault Unit's part of soundness. -/
def Faults.sound (f : Faults) : Prop :=
  f.note.sound ∧ f.attend.sound ∧ f.stop.sound ∧ severitiesSound f.severities

theorem Episode.empty_sound : Episode.empty.sound := fun _ => rfl

/-- A taken report leaves the record filled. -/
theorem Episode.take_sound (r : ErrorRecord) (e : Episode) : (e.take r).sound := by
  intro hnone
  unfold Episode.take at hnone
  split at hnone
  · cases hnone
  · next h =>
    rw [h] at hnone
    cases hnone

namespace Faults.sound

variable {f : Faults} {e : Episode}

theorem setEpisode (v : Nat) (he : e.sound) (h : f.sound) : (f.setEpisode v e).sound := by
  obtain ⟨hnote, hattend, hstop, hsev⟩ := h
  unfold Faults.setEpisode
  split
  · exact ⟨he, hattend, hstop, hsev⟩
  · exact ⟨hnote, he, hstop, hsev⟩
  · exact ⟨hnote, hattend, he, hsev⟩

theorem take (r : ErrorRecord) (h : f.sound) : (f.take r).sound := by
  have hset := h.setEpisode (f.severityOf (errorCode r.kind))
    ((f.episode (f.severityOf (errorCode r.kind))).take_sound r)
  unfold Faults.take
  dsimp only
  split
  · exact hset
  · exact hset

theorem setSeverity (k v : Nat) (h : f.sound) : Faults.sound { f with severities := f.severities.set k (min v 2) } := by
  obtain ⟨hnote, hattend, hstop, hlength, hle⟩ := h
  refine ⟨hnote, hattend, hstop, List.length_set.trans hlength, fun w hw => ?_⟩
  rcases List.mem_or_eq_of_mem_set hw with hold | rfl
  · exact hle w hold
  · exact min_le_right v 2

end Faults.sound

/-! ### The request port (R192 to R198) -/

namespace Port.sound

variable {p : Port}

theorem of_idle (hs : p.state = .idle) (hc : p.command = none) (hr : p.response = none) (ho : p.orphan = false) :
    p.sound := by
  unfold Port.sound
  rw [hs]
  exact ⟨hc, hr, ho⟩

theorem of_executing (hs : p.state = .executing) (hc : p.command.isSome = true) (hr : p.response = none) : p.sound := by
  unfold Port.sound
  rw [hs]
  exact ⟨hc, hr⟩

theorem of_waiting (hs : p.state = .responseWaiting) (hc : p.command = none) (hr : p.response.isSome = true)
    (ho : p.orphan = false) : p.sound := by
  unfold Port.sound
  rw [hs]
  exact ⟨hc, hr, ho⟩

theorem idle (h : p.sound) (hs : p.state = .idle) : p.command = none ∧ p.response = none ∧ p.orphan = false := by
  unfold Port.sound at h
  rwa [hs] at h

theorem executing (h : p.sound) (hs : p.state = .executing) : p.command.isSome = true ∧ p.response = none := by
  unfold Port.sound at h
  rwa [hs] at h

theorem waiting (h : p.sound) (hs : p.state = .responseWaiting) :
    p.command = none ∧ p.response.isSome = true ∧ p.orphan = false := by
  unfold Port.sound at h
  rwa [hs] at h

/-- The owning block completes a command that no warm reset has orphaned. -/
theorem complete {f : Frame} (hf : p.command = some f) (ho : p.orphan = false) (r : Reply) : (p.complete r).sound := by
  rw [Port.complete_of_command hf]
  exact of_waiting rfl rfl rfl ho

theorem emptied (h : p.sound) {r : Response} (hw : p.waiting? = some r) : p.emptied.sound := by
  obtain ⟨hs, -⟩ := Port.waiting?_eq_some.1 hw
  obtain ⟨hc, -, ho⟩ := h.waiting hs
  exact of_idle rfl hc rfl ho

theorem warmReset (h : p.sound) : p.warmReset.sound := by
  unfold Port.warmReset
  cases ho : p.orphans with
  | false => exact of_idle rfl rfl rfl rfl
  | true =>
    obtain ⟨hs, -⟩ := of_decide_eq_true ho
    obtain ⟨hc, -⟩ := h.executing hs
    exact of_executing rfl hc rfl

theorem unorphaned (h : p.sound) (hs : p.state = .executing) : p.unorphaned.sound := by
  obtain ⟨-, hr⟩ := h.executing hs
  exact of_idle rfl rfl hr rfl

end Port.sound

theorem Port.state_of_executing? {p : Port} {c : Instr} (h : p.executing? = some c) : p.state = .executing := by
  unfold Port.executing? at h
  split at h
  · assumption
  · cases h

/-! ### The invariant -/

/-- The request port, the Fault Unit and the five tables are in order. -/
structure Records (s : State) : Prop where
  port : s.port.sound
  faults : s.faults.sound
  tables : Tidy s

theorem State.sound_iff (s : State) : s.sound ↔ Records s := by
  constructor
  · rintro ⟨hport, hnote, hattend, hstop, hsev, htree, hring, hpoints, hstations, hmarks⟩
    exact ⟨hport, ⟨hnote, hattend, hstop, hsev⟩, ⟨⟨htree, hring⟩, hpoints, hstations, hmarks⟩⟩
  · rintro ⟨hport, ⟨hnote, hattend, hstop, hsev⟩, ⟨⟨htree, hring⟩, hpoints, hstations, hmarks⟩⟩
    exact ⟨hport, hnote, hattend, hstop, hsev, htree, hring, hpoints, hstations, hmarks⟩

/-- The next state of an outcome, if it is one, has its records in order. -/
def RecordsNext (r : Host.Outcome State Fault Refusal) : Prop := ∀ t, r = .next t → Records t

namespace RecordsNext

variable {t : State}

theorem next (h : Records t) : RecordsNext (.next t) := by
  rintro _ ⟨⟩
  exact h

theorem ite {c : Prop} [Decidable c] {x y : Host.Outcome State Fault Refusal} (hx : RecordsNext x)
    (hy : RecordsNext y) : RecordsNext (if c then x else y) := by
  split
  · exact hx
  · exact hy

end RecordsNext

/-- A request writes no field of the port but its attention mask. -/
theorem runRequest_port (c : Instr) (s : State) :
    (runRequest c s).1.port = { s.port with mask := (runRequest c s).1.port.mask } := by
  have hfixed : ∀ t : State, t.fixed = s.fixed → t.port = { s.port with mask := t.port.mask } := by
    intro t ht
    obtain ⟨-, -, hport, -⟩ := State.fixed_fields ht
    rw [hport]
  cases c
  case tariffSet cls b1 b2 b3 r0 r1 r2 r3 u f =>
    change (reqTariffSet cls b1 b2 b3 r0 r1 r2 r3 u f s).1.port =
      { s.port with mask := (reqTariffSet cls b1 b2 b3 r0 r1 r2 r3 u f s).1.port.mask }
    unfold reqTariffSet
    split <;> rfl
  case districtSet => rfl
  case errorClear v =>
    change (reqErrorClear v s).1.port = { s.port with mask := (reqErrorClear v s).1.port.mask }
    unfold reqErrorClear
    split <;> rfl
  case severitySet k v =>
    change (reqSeveritySet k v s).1.port = { s.port with mask := (reqSeveritySet k v s).1.port.mask }
    unfold reqSeveritySet
    split <;> rfl
  case countSelect k =>
    change (reqCountSelect k s).1.port = { s.port with mask := (reqCountSelect k s).1.port.mask }
    unfold reqCountSelect
    split <;> rfl
  case attentionMask => rfl
  all_goals exact hfixed _ (by simp [runRequest])

namespace Records

variable {s t : State}

/-- An operation that writes no fixed record. -/
theorem fixed (h : Records s) (hf : t.fixed = s.fixed) (ht : Tidy t) : Records t := by
  obtain ⟨-, -, hport, -, -, hfaults, -⟩ := State.fixed_fields hf
  exact ⟨hport ▸ h.port, hfaults ▸ h.faults, ht⟩

theorem ite {c : Prop} [Decidable c] (hs : Records s) (ht : Records t) : Records (if c then s else t) := by
  split
  · exact hs
  · exact ht

/-! ### Requests -/

theorem runRequest_faults (c : Instr) (h : s.faults.sound) : (runRequest c s).1.faults.sound := by
  have hfixed : ∀ t : State, t.fixed = s.fixed → t.faults.sound := by
    intro t ht
    obtain ⟨-, -, -, -, -, hfaults, -⟩ := State.fixed_fields ht
    exact hfaults ▸ h
  cases c
  case tariffSet cls b1 b2 b3 r0 r1 r2 r3 u f =>
    change (reqTariffSet cls b1 b2 b3 r0 r1 r2 r3 u f s).1.faults.sound
    unfold reqTariffSet
    split <;> exact h
  case districtSet => exact h
  case errorClear v =>
    change (reqErrorClear v s).1.faults.sound
    unfold reqErrorClear
    split
    · exact h
    · exact h.setEpisode v Episode.empty_sound
  case severitySet k v =>
    change (reqSeveritySet k v s).1.faults.sound
    unfold reqSeveritySet
    split
    · exact h
    · exact h.setSeverity k v
  case countSelect k =>
    change (reqCountSelect k s).1.faults.sound
    unfold reqCountSelect
    split <;> exact h
  case attentionMask => exact h
  all_goals exact hfixed _ (by simp [runRequest])

theorem runRequest (c : Instr) (h : Records s) : Records (runRequest c s).1 := by
  refine ⟨?_, runRequest_faults c h.faults, h.tables.runRequest c⟩
  rw [runRequest_port]
  exact h.port

theorem exec_request {c : Instr} (hc : (requestBytes c).isSome = true) (hp : isPlace c = false)
    (hs : c ≠ .softReset) (h : Records s) : RecordsNext (exec c s) := by
  obtain ⟨act, hact, hrun⟩ := exec_of_request hc hp hs
  have hdone := h.runRequest c
  have hport := runRequest_port c s
  rw [hrun] at hdone hport
  rw [hact]
  unfold State.takeRequest
  split
  · next hh =>
    obtain ⟨-, ho, -, f, hf, -⟩ := (s.handed_iff c).1 hh
    refine .next ⟨.complete (f := f) ?_ ?_ _, hdone.faults, hdone.tables.aside rfl⟩
    · exact (congrArg Port.command hport).trans hf
    · exact (congrArg Port.orphan hport).trans ho
  · exact .next h

theorem execPlace (n u d f o l k : Nat) (h : Records s) : RecordsNext (execPlace n u d f o l k s) := by
  have hfixed := reqPlace_fixed s n u d f o l k
  have hplaced : Records (reqPlace n u d f o l k s).1 := h.fixed hfixed (h.tables.reqPlace n u d f o l k)
  obtain ⟨-, -, hport, -⟩ := State.fixed_fields hfixed
  unfold Machine.execPlace
  split
  · next hh =>
    obtain ⟨-, ho, -, g, hg, -⟩ := (s.handed_iff _).1 hh
    dsimp only
    split
    · exact .next hplaced
    · exact .next ⟨.complete (hport ▸ hg) (hport ▸ ho) _, hplaced.faults, hplaced.tables.aside rfl⟩
  · exact .next h

/-! ### Transactions, resets and power (chapter 11) -/

/-- The port's record changes; the Fault Unit and the tables do not. -/
theorem withPort {p : Port} (hp : p.sound) (h : Records s) : Records { s with port := p } :=
  ⟨hp, h.faults, h.tables.aside rfl⟩

theorem drive (bits : Nat) (out : List Byte) (h : Records s) : Records (s.drive bits out) := h.withPort h.port

theorem takeFrame (bytes : List Byte) (hs : s.port.state = .idle) (h : Records s) : Records (s.takeFrame bytes) := by
  obtain ⟨hc, hr, ho⟩ := h.port.idle hs
  unfold State.takeFrame
  split
  · exact h.withPort (.of_executing rfl rfl hr)
  · exact h.withPort (.of_waiting rfl hc rfl ho)

theorem overrunCommand (h : Records s) : Records s.overrunCommand := ⟨h.port, h.faults, h.tables.aside rfl⟩

theorem execCommand (m : Clocked) (h : Records s) : RecordsNext (execCommand m s) := by
  have hdriven := h.drive (8 + clockedBits m) []
  refine .next ?_
  split
  · split
    · next hs => exact hdriven.takeFrame m.bytes hs
    · exact hdriven.overrunCommand
  · exact hdriven

theorem execFetch (bits : Nat) (h : Records s) : RecordsNext (execFetch bits s) := by
  unfold Machine.execFetch
  split
  · exact .next (h.drive _ _)
  · next r hw =>
    have hdriven := h.drive (8 + bits) r.bytes
    exact .next (.ite (hdriven.withPort (hdriven.port.emptied (r := r) hw)) hdriven)

theorem execStatus (x : Piece) (h : Records s) : RecordsNext (execStatus x s) := by
  refine .next (h.withPort ?_)
  split <;> exact h.port

theorem warmReset (h : Records s) : Records s.warmReset := by
  refine ⟨?_, ?_, h.tables.warmReset⟩
  · rw [State.warmReset_frame]
    exact h.port.warmReset
  · rw [State.warmReset_frame]
    exact h.faults

theorem execResetAsserted (h : Records s) : RecordsNext (execResetAsserted s) := by
  have hline : Records { s with resetAsserted := true } := ⟨h.port, h.faults, h.tables.aside rfl⟩
  exact .ite (.next h) (.next (.ite hline.warmReset hline))

theorem execOrphanCompletion (h : Records s) : RecordsNext (execOrphanCompletion s) := by
  refine .ite ?_ (.next h)
  cases he : s.port.executing? with
  | none => exact .next h
  | some c =>
    have hrun := h.runRequest c
    have hstate : (Machine.runRequest c s).1.port.state = .executing := by
      rw [runRequest_port]
      exact Port.state_of_executing? he
    dsimp only
    split
    · exact .next hrun
    · next a _ =>
      have hfixed := (Machine.runRequest c s).1.markHandle_fixed a.names
      have hmarked := hrun.fixed hfixed (hrun.tables.markHandle a.names)
      obtain ⟨-, -, hport, -⟩ := State.fixed_fields hfixed
      exact .next (hmarked.withPort (hmarked.port.unorphaned ((congrArg Port.state hport).trans hstate)))

theorem powered (x : Power) (s : State) : Records (s.powered x) := by
  refine ⟨.of_idle rfl rfl rfl rfl, ?_, ?_⟩
  · have hdefault : ∀ v ∈ defaultSeverities, v ≤ 2 := by decide
    exact ⟨Episode.empty_sound, Episode.empty_sound, Episode.empty_sound, rfl, hdefault⟩
  · exact ⟨⟨nofun, rfl⟩, rfl, rfl, .nil⟩

/-! ### The minute and the boundaries (chapters 2 to 5, 7 and 9) -/

theorem execOrderBookBoundary (h : Records s) : RecordsNext (execOrderBookBoundary s) := by
  unfold Machine.execOrderBookBoundary
  split
  · exact .next h
  · next u rest _ =>
    have hrest : Tidy { s with mail.orderBook := rest } := h.tables.aside rfl
    exact .next (h.fixed (by simp) (hrest.bookBoundary u).arbitrate)

theorem execScheduledOrderNotice (n : Nat) (h : Records s) : RecordsNext (execScheduledOrderNotice n s) := by
  unfold Machine.execScheduledOrderNotice
  split
  · exact .next h
  · next g rest _ =>
    have hrest : Tidy { s with mail.notices := rest } := h.tables.aside rfl
    exact .next (h.fixed (by simp) (hrest.takeNotice g).arbitrate)

theorem execReleaseControlBoundary (h : Records s) : RecordsNext (execReleaseControlBoundary s) := by
  unfold Machine.execReleaseControlBoundary
  split
  · exact .next h
  · next u rest _ =>
    have hrest : Tidy { s with mail.release := rest } := h.tables.aside rfl
    exact .next (h.fixed (by simp) hrest.recheckAll.arbitrate)

theorem execMeterBoundary (h : Records s) : RecordsNext (execMeterBoundary s) := by
  unfold Machine.execMeterBoundary
  split
  · exact .next h
  · next u rest _ =>
    have hrest : Tidy { s with mail.meter := rest } := h.tables.aside rfl
    exact .next (h.fixed (by simp) (hrest.meterBoundary u))

theorem execSweepBoundary (h : Records s) : RecordsNext (execSweepBoundary s) := by
  unfold Machine.execSweepBoundary
  split
  · exact .next h
  · next rest _ =>
    have hrest : Tidy { s with mail.sweep := rest } := h.tables.aside rfl
    exact .next (h.fixed (by simp) hrest.skipPassed)

/-! ### The field line and its deliveries (chapters 5 to 7) -/

theorem execOutFrameSent (h : Records s) : RecordsNext (execOutFrameSent s) := by
  unfold Machine.execOutFrameSent
  split
  · exact .next h
  · exact .ite (.next (h.fixed rfl (h.tables.aside rfl))) (.next h)

theorem execAttemptDeadline (h : Records s) : RecordsNext (execAttemptDeadline s) := by
  unfold Machine.execAttemptDeadline
  split
  · exact .next h
  · exact .ite (.next h) (.ite (.next (h.fixed (by simp) (h.tables.endUnanswered _).arbitrate))
      (.next (h.fixed (by simp) (h.tables.aside rfl))))

theorem execReplyKindByte (a k : Byte) (h : Records s) : RecordsNext (execReplyKindByte a k s) := by
  unfold Machine.execReplyKindByte
  split
  · exact .next h
  · refine .ite ?_ (.next h)
    split
    · exact .next (h.fixed rfl (h.tables.aside rfl))
    · exact .next (h.fixed (by simp) (h.tables.badReply _ 0).arbitrate)

theorem execFieldReply (f : List Byte) (h : Records s) : RecordsNext (execFieldReply f s) := by
  unfold Machine.execFieldReply
  split
  · exact .next h
  · next x _ =>
    refine .ite (.next h) ?_
    split
    · exact .ite (.next (h.fixed (by simp) (h.tables.badReply x 0).arbitrate)) (.next h)
    · next n _ =>
      exact .ite (.next h) (.ite (.next (h.fixed (by simp) (h.tables.endAnswered x (f.take n)).arbitrate))
        (.next (h.fixed (by simp) (h.tables.badReply x n).arbitrate)))

theorem execAppliedSetpointReport (n x : Nat) (h : Records s) : RecordsNext (execAppliedSetpointReport n x s) := by
  unfold Machine.execAppliedSetpointReport
  split
  · exact .next h
  · next rest _ =>
    have hrest : Tidy { s with mail.applied := rest } := h.tables.aside rfl
    exact .next (.ite (h.fixed (by simp) (hrest.clearCloseOwed n).arbitrate) (h.fixed rfl hrest))

theorem execGateReport (n : Nat) (w : Switch) (g : Nat) (b : Bool) (h : Records s) :
    RecordsNext (execGateReport n w g b s) := by
  unfold Machine.execGateReport
  dsimp only
  split
  · exact .next h
  · next rest _ =>
    have hrest : Tidy { s with mail.gates := rest } := h.tables.aside rfl
    exact .next (h.fixed (by simp) (hrest.takeGate _).arbitrate)

theorem execMeterReading (n x : Nat) (b : Bool) (h : Records s) : RecordsNext (execMeterReading n x b s) := by
  unfold Machine.execMeterReading
  dsimp only
  split
  · exact .next h
  · next rest _ =>
    have hrest : Tidy { s with mail.readings := rest } := h.tables.aside rfl
    exact .next (h.fixed (by simp) (hrest.takeReading _))

theorem execErrorReport (k : ErrorKind) (r : ErrorRef) (h : Records s) : RecordsNext (execErrorReport k r s) := by
  unfold Machine.execErrorReport
  split
  · exact .next h
  · exact .next ⟨h.port, h.faults.take _, h.tables.aside rfl⟩

theorem execHoldRequest (h : Records s) : RecordsNext (execHoldRequest s) := by
  unfold Machine.execHoldRequest
  split
  · exact .next h
  · next n _ =>
    have hrest : Tidy { s with mail.holds := n } := h.tables.aside rfl
    exact .next (h.fixed (by simp) hrest.holdLine)

/-! ### Sweep steps (chapter 9) -/

theorem execCurtailStep (h : Records s) : RecordsNext (execCurtailStep s) := by
  unfold Machine.execCurtailStep
  split
  · exact .next h
  · next w _ => exact .next (h.fixed (by simp) (h.tables.curtailVisit w).arbitrate)

theorem execSupplyBumpStep (h : Records s) : RecordsNext (execSupplyBumpStep s) := by
  unfold Machine.execSupplyBumpStep
  split
  · exact .next h
  · next w _ => exact .next (h.fixed (by simp) (h.tables.bumpVisit w).arbitrate)

theorem execPeriodCloseStep (h : Records s) : RecordsNext (execPeriodCloseStep s) := by
  unfold Machine.execPeriodCloseStep
  split
  · exact .next h
  · next w _ => exact .next (h.fixed (by simp) (h.tables.closeVisit w))

theorem execSeasonOpenStep (h : Records s) : RecordsNext (execSeasonOpenStep s) := by
  unfold Machine.execSeasonOpenStep
  split
  · exact .next h
  · next w _ => exact .next (h.fixed (by simp) (h.tables.seasonVisit w))

theorem execSweepEnd (h : Records s) : RecordsNext (execSweepEnd s) := by
  unfold Machine.execSweepEnd
  split
  · exact .next h
  · exact .ite (.next (h.fixed (by simp) (h.tables.closeSweep .done).reexamine.arbitrate)) (.next h)

/-! ### Every command -/

/-- An event that is no request. -/
theorem exec_event {c : Instr} (hc : (requestBytes c).isSome = false) (h : Records s) : RecordsNext (exec c s) := by
  cases c
  case command m => exact h.execCommand m
  case fetch bits => exact h.execFetch bits
  case status piece => exact h.execStatus piece
  case ignoredTransaction m => exact .next (h.drive _ _)
  case resetAsserted => exact h.execResetAsserted
  case resetReleased => exact .next ⟨h.port, h.faults, h.tables.aside rfl⟩
  case orphanCompletion => exact h.execOrphanCompletion
  case powerOn => exact .next (.powered _ s)
  case powerOnInitComplete => exact .next (.ite ⟨h.port, h.faults, h.tables.aside rfl⟩ h)
  case powerOff => exact .next (.powered _ s)
  case minuteEdge => exact .next (.ite (h.fixed (by simp) h.tables.minute) h)
  case orderBookBoundary => exact h.execOrderBookBoundary
  case scheduledOrderNotice n => exact h.execScheduledOrderNotice n
  case releaseControlBoundary => exact h.execReleaseControlBoundary
  case meterBoundary => exact h.execMeterBoundary
  case sweepBoundary => exact h.execSweepBoundary
  case pollIntervalElapsed a =>
    exact .ite (.next (h.fixed (by simp) (h.tables.setStation _ _).arbitrate)) (.next h)
  case outFrameSent => exact h.execOutFrameSent
  case attemptDeadline => exact h.execAttemptDeadline
  case replyKindByte a k => exact h.execReplyKindByte a k
  case fieldReply f => exact h.execFieldReply f
  case appliedSetpointReport n x => exact h.execAppliedSetpointReport n x
  case gateReport n w g b => exact h.execGateReport n w g b
  case meterReading n x b => exact h.execMeterReading n x b
  case errorReport k r => exact h.execErrorReport k r
  case holdRequest => exact h.execHoldRequest
  case curtailStep => exact h.execCurtailStep
  case supplyBumpStep => exact h.execSupplyBumpStep
  case periodCloseStep => exact h.execPeriodCloseStep
  case seasonOpenStep => exact h.execSeasonOpenStep
  case sweepEnd => exact h.execSweepEnd
  all_goals cases hc

theorem exec (c : Instr) (h : Records s) : RecordsNext (exec c s) := by
  cases hc : (requestBytes c).isSome with
  | false => exact h.exec_event hc
  | true =>
    cases hp : isPlace c with
    | true =>
      cases c
      case place n u d f o l k => exact h.execPlace n u d f o l k
      all_goals cases hp
    | false =>
      by_cases hs : c = .softReset
      · subst hs
        exact .ite (.next h.warmReset) (.next h)
      · exact h.exec_request hc hp hs

theorem step (h : Records s) : RecordsNext (step s) := by
  unfold Machine.step
  split
  · exact .next h
  · next c rest _ =>
    have hrest : Records { s with pending := rest } := ⟨h.port, h.faults, h.tables.aside rfl⟩
    exact hrest.exec c

end Records

/-- Settles O57: the invariant is the port, the Fault Unit and the five tables; each command writes them through
operations that keep them. -/
theorem stepKeepsTheRecordsSound : Obligations.StepKeepsTheRecordsSound := by
  intro s t hs ht
  exact t.sound_iff.2 (Records.step (s.sound_iff.1 hs) t ht)

end Sys2Proof.Machine
end
